-- ==== Sys2Proof/Word.lean ====
section
/-! DEFINITION. The words of the TZ4180: a byte of the line bus, of a record or of flash, and the sixteen-member
sets (station sets, deviation class sets) that the manual numbers bit by bit. Quantities that the manual counts,
compares and saturates are `Nat` (or `Int` where they are signed) everywhere else. -/
namespace Sys2Proof

/-- One byte of a frame, a record, a flash page or the configuration image. -/
abbrev Byte := BitVec 8

/-- A set of sixteen members held bit by bit: deviation classes 0 to 15, segments 0 to 15, or stations 1 to 16
(bit `s - 1` for station `s`). -/
abbrev Set16 := BitVec 16

end Sys2Proof
end

