-- ==== Sys2Proof/Syntax.lean ====
section
/-! DEFINITION. The commands of the TZ4180: one constructor of `Instr` for each row of spec/opcode_table.json, in the
table's order, with the operands the row's rule reads from outside the block. -/
namespace Sys2Proof

/-- The two leak-test circuits: 1, the housing; 2, the wheel-end hubs (introduction, Terms). -/
inductive CircuitId where
  | one
  | two
  deriving DecidableEq, Repr

/-- The two axle inputs whose falling edges R16 takes. -/
inductive AxleInput where
  | axlePresent
  | clampClosed
  deriving DecidableEq, Repr

/-- The reset causes that hold the station in reset (R196). RESTART is no cause of this kind: it comes from an order. -/
inductive HardReset where
  | powerOn
  | brownOut
  | pin
  deriving DecidableEq, Repr

/-- The stand's level inputs as they stand when an order is taken (R3). The table has no row for their rising
edges, so the command that tests the levels carries them (assumption 3). -/
structure StandLines where
  axlePresent : Bool
  clampClosed : Bool
  standStopOpen : Bool
  driveReady : Bool
  deriving DecidableEq, Repr

/-- The commands and events of the block. An order's `dest` is its destination byte and its `body` the payload
bytes after the order code (R180, Layouts: Order payloads). -/
inductive Instr where
  /-- ABORT (R14, R182). -/
  | abort (dest : Byte) (body : List Byte)
  /-- FIND (R172, R183). -/
  | find (dest : Byte) (body : List Byte)
  /-- ITEM (R184). -/
  | item (dest : Byte) (body : List Byte)
  /-- PHASES (R105, R185). -/
  | phases (dest : Byte) (body : List Byte)
  /-- RDNEW (R171, R186). -/
  | rdnew (dest : Byte) (body : List Byte)
  /-- RDSEQ (R170, R187). -/
  | rdseq (dest : Byte) (body : List Byte)
  /-- RESTART (R188), with the strap pins as they stand, which a RESTART reads (R192). -/
  | restart (straps : BitVec 4) (dest : Byte) (body : List Byte)
  /-- START (R3, R4, R189), with the stand's level inputs as they stand. -/
  | start (lines : StandLines) (dest : Byte) (body : List Byte)
  /-- STORE_READ_SERVED (R165). -/
  | storeReadServed
  /-- FULL_POSTING_RECEIVED (R28, R29): kind byte B0h if `event`, else A0h, with the own mark of R178. -/
  | fullPostingReceived (event own : Bool) (source : Byte) (payload : List Byte)
  /-- REPEAT_POSTING_RECEIVED (R28, R30), with the own mark of R178. -/
  | repeatPostingReceived (own : Bool) (station : Byte)
  /-- FRAME_END (R176): a recessive gap longer than 6u. -/
  | frameEnd
  /-- PULSE_ERROR (R175): a dominant pulse of `ns` nanoseconds, of no valid width or in the wrong place. -/
  | pulseError (ns : Nat)
  /-- LINE_STUCK (R175): a dominant pulse reaches 15u. -/
  | lineStuck
  /-- TRANSMIT_ATTEMPT (R25). -/
  | transmitAttempt
  /-- ARBITRATION_WON (R26, R178). -/
  | arbitrationWon
  /-- ARBITRATION_LOST (R27, R178). -/
  | arbitrationLost
  /-- FRAME_SENT (R26, R181). -/
  | frameSent
  /-- RESTART_TIMEOUT (R188). -/
  | restartTimeout
  /-- POSTING_PERIOD_EXPIRY (R22). Each operand says whether PEER's ageing is taken before that reader's tests,
  either order being the device's behaviour (R66, R119). -/
  | postingPeriodExpiry (ageBeforeLsn ageBeforeLeak : Bool)
  /-- RAMP_STEP (R45, R60). -/
  | rampStep
  /-- INDEX_PULSE (R41, R84), at the reading `us` of the 1 µs count. -/
  | indexPulse (us : Nat)
  /-- INDEX_TIMEOUT (R41). -/
  | indexTimeout
  /-- COUNTING_PULSE (R82). -/
  | countingPulse
  /-- CONVERSION_COMPLETE (R83), with the fast converter's 12-bit code. -/
  | conversionComplete (code : BitVec 12)
  /-- PHASE_BOUNDARY (R102). -/
  | phaseBoundary
  /-- SLOW_CONVERSION_COMPLETE (R103), with the slow converter's 12-bit code. -/
  | slowConversionComplete (code : BitVec 12)
  /-- OIL_HISTORY_APPEND (R57). -/
  | oilHistoryAppend
  /-- DEFERRAL_LIMIT (R73). -/
  | deferralLimit
  /-- AIR_WAIT_LIMIT (R120). -/
  | airWaitLimit (c : CircuitId)
  /-- FILL_TIMER_EXPIRY (R122). -/
  | fillTimerExpiry (c : CircuitId)
  /-- STABILISE_TIMER_EXPIRY (R123). -/
  | stabiliseTimerExpiry (c : CircuitId)
  /-- MEASURE_TIMER_EXPIRY (R126). -/
  | measureTimerExpiry (c : CircuitId)
  /-- VENT_TIMER_EXPIRY (R127). -/
  | ventTimerExpiry (c : CircuitId)
  /-- SWAP_STEP_DONE (R161, R163), with the outcome of the step's verify. -/
  | swapStepDone (verified : Bool)
  /-- SWAP_END (R162). -/
  | swapEnd
  /-- DRIVE_READY_FALL (R58). -/
  | driveReadyFall
  /-- STAND_STOP_OPEN (R15). -/
  | standStopOpen
  /-- AXLE_INPUT_FALL (R16). -/
  | axleInputFall (which : AxleInput)
  /-- SUPPLY_WARNING_RAISED (R197). -/
  | supplyWarningRaised
  /-- SUPPLY_WARNING_CLEARED (R164, R197). -/
  | supplyWarningCleared
  /-- RESET (R196). -/
  | reset (kind : HardReset)
  /-- RESET_RELEASE (R192, R195), with the strap pins and whether the supply stands below the warning level. -/
  | resetRelease (straps : BitVec 4) (supplyLow : Bool)
  /-- IMAGE_READ_DONE (R193), with the bytes the configuration memory gave before it stopped answering. -/
  | imageReadDone (image : List Byte)
  /-- STORE_SCAN_DONE (R167, R168). -/
  | storeScanDone
  /-- BUS_IDLE (R175): the bus has been recessive for 8u. -/
  | busIdle
  /-- START_PULSE (R175): a dominant pulse of `ns` nanoseconds, of a start's width. -/
  | startPulse (ns : Nat)
  /-- BIT_PULSE (R175, R176): a dominant pulse of `ns` nanoseconds, of a bit's width. -/
  | bitPulse (ns : Nat)
  deriving DecidableEq, Repr

end Sys2Proof
end

