-- ==== Sys2Proof/Decode.lean ====
section
/-! DEFINITION. The command that a word spells by the table's bits. No row of spec/opcode_table.json gives bits: a command of
this block is an order, an event of the line or of a pin, or a timer's expiry, and no word spells one. -/
namespace Sys2Proof

/-- The command a word of `nbits` bits spells: none, for any word. -/
def decodeTableWord (_nbits _w : Nat) : Option Instr := none

end Sys2Proof
end

