-- ==== Sys2Proof/Config.lean ====
section
/-! DEFINITION. What the spec leaves open for this block: constants without a body, so that nothing can be proved of
their values. Each is marked in the assumption log. -/
namespace Sys2Proof.Config

/-- Free value: which bits of a flash byte a step of a swap that was cut off or failed its verify has not yet cleared, or
of an erase those it has already set (R163, R166), for the `n`-th such event and the byte's address (assumption 8). -/
opaque cutByte : Nat → Nat → Byte

/-- Free value: whether PEER's ageing is taken before LSN's tests at an expiry the block's own timer raises
(R66), for the `n`-th draw (assumption 6). -/
opaque ageBeforeLsn : Nat → Bool

/-- Free value: whether PEER's ageing is taken before LEAK's tests at an expiry the block's own timer raises
(R119), for the `n`-th draw (assumption 6). -/
opaque ageBeforeLeak : Nat → Bool

/-- Free value: where in the order of events that fall at one moment the `k`-th is taken, for the `n`-th draw
(assumption 6). -/
opaque eventPlace : Nat → Nat → Nat

/-- Free values: the stand's level inputs and the strap pins as they stand at an event that carries no levels of its own
and at which a START may be judged (R3) or a RESTART taken (R192), for the `n`-th draw (assumption 3). -/
opaque axlePresentAt : Nat → Bool
opaque clampClosedAt : Nat → Bool
opaque standStopOpenAt : Nat → Bool
opaque driveReadyAt : Nat → Bool
opaque strapsAt : Nat → BitVec 4

/-- Free value: the measured speed for a period of 0 µs, for which R41 states no result (assumption 9). -/
opaque speedOfNoPeriod : BitVec 16

/-- Free value: a revolution's speed for a period of 0 µs, for which R87 states no result (assumption 9). -/
opaque revSpeedOfNoPeriod : Nat

end Sys2Proof.Config
end

