-- ==== Sys2Proof/Machine/Data.lean ====
section
/-! DEFINITION. The data of the TZ4180's eleven blocks, block by block as the introduction's block table lists them: the
named values each chapter gives, and one structure for the state each block owns. Plain data throughout. -/
namespace Sys2Proof.Machine

/-! ## The station and its own posting (CYC, PEER) -/

/-- The station states of The Axle Cycle, in the order of their posting codes 0 to 6. -/
inductive StationState where
  | starting
  | unconfigured
  | idle
  | testing
  | aborting
  | closing
  | done
  deriving DecidableEq, Repr

/-- The verdicts, in the order of their codes 0 to 6 (Layouts: Verdict codes). `unset` is NONE. -/
inductive Verdict where
  | unset
  | pass
  | passNoted
  | retest
  | reject
  | opened
  | incomplete
  deriving DecidableEq, Repr

/-- The acoustic class of a posting (R20, R53). A peer may post a code other than those of QUIET and LOUD; R28
does not discard it, and it is kept as posted (assumption 15). -/
inductive Acoustic where
  | quiet
  | loud
  | other (code : Byte)
  deriving DecidableEq, Repr

/-- The posted listen states (R20). -/
inductive Listen where
  | unclaimed
  | claim
  | listen
  deriving DecidableEq, Repr

/-- The posted air states of a circuit (R20, R113). -/
inductive AirState where
  | unclaimed
  | wait
  | intent
  | fill
  deriving DecidableEq, Repr

/-- The four reset kinds (R196). -/
inductive ResetCause where
  | powerOn
  | brownOut
  | pin
  | restart
  deriving DecidableEq, Repr

/-- The fields of a posting: the own posting state (R20) and the posted fields of a peer entry. -/
structure Posting where
  cycleState : StationState
  programme : Nat
  openSeq : Nat
  lastVerdict : Verdict
  acoustic : Acoustic
  listen : Listen
  listenAge : Nat
  air1 : AirState
  air2 : AirState
  airAge : Nat
  demand : Nat
  yielding : Bool
  unconfigured : Bool
  dupStation : Bool
  storeFault : Bool
  supplyWarning : Bool
  resetCause : ResetCause
  deriving DecidableEq, Repr

/-- One entry of the peer table: the posted fields, the entry age 0 to 7 and the time heard. -/
structure PeerEntry where
  station : Nat
  post : Posting
  age : Nat
  heard : Nat
  deriving DecidableEq, Repr

/-- PEER's state. `periodLeft` counts down the posting period timer in ms; 0 is a timer at its expiry or stopped. -/
structure Peer where
  posting : Posting
  lastFull : Option Posting
  latch : Bool
  due : Bool
  repeats : Nat
  table : List PeerEntry
  dupCount : Nat
  periodLeft : Nat
  period : Nat
  deriving DecidableEq, Repr

/-! ## Configuration (CFG) -/

/-- One segment of a run-in profile (R40), with the kind and direction codes as held. -/
structure Segment where
  kindCode : Nat
  dirCode : Nat
  yieldable : Bool
  leakStart : Bool
  target : Nat
  startSpeed : Nat
  endSpeed : Nat
  rate : Nat
  duration : Nat
  torqueLimit : Nat
  deriving DecidableEq, Repr

/-- The parameter set of one circuit (R112). -/
structure CircuitParams where
  volume : Nat
  testPressure : Nat
  grossFloor : Nat
  fillMs : Nat
  stabiliseMs : Nat
  measureTenths : Nat
  ventMs : Nat
  drift : Nat
  leakLimit : Nat
  riseTolerance : Nat
  airWaitLimit : Nat
  deriving DecidableEq, Repr

/-- One programme section of the configuration image. Limit curves hold 32 band limits, `segments` 16 segments. -/
structure Programme where
  definedFlag : Bool
  segCount : Nat
  enable1 : Bool
  enable2 : Bool
  maxSpeed : Nat
  abortRate : Nat
  oilLimit : Nat
  oilRiseLimit : Nat
  trackTolerance : Nat
  powerWaitLimit : Nat
  noiseBase : Nat
  bandWidth : Nat
  lo : Nat
  hi : Nat
  nmin : Nat
  rmax : Nat
  curve1 : List Nat
  curve2 : List Nat
  segments : List Segment
  params1 : CircuitParams
  params2 : CircuitParams
  deriving DecidableEq, Repr

/-- The station section of the configuration image. `severity` holds 16 codes, `table` 32 channel codes. -/
structure StationSection where
  acousticSet : Set16
  airSet : Set16
  headerLimit : Nat
  floorShare : Nat
  lineBudget : Nat
  stationCap : Nat
  eCode : Nat
  quietLimit : Nat
  speedLimit : Nat
  period : Nat
  yieldBudget : Nat
  deferralMax : Nat
  mask : Set16
  severity : List Nat
  table : List Nat
  deriving DecidableEq, Repr

/-- CFG's state: the station number, the sections in force, the load outcome and the nine clamped-at-load flags
(bit 0 the station section, bit `p + 1` programme `p`). -/
structure Cfg where
  number : Nat
  station : StationSection
  programmes : List Programme
  passed : Bool
  clamped : BitVec 9
  deriving DecidableEq, Repr

/-! ## Deviations (DEV) -/

/-- The sixteen deviation classes, in the order of their numbers (R142). -/
inductive DevClass where
  | torqueHigh
  | oilTempHigh
  | oilRiseRate
  | speedTrack
  | noiseV1
  | noiseV2
  | noiseCoverage
  | grossLeak
  | leakRate
  | pressureRise
  | sampleStarved
  | airWait
  | powerWait
  | contaminated
  | standStop
  | aborted
  deriving DecidableEq, Repr

/-- The three severities (R143), in the order of their codes. -/
inductive Severity where
  | advisory
  | retest
  | fatal
  deriving DecidableEq, Repr

/-- A deviation event as its source hands it over (R141). `place` is the where-field as the record lays it out: a
segment or a circuit, or 256 × channel + band. -/
structure DevEvent where
  cls : DevClass
  place : Nat
  measured : Nat
  limit : Nat
  deriving DecidableEq, Repr

/-- The first-deviation detail (R146). -/
structure DevDetail where
  place : Nat
  time : Nat
  measured : Nat
  limit : Nat
  deriving DecidableEq, Repr

/-- DEV's state. -/
structure Dev where
  status : Set16
  maskedSeen : Set16
  first : Option DevClass
  detail : DevDetail
  firstFatal : Bool
  multiple : Bool
  count : Nat
  deriving DecidableEq, Repr

/-! ## Run-in (RUN) -/

/-- The four segment kinds (R40). -/
inductive SegKind where
  | ramp
  | dwell
  | sweep
  | stop
  deriving DecidableEq, Repr

/-- The two directions of rotation. -/
inductive Direction where
  | forward
  | reverse
  deriving DecidableEq, Repr

/-- RUN's five states (R42). -/
inductive RunState where
  | off
  | segment
  | held
  | stopping
  | complete
  deriving DecidableEq, Repr

/-- The four stages of a SWEEP segment (R47). -/
inductive SweepStage where
  | deferred
  | approach
  | sweeping
  | assessing
  deriving DecidableEq, Repr

/-- The end reasons of a run-in (R60), in the order of their record codes. -/
inductive EndReason where
  | profileEnd
  | fatalStop
  | trackStop
  | abort
  | standStop
  deriving DecidableEq, Repr

/-- The hold set (R48). -/
structure Holds where
  power : Bool
  yields : Bool
  defer : Bool
  reversal : Bool
  deriving DecidableEq, Repr

/-- RUN's state. Times are in ms; `rampLeft` counts down the 20 ms ramp-step timer, 0 being stopped or at its
expiry; `sinceIndex` counts the ms since the last index pulse up to 1500. -/
structure Run where
  state : RunState
  seg : Nat
  stage : SweepStage
  cmd : Nat
  dir : Direction
  measured : Nat
  lastIndex : Option Nat
  sinceIndex : Nat
  holds : Holds
  dwellMs : Nat
  trackCount : Nat
  yieldMs : Nat
  powerMs : Nat
  yieldExhausted : Bool
  powerWaitMark : Bool
  oilTempMark : Bool
  oilRiseMark : Bool
  torqueMarks : Set16
  trackMarks : Set16
  oilHistory : List Nat
  torque : Int
  oilCode : Option Nat
  rampLeft : Nat
  leakTold : Bool
  lastSum : Nat
  lastAllowed : Nat
  maxTorque : Nat
  maxOil : Nat
  segsDone : Nat
  driveLost : Bool
  endReason : EndReason
  deriving DecidableEq, Repr

/-! ## Quiet windows (LSN) and noise check (VIB) -/

/-- LSN's four states. -/
inductive LsnState where
  | inactive
  | deferring
  | claiming
  | listening
  deriving DecidableEq, Repr

/-- LSN's state; the deferral times are in ms. -/
structure Lsn where
  state : LsnState
  claimAge : Nat
  settle : Nat
  deferralMs : Nat
  forced : Bool
  totalDeferralMs : Nat
  forcedCount : Nat
  contamination : Bool
  deriving DecidableEq, Repr

/-- VIB's three states (R80). -/
inductive VibState where
  | idle
  | sampling
  | holding
  deriving DecidableEq, Repr

/-- The two fast channels. -/
inductive FastChannel where
  | v1
  | v2
  deriving DecidableEq, Repr

/-- A revolution: the open one, or a closed one waiting for its conversion in flight (R84). -/
structure Rev where
  pulses : Nat
  sum1 : Nat
  sum2 : Nat
  skipped : Bool
  contaminated : Bool
  openedAt : Nat
  deriving DecidableEq, Repr

/-- The revolution a fast conversion in flight belongs to (R83). -/
inductive ConvOwner where
  | opened
  | closed
  | discarded
  deriving DecidableEq, Repr

/-- A fast conversion in flight. -/
structure Conv where
  channel : FastChannel
  owner : ConvOwner
  deriving DecidableEq, Repr

/-- One cell of the noise table (R89, R92). -/
structure NoiseCell where
  peak : Nat
  count : Nat
  raised : Bool
  deriving DecidableEq, Repr

/-- The five counts VIB keeps for a pass and for a cycle (R86, R88). -/
structure RevCounts where
  kept : Nat
  contaminated : Nat
  slipped : Nat
  skipped : Nat
  outOfBand : Nat
  deriving DecidableEq, Repr

/-- The noise summary (R98). -/
structure NoiseSummary where
  worstBand1 : Option Nat
  worstMargin1 : Int
  worstBand2 : Option Nat
  worstMargin2 : Int
  covered : Nat
  contaminated : Nat
  slipped : Nat
  skipped : Nat
  sweepRepeats : Nat
  listenDone : Nat
  deriving DecidableEq, Repr

/-- VIB's state: the fast converter (`conv`), the open revolution, the revolution closed with a conversion of its own
in flight together with its period in µs, the counts, the noise table (two lists of 32 cells) and the summary. -/
structure Vib where
  state : VibState
  conv : Option Conv
  shadow : FastChannel
  openRev : Option Rev
  closedRev : Option (Rev × Nat)
  pass : RevCounts
  cycle : RevCounts
  sweepRepeats : Nat
  cells1 : List NoiseCell
  cells2 : List NoiseCell
  repeatCount : Nat
  listenDone : Nat
  contaminatedMark : Bool
  summary : NoiseSummary
  deriving DecidableEq, Repr

/-! ## The slow converter (SCA) -/

/-- The six slow channels, codes 1 to 6 of the phase table (R101). -/
inductive Slow where
  | torq
  | oilt
  | prs1
  | airt1
  | prs2
  | airt2
  deriving DecidableEq, Repr

/-- A slow channel's latest value, its sampled mark and the ms since its last conversion (R103, R109). -/
structure SlowValue where
  value : Nat
  sampled : Bool
  sinceMs : Nat
  deriving DecidableEq, Repr

/-- SCA's state; `inFlight` is the slow conversion in flight, `rota` whether the rota has been started (R108). -/
structure Sca where
  active : List Nat
  pending : List Nat
  pendingFlag : Bool
  pointer : Nat
  rota : Bool
  inFlight : Option Slow
  torq : SlowValue
  oilt : SlowValue
  prs1 : SlowValue
  airt1 : SlowValue
  prs2 : SlowValue
  airt2 : SlowValue
  deriving DecidableEq, Repr

/-! ## The leak test (LEAK) -/

/-- The eight states of a circuit (R113). -/
inductive CircuitState where
  | off
  | wait
  | intent
  | fill
  | stabilise
  | measure
  | vent
  | done
  deriving DecidableEq, Repr

/-- A circuit's outcome (R113), in the order of its record codes; `absent` until it is set. -/
inductive CircuitOutcome where
  | absent
  | passed
  | leakHigh
  | gross
  | starved
  | rise
  | aborted
  deriving DecidableEq, Repr

/-- One circuit context of LEAK. `timer` counts down the phase timer in ms, 0 being stopped or at its expiry;
`reached` holds WAIT, INTENT, FILL, STABILISE, MEASURE, VENT in bits 0 to 5; `fillTime` counts the ms since FILL
entry, and stands once FILL is left (R122); the averages and counts are those of the summary (R130). -/
structure Circuit where
  state : CircuitState
  reached : BitVec 6
  fillValve : Bool
  isolateValve : Bool
  ventValve : Bool
  timer : Nat
  settle : Nat
  backoff : Nat
  claimAge : Nat
  airWaitMs : Nat
  noted : Nat
  extended : Bool
  startPrs : List Nat
  startAirt : List Nat
  endPrs : List Nat
  endAirt : List Nat
  outcome : CircuitOutcome
  leakRate : Option Nat
  d8 : Int
  fillTime : Nat
  avgStartPrs : Nat
  avgStartAirt : Nat
  avgEndPrs : Nat
  avgEndAirt : Nat
  cntStartPrs : Nat
  cntStartAirt : Nat
  cntEndPrs : Nat
  cntEndAirt : Nat
  deriving DecidableEq, Repr

/-- LEAK's state. `armRefused` is set by an abort: the armed mark is then treated as set (R128). -/
structure Leak where
  c1 : Circuit
  c2 : Circuit
  armed : Bool
  armRefused : Bool
  airWaitMark : Bool
  deriving DecidableEq, Repr

/-! ## The open record (CYC) and its sections -/

/-- The deviation section of a record (R149). -/
structure DevSection where
  status : Set16
  maskedSeen : Set16
  first : Option DevClass
  firstFatal : Bool
  multiple : Bool
  detail : DevDetail
  count : Nat
  deriving DecidableEq, Repr

/-- The run-in section of a record (R61). -/
structure RunSection where
  time : Nat
  maxTorque : Nat
  maxOil : Nat
  powerHold : Nat
  yieldGiven : Nat
  listenDeferral : Nat
  forcedListens : Nat
  segsDone : Nat
  endReason : EndReason
  yieldExhausted : Bool
  driveLost : Bool
  powerWaitRaised : Bool
  deriving DecidableEq, Repr

/-- A circuit section of a record (R130). -/
structure CircuitSection where
  outcome : CircuitOutcome
  reached : BitVec 6
  leakRate : Option Nat
  extended : Bool
  d8 : Int
  avgStartPrs : Nat
  avgStartAirt : Nat
  avgEndPrs : Nat
  avgEndAirt : Nat
  fillTime : Nat
  airWait : Nat
  cntStartPrs : Nat
  cntStartAirt : Nat
  cntEndPrs : Nat
  cntEndAirt : Nat
  deriving DecidableEq, Repr

/-- The open record (R6). `final` is the record state FINAL, otherwise PROVISIONAL. -/
structure OpenRecord where
  seq : Nat
  final : Bool
  verdict : Verdict
  programme : Nat
  station : Nat
  hasNoise : Bool
  has1 : Bool
  has2 : Bool
  serial : List Byte
  resetInterrupted : Bool
  stamp : List Byte
  cycleTime : Nat
  dev : DevSection
  runIn : RunSection
  noise : NoiseSummary
  circuit1 : CircuitSection
  circuit2 : CircuitSection
  deriving DecidableEq, Repr

/-- CYC's state. The cycle timer is kept in ms; `formed` is the verdict formed at the last entry to CLOSING since the
last reset, which DEV's standing verdict shows (R153). -/
structure Cyc where
  station : StationState
  record : Option OpenRecord
  programme : Nat
  timerMs : Nat
  formed : Verdict
  deriving DecidableEq, Repr

/-! ## The result store (STORE) -/

/-- The two pages of a pair (R155). -/
inductive Side where
  | a
  | b
  deriving DecidableEq, Repr

/-- STORE's four states (R159). -/
inductive StoreState where
  | scanning
  | ready
  | swapping
  | faulted
  deriving DecidableEq, Repr

/-- The fault causes (R159). -/
inductive FaultCause where
  | verify
  | spent
  | worn
  deriving DecidableEq, Repr

/-- The kinds of a commit request (R160). -/
inductive CommitKind where
  | checkpoint
  | final
  deriving DecidableEq, Repr

/-- A commit request: its kind, its sequence and the record image, without the closing word STORE adds (R156). -/
structure Request where
  kind : CommitKind
  seq : Nat
  image : List Byte
  deriving DecidableEq, Repr

/-- The swap in flight (R161): the request, whether it is the start-up recovery's, its pair, swap page, position and
new generation, and the step 2 to 7 in hand. -/
structure Swap where
  req : Request
  recovery : Bool
  pair : Nat
  side : Side
  pos : Nat
  gen : Nat
  step : Nat
  deriving DecidableEq, Repr

/-- A page pair's current page and its generation, 0 for an empty pair (R155). -/
structure Pair where
  current : Option Side
  gen : Nat
  deriving DecidableEq, Repr

/-- STORE's state: the flash (24 pages of 1024 bytes as a canonical list of the bytes that do not read erased), the 12
pairs, the state and fault cause, the next sequence number, the swap in flight, the pending image, a recovery waiting
for the supply warning to clear, and the figures of ITEM 9. -/
structure Store where
  flash : List Host.Cell
  pairs : List Pair
  state : StoreState
  cause : Option FaultCause
  nextSeq : Nat
  swap : Option Swap
  pending : Option Request
  recovery : Option Request
  highest : Nat
  valid : Nat
  damaged : Nat
  empty : Nat
  recovered : Nat
  deriving DecidableEq, Repr

/-! ## The line interface (LIF) -/

/-- A frame that has passed R176: a full frame, or a repeat frame's station byte. -/
inductive Frame where
  | full (kind source dest : Byte) (payload : List Byte)
  | short (station : Byte)
  deriving DecidableEq, Repr

/-- A frame of the receive buffer, with the own mark of R178. -/
structure RxFrame where
  frame : Frame
  own : Bool
  deriving DecidableEq, Repr

/-- A frame in progress at the receive classifier: its start, the whole bytes and the bits of a part byte, oldest
first, and the own mark. -/
structure RxProgress where
  isRepeat : Bool
  bytes : List Byte
  bits : List Bool
  own : Bool
  deriving DecidableEq, Repr

/-- The receive classifier (R175, R176). `waitIdle quiet` waits for 8u recessive; `quiet` says that pulse errors
are not counted meanwhile, as after a discard of R176. -/
inductive Classifier where
  | stopped
  | waitIdle (quiet : Bool)
  | waitStart
  | inFrame (p : RxProgress)
  deriving DecidableEq, Repr

/-- A record read STORE has taken and not yet served (R165). -/
inductive StoreRead where
  | seq (s : Nat)
  | newest
  | serial (chars : List Byte)
  deriving DecidableEq, Repr

/-- The order decoder (R180): free, busy with a record read, or held by an accepted RESTART (R188). -/
inductive Decoder where
  | free
  | reading (r : StoreRead)
  | restarting
  deriving DecidableEq, Repr

/-- The outcomes of a reply, in the order of their codes (Layouts: Reply header). -/
inductive ReplyOutcome where
  | accepted
  | refused
  | data
  | notHeld
  | damaged
  | badOrder
  deriving DecidableEq, Repr

/-- The refusal reasons, in the order of their codes 1 to 12. -/
inductive Reason where
  | starting
  | notConfigured
  | busy
  | badProgramme
  | noAxle
  | standStopped
  | driveNotReady
  | storeFault
  | dupStation
  | supplyWarning
  | notTesting
  | closing
  deriving DecidableEq, Repr

/-- A reply of the reply queue (R181). -/
structure Reply where
  order : Byte
  outcome : ReplyOutcome
  reason : Option Reason
  qualifier : Byte
  data : List Byte
  deriving DecidableEq, Repr

/-- What the transmit arbiter chose (R24, R25): the reply at the head, a full posting (of kind EVENT POSTING if
`event`), or a repeat posting. -/
inductive TxChoice where
  | reply
  | full (event : Bool)
  | short
  deriving DecidableEq, Repr

/-- The own transmitter's three states (R25). -/
inductive TxState where
  | idle
  | waiting
  | sending
  deriving DecidableEq, Repr

/-- The own transmitter. `attempting` is set from a frame's begin to the end of its arbitration; `frame` is the frame
being sent, its content fixed at the win (R26). -/
structure Tx where
  state : TxState
  choice : Option TxChoice
  attempting : Bool
  frame : Option Frame
  deriving DecidableEq, Repr

/-- The seven line counters (R190). -/
structure LineCounters where
  pulseErrors : Nat
  lineStuck : Nat
  lengthErrors : Nat
  crcErrors : Nat
  overruns : Nat
  arbLosses : Nat
  repliesDropped : Nat
  deriving DecidableEq, Repr

/-- LIF's state; `busIdle` says that the bus has been recessive for 8u since its last dominant pulse (R174), and
`restartLeft` counts down the 100 ms of an accepted RESTART (R188), absent when none waits. -/
structure Lif where
  classifier : Classifier
  busIdle : Bool
  buffer : List RxFrame
  decoder : Decoder
  replies : List Reply
  tx : Tx
  counters : LineCounters
  restartLeft : Option Nat
  deriving DecidableEq, Repr

/-! ## Start-up, inputs and time -/

/-- Where the start-up sequence of R195 stands: held in reset, reading the image (step 2), scanning (step 5), in a
recovery swap or waiting for one (step 5), or ended. -/
inductive Boot where
  | held
  | readImage
  | scan
  | recover
  | up
  deriving DecidableEq, Repr

/-- The input levels as last seen, the strap pins and the supply below its warning level among them. -/
structure Pins where
  axlePresent : Bool
  clampClosed : Bool
  standStopOpen : Bool
  driveReady : Bool
  straps : BitVec 4
  supplyLow : Bool
  deriving DecidableEq, Repr

/-- The timebase: the quarter of the present millisecond (R102) and the 1 ms count since the last reset. -/
structure Clock where
  quarter : Nat
  ms : Nat
  deriving DecidableEq, Repr

end Sys2Proof.Machine
end

