-- ==== Sys2Proof/Machine/Operands.lean ====
section
/-! DEFINITION. The arithmetic and the byte-level forms shared by every block: saturating counts, the roundings, big-endian
fields, the CRC-16, the integer square root, the classes of line pulses, and the codes of the named values. -/
namespace Sys2Proof.Machine

/-! ## Counts and roundings -/

/-- A count raised by one, saturating at its maximum (introduction: counts and ages saturate). -/
def bump (limit x : Nat) : Nat := min (x + 1) limit

/-- ceil(num / den), the rounding of the power estimates (R50, R51). -/
def ceilDiv (num den : Nat) : Nat := (num + (den - 1)) / den

/-- Round half up of num / den (R133). -/
def roundHalfUp (num den : Nat) : Nat := (num + den / 2) / den

/-- One binary digit of the integer square root: `r` with bit `b` added if its square then stays at or below `n`. -/
def isqrtBit (n r b : Nat) : Nat := if (r + 2 ^ b) * (r + 2 ^ b) ≤ n then r + 2 ^ b else r

/-- The digits of the square root of `n` from bit `k - 1` down, added to `r`. -/
def isqrtFrom (n : Nat) : Nat → Nat → Nat
  | 0, r => r
  | b + 1, r => isqrtFrom n b (isqrtBit n r b)

/-- floor(√n) for every n below 2^32, the range of a sum of squares (R83, R87). -/
def isqrt (n : Nat) : Nat := isqrtFrom n 16 0

/-- A value clamped to the nearer end of its range (R194). -/
def clampTo (lo hi x : Nat) : Nat := max lo (min x hi)

/-! ## Big-endian fields (introduction: most significant byte first) -/

/-- The `k` low bytes of `n`, most significant first. -/
def be : Nat → Nat → List Byte
  | 0, _ => []
  | k + 1, n => BitVec.ofNat 8 (n / 256 ^ k) :: be k n

/-- A signed quantity in `k` bytes of two's complement. -/
def beInt (k : Nat) (i : Int) : List Byte := be k (i % (256 ^ k : Nat)).toNat

/-- The number that bytes spell, most significant first. -/
def fromBe (l : List Byte) : Nat := l.foldl (fun acc b => acc * 256 + b.toNat) 0

/-- The `k`-byte field at an offset. -/
def field (l : List Byte) (off k : Nat) : Nat := fromBe ((l.drop off).take k)

/-- One byte at an offset, 0 past the end. -/
def byteAt (l : List Byte) (off : Nat) : Byte := l.getD off 0

/-- A flag or mark sent as one byte (assumption 13). -/
def flagByte (b : Bool) : Byte := if b then 1 else 0

/-- One bit of a set of flags. -/
def bitAt (i : Nat) (b : Bool) : Nat := if b then 2 ^ i else 0

/-- An optional quantity in `k` bytes, sent with every bit set when absent (R184). -/
def beOpt (k : Nat) : Option Nat → List Byte
  | some n => be k n
  | none => List.replicate k 0xFF

/-! ## The CRC-16 (R177) -/

/-- One bit into the CRC register. -/
def crcBit (reg : BitVec 16) (b : Bool) : BitVec 16 :=
  if reg.msb != b then (reg <<< 1) ^^^ 0x1021#16 else reg <<< 1

/-- One byte into the CRC register, most significant bit first. -/
def crcByte (reg : BitVec 16) (x : Byte) : BitVec 16 :=
  [7, 6, 5, 4, 3, 2, 1, 0].foldl (fun r i => crcBit r (x.getLsbD i)) reg

/-- The CRC over bytes, from a register of FFFFh. -/
def crc16 (l : List Byte) : BitVec 16 := l.foldl crcByte 0xFFFF#16

/-- The two CRC bytes that follow `l`, high byte first. -/
def crcBytes (l : List Byte) : List Byte := be 2 (crc16 l).toNat

/-! ## Pulses (R174, R175), in nanoseconds: u is 1000 -/

/-- The classes of a dominant pulse by its width. -/
inductive PulseClass where
  | bit (b : Bool)
  | startFull
  | startRepeat
  | error
  deriving DecidableEq, Repr

/-- R175's table of widths. -/
def classify (ns : Nat) : PulseClass :=
  if ns < 500 then .error
  else if ns < 1500 then .bit false
  else if ns < 3000 then .bit true
  else if ns < 5000 then .error
  else if ns < 8000 then .startRepeat
  else if ns < 10000 then .error
  else if ns < 15000 then .startFull
  else .error

/-- An element's dominant and recessive phases in units u (R174). -/
def bitElement (b : Bool) : Nat × Nat := if b then (2, 1) else (1, 1)

/-- A byte's bits, most significant first. -/
def byteBits (x : Byte) : List Bool := [7, 6, 5, 4, 3, 2, 1, 0].map x.getLsbD

/-- Bits, oldest first, as the number they spell. -/
def bitsNat (bits : List Bool) : Nat := bits.foldl (fun acc b => acc * 2 + b.toNat) 0

/-! ## Sixteen-member sets -/

/-- Membership of member `i` (0 to 15). -/
def inSet (s : Set16) (i : Nat) : Bool := s.getLsbD i

/-- Member `i` added. -/
def addTo (s : Set16) (i : Nat) : Set16 := s ||| BitVec.twoPow 16 i

/-- Whether station `n` (1 to 16) is in a station set; a station's own number is disregarded (introduction). -/
def inStationSet (s : Set16) (own n : Nat) : Bool := n != own && n != 0 && inSet s (n - 1)

/-! ## Codes of the named values (Layouts) -/

/-- Cycle state codes. -/
def StationState.code : StationState → Nat
  | .starting => 0
  | .unconfigured => 1
  | .idle => 2
  | .testing => 3
  | .aborting => 4
  | .closing => 5
  | .done => 6

/-- The cycle state a code names. -/
def stationOfCode : Nat → Option StationState
  | 0 => some .starting
  | 1 => some .unconfigured
  | 2 => some .idle
  | 3 => some .testing
  | 4 => some .aborting
  | 5 => some .closing
  | 6 => some .done
  | _ => none

/-- Verdict codes. -/
def Verdict.code : Verdict → Nat
  | .unset => 0
  | .pass => 1
  | .passNoted => 2
  | .retest => 3
  | .reject => 4
  | .opened => 5
  | .incomplete => 6

/-- The verdict a posted last-verdict code names: NONE to REJECT (R28). -/
def postedVerdictOfCode : Nat → Option Verdict
  | 0 => some .unset
  | 1 => some .pass
  | 2 => some .passNoted
  | 3 => some .retest
  | 4 => some .reject
  | _ => none

/-- Acoustic class codes. -/
def Acoustic.code : Acoustic → Nat
  | .quiet => 0
  | .loud => 1
  | .other c => c.toNat

/-- The acoustic class a posted byte holds. -/
def acousticOfByte (b : Byte) : Acoustic :=
  if b.toNat = 0 then .quiet else if b.toNat = 1 then .loud else .other b

/-- Posted listen state codes. -/
def Listen.code : Listen → Nat
  | .unclaimed => 0
  | .claim => 1
  | .listen => 2

/-- The posted listen state a code names. -/
def listenOfCode : Nat → Option Listen
  | 0 => some .unclaimed
  | 1 => some .claim
  | 2 => some .listen
  | _ => none

/-- Air state codes. -/
def AirState.code : AirState → Nat
  | .unclaimed => 0
  | .wait => 1
  | .intent => 2
  | .fill => 3

/-- The air state a code names. -/
def airOfCode : Nat → Option AirState
  | 0 => some .unclaimed
  | 1 => some .wait
  | 2 => some .intent
  | 3 => some .fill
  | _ => none

/-- Reset cause codes. -/
def ResetCause.code : ResetCause → Nat
  | .powerOn => 0
  | .brownOut => 1
  | .pin => 2
  | .restart => 3

/-- The reset cause a code names. -/
def resetCauseOfCode : Nat → Option ResetCause
  | 0 => some .powerOn
  | 1 => some .brownOut
  | 2 => some .pin
  | 3 => some .restart
  | _ => none

/-- The kind of a reset from a cause that holds the station in reset (R196). -/
def hardCause : HardReset → ResetCause
  | .powerOn => .powerOn
  | .brownOut => .brownOut
  | .pin => .pin

/-- Deviation class numbers (R142). -/
def DevClass.num : DevClass → Nat
  | .torqueHigh => 0
  | .oilTempHigh => 1
  | .oilRiseRate => 2
  | .speedTrack => 3
  | .noiseV1 => 4
  | .noiseV2 => 5
  | .noiseCoverage => 6
  | .grossLeak => 7
  | .leakRate => 8
  | .pressureRise => 9
  | .sampleStarved => 10
  | .airWait => 11
  | .powerWait => 12
  | .contaminated => 13
  | .standStop => 14
  | .aborted => 15

/-- The severity a code of the station section names; codes above 2 do not survive the load (R143). -/
def severityOfCode : Nat → Severity
  | 0 => .advisory
  | 1 => .retest
  | _ => .fatal

/-- The segment kind a code names; codes above 3 do not survive the clamp of a defined programme (R194). -/
def kindOfCode : Nat → SegKind
  | 0 => .ramp
  | 1 => .dwell
  | 2 => .sweep
  | _ => .stop

/-- The direction a code names. -/
def directionOfCode : Nat → Direction
  | 0 => .forward
  | _ => .reverse

/-- Direction codes. -/
def Direction.code : Direction → Nat
  | .forward => 0
  | .reverse => 1

/-- RUN states by their position in R42's list. -/
def RunState.code : RunState → Nat
  | .off => 0
  | .segment => 1
  | .held => 2
  | .stopping => 3
  | .complete => 4

/-- Sweep stages by their position in R47's list. -/
def SweepStage.code : SweepStage → Nat
  | .deferred => 0
  | .approach => 1
  | .sweeping => 2
  | .assessing => 3

/-- End reason codes (Layouts: Run-in). -/
def EndReason.code : EndReason → Nat
  | .profileEnd => 0
  | .fatalStop => 1
  | .trackStop => 2
  | .abort => 3
  | .standStop => 4

/-- LSN states by their position in R78's list. -/
def LsnState.code : LsnState → Nat
  | .inactive => 0
  | .deferring => 1
  | .claiming => 2
  | .listening => 3

/-- VIB states by their position in R99's list. -/
def VibState.code : VibState → Nat
  | .idle => 0
  | .sampling => 1
  | .holding => 2

/-- Circuit states by their position in R113's list. -/
def CircuitState.code : CircuitState → Nat
  | .off => 0
  | .wait => 1
  | .intent => 2
  | .fill => 3
  | .stabilise => 4
  | .measure => 5
  | .vent => 6
  | .done => 7

/-- Circuit outcome codes (Layouts: Circuit). -/
def CircuitOutcome.code : CircuitOutcome → Nat
  | .absent => 0
  | .passed => 1
  | .leakHigh => 2
  | .gross => 3
  | .starved => 4
  | .rise => 5
  | .aborted => 6

/-- STORE states by their position in R159's list. -/
def StoreState.code : StoreState → Nat
  | .scanning => 0
  | .ready => 1
  | .swapping => 2
  | .faulted => 3

/-- Fault causes by their position in R159's list. -/
def FaultCause.code : FaultCause → Nat
  | .verify => 0
  | .spent => 1
  | .worn => 2

/-- Commit kinds by their position in R160's list. -/
def CommitKind.code : CommitKind → Nat
  | .checkpoint => 0
  | .final => 1

/-- Reply outcome codes (Layouts: Reply header). -/
def ReplyOutcome.code : ReplyOutcome → Nat
  | .accepted => 0
  | .refused => 1
  | .data => 2
  | .notHeld => 3
  | .damaged => 4
  | .badOrder => 5

/-- Refusal reason codes (Layouts: Reply header). -/
def Reason.code : Reason → Nat
  | .starting => 1
  | .notConfigured => 2
  | .busy => 3
  | .badProgramme => 4
  | .noAxle => 5
  | .standStopped => 6
  | .driveNotReady => 7
  | .storeFault => 8
  | .dupStation => 9
  | .supplyWarning => 10
  | .notTesting => 11
  | .closing => 12

/-- The slow channel a phase table entry names; 0 is IDLE (R101). -/
def slowOfCode : Nat → Option Slow
  | 1 => some .torq
  | 2 => some .oilt
  | 3 => some .prs1
  | 4 => some .airt1
  | 5 => some .prs2
  | 6 => some .airt2
  | _ => none

/-- Channel codes of the slow channels. -/
def Slow.code : Slow → Nat
  | .torq => 1
  | .oilt => 2
  | .prs1 => 3
  | .airt1 => 4
  | .prs2 => 5
  | .airt2 => 6

/-- Circuit numbers. -/
def circuitNum : CircuitId → Nat
  | .one => 1
  | .two => 2

/-- The pressure channel of a circuit. -/
def prsOf : CircuitId → Slow
  | .one => .prs1
  | .two => .prs2

/-- The air temperature channel of a circuit. -/
def airtOf : CircuitId → Slow
  | .one => .airt1
  | .two => .airt2

/-! ## Conversions (introduction) -/

/-- Torque in N·m of a TORQ code. -/
def torqueOf (code : Nat) : Int := ((code : Int) - 2048) * 2

/-- Centred value of a fast code. -/
def centred (code : Nat) : Int := (code : Int) - 2048

/-- The measured speed of an index period in µs: floor(60 000 000 / period), held in 16 bits (R41). -/
def speedOf (period : Nat) : Nat :=
  if period = 0 then Config.speedOfNoPeriod.toNat else min (60000000 / period) 65535

/-- A revolution's own speed (R87). -/
def revSpeedOf (period : Nat) : Nat :=
  if period = 0 then Config.revSpeedOfNoPeriod else 60000000 / period

end Sys2Proof.Machine
end

