-- ==== Sys2Proof/Machine/LeakRate.lean ====
section
/-! DEFINITION. The leak-rate computation by its stages (Leak Rate Arithmetic, R133 to R139), on the four window sums and
the circuit's parameters. It holds no state. -/
namespace Sys2Proof.Machine

/-- The four window sums at the measure timer's expiry (R133). -/
structure WindowSums where
  startPrs : Nat
  startAirt : Nat
  endPrs : Nat
  endAirt : Nat
  deriving DecidableEq, Repr

/-- An absolute pressure in eighth-pascals (R134). -/
def absPressure8 (prsSum : Nat) : Nat := prsSum * 25 + 810600

/-- An absolute temperature in 1/160 K (R134). -/
def absTemp (airtSum : Nat) : Nat := airtSum + 40504

/-- The expected end pressure in eighth-pascals (R135). -/
def expectedPressure8 (w : WindowSums) : Nat :=
  roundHalfUp (absPressure8 w.startPrs * absTemp w.endAirt) (absTemp w.startAirt)

/-- The leak drop D8 in eighth-pascals (R136). -/
def leakDrop8 (w : WindowSums) : Int :=
  (expectedPressure8 w : Int) - (absPressure8 w.endPrs : Int)

/-- The reported leak rate for a positive drop, in 0.01 cm³/min, held at 65 535 (R138). -/
def leakRateOf (d8 : Nat) (p : CircuitParams) : Nat :=
  min (roundHalfUp (d8 * p.volume * 7500) (101325 * p.measureTenths)) 65535

/-- What the computation hands to R126: the drop, the rate, the outcome, and the class raised with its measured and
limit values. -/
structure LeakResult where
  d8 : Int
  rate : Nat
  outcome : CircuitOutcome
  raised : Option (DevClass × Nat × Nat)
  deriving DecidableEq, Repr

/-- The branch of R137: the drop is 0 or less, the leak rate is 0, and the rise is tested in eighth-pascals. -/
def judgeRise (d8 : Int) (p : CircuitParams) : LeakResult :=
  if (-d8).toNat > 8 * p.riseTolerance then
    ⟨d8, 0, .rise, some (.pressureRise, min ((-d8).toNat / 8) 65535, p.riseTolerance)⟩
  else ⟨d8, 0, .passed, none⟩

/-- The branch of R138 and R139: the drop is positive and the held rate is compared with the leak limit. -/
def judgeRate (d8 : Int) (p : CircuitParams) : LeakResult :=
  if leakRateOf d8.toNat p > p.leakLimit then
    ⟨d8, leakRateOf d8.toNat p, .leakHigh, some (.leakRate, leakRateOf d8.toNat p, p.leakLimit)⟩
  else ⟨d8, leakRateOf d8.toNat p, .passed, none⟩

/-- The whole computation (R133 to R139). -/
def judgeLeak (w : WindowSums) (p : CircuitParams) : LeakResult :=
  if leakDrop8 w > 0 then judgeRate (leakDrop8 w) p else judgeRise (leakDrop8 w) p

end Sys2Proof.Machine
end

