-- ==== Sys2Proof/Machine/Flags.lean ====
section
/-! DEFINITION. The flags and condition sets the blocks derive from their state: the event fields of the own posting, the
condition flags ITEM 0 shows, the hold set's bits, and the classes a status set holds. -/
namespace Sys2Proof.Machine

/-- Whether a write of the own posting state changed a field that requests an event posting (R20, R21). -/
def eventChange (p q : Posting) : Bool :=
  decide (p.cycleState ≠ q.cycleState) || decide (p.acoustic ≠ q.acoustic) || decide (p.listen ≠ q.listen)
    || decide (p.air1 ≠ q.air1) || decide (p.air2 ≠ q.air2) || decide (p.yielding ≠ q.yielding)

/-- The condition flags of ITEM 0 as a set, in R20's order. -/
def conditionFlags (p : Posting) : Nat :=
  bitAt 0 p.unconfigured + bitAt 1 p.dupStation + bitAt 2 p.storeFault + bitAt 3 p.supplyWarning

/-- The hold set as a set, in R48's order. -/
def holdFlags (h : Holds) : Nat := bitAt 0 h.power + bitAt 1 h.yields + bitAt 2 h.defer + bitAt 3 h.reversal

/-- All sixteen classes, by number. -/
def allClasses : List DevClass :=
  [.torqueHigh, .oilTempHigh, .oilRiseRate, .speedTrack, .noiseV1, .noiseV2, .noiseCoverage, .grossLeak, .leakRate,
    .pressureRise, .sampleStarved, .airWait, .powerWait, .contaminated, .standStop, .aborted]

/-- Whether a status set holds a class of the given severity. -/
def holdsSeverity (severity : List Nat) (status : Set16) (v : Severity) : Bool :=
  allClasses.any (fun c => inSet status c.num && decide (severityOfCode (severity.getD c.num 0) = v))

/-- The verdict of a status set (R150). -/
def verdictOf (severity : List Nat) (status : Set16) : Verdict :=
  if holdsSeverity severity status .fatal then .reject
  else if holdsSeverity severity status .retest then .retest
  else if holdsSeverity severity status .advisory then .passNoted
  else .pass

end Sys2Proof.Machine
end

