-- ==== Sys2Proof/Machine/ResetValues.lean ====
section
/-! DEFINITION. Each block's state after a reset, as the last sections of the chapters give it (R19, R37, R63, R79, R100,
R111, R132, R154, R166, R191, R193), and the empty forms that a START and a reset share. -/
namespace Sys2Proof.Machine

/-- The built-in phase table (R108): one group of eight phases, four times. -/
def builtinTable : List Nat :=
  [3, 5, 4, 3, 5, 6, 1, 2, 3, 5, 4, 3, 5, 6, 1, 2, 3, 5, 4, 3, 5, 6, 1, 2, 3, 5, 4, 3, 5, 6, 1, 2]

/-- A phase table of 32 IDLE entries. -/
def idleTable : List Nat := List.replicate 32 0

/-- The own posting state after a reset of the given kind (R37). -/
def postingReset (k : ResetCause) : Posting where
  cycleState := .starting
  programme := 0
  openSeq := 0
  lastVerdict := .unset
  acoustic := .quiet
  listen := .unclaimed
  listenAge := 0
  air1 := .unclaimed
  air2 := .unclaimed
  airAge := 0
  demand := 0
  yielding := false
  unconfigured := false
  dupStation := false
  storeFault := false
  supplyWarning := false
  resetCause := k

/-- PEER after a reset (R37); the timer is stopped until the straps are read. -/
def peerReset (k : ResetCause) : Peer where
  posting := postingReset k
  lastFull := none
  latch := false
  due := false
  repeats := 0
  table := []
  dupCount := 0
  periodLeft := 0
  period := 100

/-- A segment with all its fields 0 (R193, R195). -/
def segmentZero : Segment where
  kindCode := 0
  dirCode := 0
  yieldable := false
  leakStart := false
  target := 0
  startSpeed := 0
  endSpeed := 0
  rate := 0
  duration := 0
  torqueLimit := 0

/-- A circuit's parameters with all fields 0. -/
def paramsZero : CircuitParams where
  volume := 0
  testPressure := 0
  grossFloor := 0
  fillMs := 0
  stabiliseMs := 0
  measureTenths := 0
  ventMs := 0
  drift := 0
  leakLimit := 0
  riseTolerance := 0
  airWaitLimit := 0

/-- A programme that is not defined, with all its fields 0 (R193). -/
def programmeZero : Programme where
  definedFlag := false
  segCount := 0
  enable1 := false
  enable2 := false
  maxSpeed := 0
  abortRate := 0
  oilLimit := 0
  oilRiseLimit := 0
  trackTolerance := 0
  powerWaitLimit := 0
  noiseBase := 0
  bandWidth := 0
  lo := 0
  hi := 0
  nmin := 0
  rmax := 0
  curve1 := List.replicate 32 0
  curve2 := List.replicate 32 0
  segments := List.replicate 16 segmentZero
  params1 := paramsZero
  params2 := paramsZero

/-- The default severity codes of classes 0 to 15 (R143). -/
def defaultSeverity : List Nat := [2, 2, 0, 1, 2, 2, 1, 2, 2, 1, 1, 0, 0, 0, 1, 1]

/-- The station section CFG holds on a FAILED load (R193) and, the default phase table apart, until step 3 of STARTING ends
(R195). R195 gives the table no value until then; the model holds the built-in one (assumption 44). -/
def stationDefault : StationSection where
  acousticSet := 0
  airSet := 0
  headerLimit := 1
  floorShare := 0
  lineBudget := 0
  stationCap := 1
  eCode := 0
  quietLimit := 0
  speedLimit := 0
  period := 100
  yieldBudget := 0
  deferralMax := 10
  mask := 0
  severity := defaultSeverity
  table := builtinTable

/-- CFG as a FAILED load leaves it (R193) and as it stands before an image is in force (R195), for a station number. The load
outcome before the image is read, for which the manual gives no value, is held as FAILED (assumption 44). -/
def cfgDefault (number : Nat) : Cfg where
  number := number
  station := stationDefault
  programmes := List.replicate 8 programmeZero
  passed := false
  clamped := 0

/-- The zero first-deviation detail (R148). -/
def detailZero : DevDetail := ⟨0, 0, 0, 0⟩

/-- DEV cleared, at a START and at every reset (R148, R154). -/
def devClear : Dev where
  status := 0
  maskedSeen := 0
  first := none
  detail := detailZero
  firstFatal := false
  multiple := false
  count := 0

/-- The empty hold set. -/
def noHolds : Holds := ⟨false, false, false, false⟩

/-- RUN after a reset (R63). -/
def runReset : Run where
  state := .off
  seg := 0
  stage := .deferred
  cmd := 0
  dir := .forward
  measured := 0
  lastIndex := none
  sinceIndex := 0
  holds := noHolds
  dwellMs := 0
  trackCount := 0
  yieldMs := 0
  powerMs := 0
  yieldExhausted := false
  powerWaitMark := false
  oilTempMark := false
  oilRiseMark := false
  torqueMarks := 0
  trackMarks := 0
  oilHistory := []
  torque := 0
  oilCode := none
  rampLeft := 0
  leakTold := false
  lastSum := 0
  lastAllowed := 0
  maxTorque := 0
  maxOil := 0
  segsDone := 0
  driveLost := false
  endReason := .profileEnd

/-- LSN after a reset (R79). -/
def lsnReset : Lsn where
  state := .inactive
  claimAge := 0
  settle := 0
  deferralMs := 0
  forced := false
  totalDeferralMs := 0
  forcedCount := 0
  contamination := false

/-- No counts (R97, R100). -/
def noCounts : RevCounts := ⟨0, 0, 0, 0, 0⟩

/-- A noise cell as cleared (R97, R100). -/
def cellZero : NoiseCell := ⟨0, 0, false⟩

/-- The empty noise summary (R98). -/
def noiseEmpty : NoiseSummary := ⟨none, 0, none, 0, 0, 0, 0, 0, 0, 0⟩

/-- VIB after a reset (R100). -/
def vibReset : Vib where
  state := .idle
  conv := none
  shadow := .v1
  openRev := none
  closedRev := none
  pass := noCounts
  cycle := noCounts
  sweepRepeats := 0
  cells1 := List.replicate 32 cellZero
  cells2 := List.replicate 32 cellZero
  repeatCount := 0
  listenDone := 0
  contaminatedMark := false
  summary := noiseEmpty

/-- A slow channel after a reset (R111). -/
def slowReset : SlowValue := ⟨0, false, 65535⟩

/-- SCA after a reset, with the active table it keeps or the 32 IDLE entries it shows until the image is checked
(R110, R111), and whether its rota runs at once. -/
def scaReset (active : List Nat) (rota : Bool) : Sca where
  active := active
  pending := idleTable
  pendingFlag := false
  pointer := 0
  rota := rota
  inFlight := none
  torq := slowReset
  oilt := slowReset
  prs1 := slowReset
  airt1 := slowReset
  prs2 := slowReset
  airt2 := slowReset

/-- A circuit cleared, in OFF, with its vent valve as given (R115, R132). -/
def circuitClear (ventOpen : Bool) : Circuit where
  state := .off
  reached := 0
  fillValve := false
  isolateValve := false
  ventValve := ventOpen
  timer := 0
  settle := 0
  backoff := 0
  claimAge := 0
  airWaitMs := 0
  noted := 0
  extended := false
  startPrs := []
  startAirt := []
  endPrs := []
  endAirt := []
  outcome := .absent
  leakRate := none
  d8 := 0
  fillTime := 0
  avgStartPrs := 0
  avgStartAirt := 0
  avgEndPrs := 0
  avgEndAirt := 0
  cntStartPrs := 0
  cntStartAirt := 0
  cntEndPrs := 0
  cntEndAirt := 0

/-- LEAK after a reset: the vent valves open (R132). -/
def leakReset : Leak := ⟨circuitClear true, circuitClear true, false, false, false⟩

/-- LEAK cleared at an accepted START (R115). -/
def leakClear : Leak := ⟨circuitClear false, circuitClear false, false, false, false⟩

/-- CYC after a reset (R19). -/
def cycReset : Cyc := ⟨.starting, none, 0, 0, .unset⟩

/-- STORE after a reset, over the flash it keeps (R166). -/
def storeReset (flash : List Host.Cell) : Store where
  flash := flash
  pairs := List.replicate 12 ⟨none, 0⟩
  state := .scanning
  cause := none
  nextSeq := 0
  swap := none
  pending := none
  recovery := none
  highest := 0
  valid := 0
  damaged := 0
  empty := 0
  recovered := 0

/-- LIF after a reset (R191). -/
def lifReset : Lif where
  classifier := .stopped
  busIdle := false
  buffer := []
  decoder := .free
  replies := []
  tx := ⟨.idle, none, false, none⟩
  counters := ⟨0, 0, 0, 0, 0, 0, 0⟩
  restartLeft := none

/-- The input levels the model begins from: no input active (assumption 4). -/
def pinsInitial : Pins := ⟨false, false, false, false, 0, false⟩

end Sys2Proof.Machine
end

