-- ==== Sys2Proof/Machine/Layouts.lean ====
section
/-! DEFINITION. The byte layouts of Line Bus, Orders and Formats (Layouts): frames, the posting payload, the result record,
the page header and the configuration image, with the clamping at load (R143, R194). -/
namespace Sys2Proof.Machine

/-! ## Frames -/

/-- Kind bytes. -/
def kindPeriodic : Byte := 0xA0
def kindEvent : Byte := 0xB0
def kindOrder : Byte := 0xD0
def kindReply : Byte := 0xE0

/-- The destination of all stations. -/
def destAll : Byte := 31

/-- Order codes (Layouts: Order payloads). -/
def codeAbort : Byte := 1
def codeFind : Byte := 2
def codeItem : Byte := 3
def codePhases : Byte := 4
def codeRdnew : Byte := 5
def codeRdseq : Byte := 6
def codeRestart : Byte := 7
def codeStart : Byte := 8

/-- A full frame's bytes before its CRC. -/
def fullBody (kind source dest : Byte) (payload : List Byte) : List Byte :=
  kind :: source :: dest :: BitVec.ofNat 8 payload.length :: payload

/-- A frame's bytes on the bus, its CRC or complement included. -/
def frameBytes : Frame → List Byte
  | .full k s d p => fullBody k s d p ++ crcBytes (fullBody k s d p)
  | .short n => [n, ~~~n]

/-- The elements a frame is sent as, each a dominant and a recessive phase in units u (R174). -/
def frameElements (f : Frame) : List (Nat × Nat) :=
  (match f with
    | .full _ _ _ _ => (12, 3)
    | .short _ => (6, 3)) :: ((frameBytes f).flatMap byteBits).map bitElement

/-! ## The posting payload -/

/-- The flag byte of a posting (byte 14). -/
def postingFlags (p : Posting) : Nat :=
  bitAt 0 p.yielding + bitAt 1 p.unconfigured + bitAt 2 p.dupStation + bitAt 3 p.storeFault + bitAt 4 p.supplyWarning

/-- The 16 bytes of a posting payload. -/
def postingBytes (p : Posting) : List Byte :=
  be 1 p.cycleState.code ++ be 1 p.programme ++ be 4 p.openSeq ++ be 1 p.lastVerdict.code ++ be 1 p.acoustic.code
    ++ be 1 p.listen.code ++ be 1 p.listenAge ++ be 1 p.air1.code ++ be 1 p.air2.code ++ be 1 p.airAge
    ++ be 1 p.demand ++ be 1 (postingFlags p) ++ be 1 p.resetCause.code

/-- The posting a payload holds; none where a field value is outside its range (R28). -/
def postingOf (l : List Byte) : Option Posting :=
  match stationOfCode (field l 0 1), postedVerdictOfCode (field l 6 1), listenOfCode (field l 8 1),
      airOfCode (field l 10 1), airOfCode (field l 11 1), resetCauseOfCode (field l 15 1) with
  | some cs, some lv, some ls, some a1, some a2, some rc =>
    if field l 1 1 ≤ 7 then
      some {
        cycleState := cs
        programme := field l 1 1
        openSeq := field l 2 4
        lastVerdict := lv
        acoustic := acousticOfByte (byteAt l 7)
        listen := ls
        listenAge := field l 9 1
        air1 := a1
        air2 := a2
        airAge := field l 12 1
        demand := field l 13 1
        yielding := (byteAt l 14).getLsbD 0
        unconfigured := (byteAt l 14).getLsbD 1
        dupStation := (byteAt l 14).getLsbD 2
        storeFault := (byteAt l 14).getLsbD 3
        supplyWarning := (byteAt l 14).getLsbD 4
        resetCause := rc }
    else none
  | _, _, _, _, _, _ => none

/-! ## The result record -/

/-- The presence set byte. -/
def presenceOf (r : OpenRecord) : Nat := bitAt 0 r.hasNoise + bitAt 1 r.has1 + bitAt 2 r.has2

/-- The record header, 40 bytes. -/
def headerBytes (r : OpenRecord) : List Byte :=
  be 4 r.seq ++ be 1 (if r.final then 2 else 1) ++ be 1 r.verdict.code ++ be 1 r.programme ++ be 1 r.station
    ++ be 1 (presenceOf r) ++ be 1 r.serial.length ++ be 1 (bitAt 0 r.resetInterrupted) ++ be 1 0
    ++ (r.stamp ++ List.replicate (4 - r.stamp.length) 0) ++ be 4 r.cycleTime
    ++ (r.serial ++ List.replicate (20 - r.serial.length) 0)

/-- The deviation section, 20 bytes (R149). -/
def devSectionBytes (d : DevSection) : List Byte :=
  be 2 d.status.toNat ++ be 2 d.maskedSeen.toNat ++ beOpt 1 (d.first.map DevClass.num)
    ++ be 1 (bitAt 0 d.firstFatal + bitAt 1 d.multiple) ++ be 2 d.detail.place ++ be 4 d.detail.time
    ++ be 2 d.detail.measured ++ be 2 d.detail.limit ++ be 1 d.count ++ be 3 0

/-- The run-in section, 16 bytes (R61). -/
def runSectionBytes (r : RunSection) : List Byte :=
  be 2 r.time ++ be 2 r.maxTorque ++ be 2 r.maxOil ++ be 2 r.powerHold ++ be 2 r.yieldGiven ++ be 2 r.listenDeferral
    ++ be 1 r.forcedListens ++ be 1 r.segsDone ++ be 1 r.endReason.code
    ++ be 1 (bitAt 0 r.yieldExhausted + bitAt 1 r.driveLost + bitAt 2 r.powerWaitRaised)

/-- The noise section, 16 bytes (R98). -/
def noiseSectionBytes (n : NoiseSummary) : List Byte :=
  beOpt 1 n.worstBand1 ++ beInt 2 n.worstMargin1 ++ beOpt 1 n.worstBand2 ++ beInt 2 n.worstMargin2 ++ be 1 n.covered
    ++ be 2 n.contaminated ++ be 2 n.slipped ++ be 2 n.skipped ++ be 1 n.sweepRepeats ++ be 1 n.listenDone ++ be 1 0

/-- A circuit section, 24 bytes (R130). -/
def circuitSectionBytes (c : CircuitSection) : List Byte :=
  be 1 c.outcome.code ++ be 1 c.reached.toNat ++ be 1 (bitAt 0 c.leakRate.isSome + bitAt 1 c.extended) ++ be 1 0
    ++ be 2 (c.leakRate.getD 0) ++ beInt 4 c.d8 ++ be 2 c.avgStartPrs ++ be 2 c.avgStartAirt ++ be 2 c.avgEndPrs
    ++ be 2 c.avgEndAirt ++ be 2 c.fillTime ++ be 2 c.airWait
    ++ be 2 (c.cntStartPrs * 4096 + c.cntStartAirt * 256 + c.cntEndPrs * 16 + c.cntEndAirt)

/-- The record as CYC hands it to STORE: every section the presence set names, without the closing word (R6). -/
def recordImage (r : OpenRecord) : List Byte :=
  headerBytes r ++ devSectionBytes r.dev ++ runSectionBytes r.runIn
    ++ (if r.hasNoise then noiseSectionBytes r.noise else [])
    ++ (if r.has1 then circuitSectionBytes r.circuit1 else [])
    ++ (if r.has2 then circuitSectionBytes r.circuit2 else [])

/-- A record image closed by its CRC word (R156, Layouts: Closing word). -/
def closeRecord (image : List Byte) : List Byte := image ++ crcBytes image ++ be 2 0

/-- The length in bytes of a stored record with the given presence set (R156). -/
def recordLength (presence : Nat) : Nat :=
  80 + (if presence.testBit 0 then 16 else 0) + (if presence.testBit 1 then 24 else 0)
    + (if presence.testBit 2 then 24 else 0)

/-- The slot a sequence belongs to (R157). -/
def slotOf (seq : Nat) : Nat := (seq - 1) % 84

/-- The least value above every sequence number that is given out: 2^32 − 1, the spent value (R158). -/
def spentSeq : Nat := 2 ^ 32 - 1

/-- The three conditions of a slot (R156); a valid one with its sequence and its record's bytes. -/
inductive SlotCond where
  | empty
  | damaged
  | valid (seq : Nat) (record : List Byte)
  deriving DecidableEq, Repr

/-- The record part of a slot's bytes. -/
def slotRecord (bytes : List Byte) : List Byte := bytes.take (recordLength (field bytes 8 1))

/-- R156's tests on a slot whose first word is not erased: a defined presence set, record state and verdict, a
sequence that belongs to the slot, and the record CRC. -/
def recordSound (slot : Nat) (bytes : List Byte) : Bool :=
  decide (field bytes 8 1 ≤ 7)
    && (field bytes 4 1 == 1 || field bytes 4 1 == 2)
    && decide (field bytes 5 1 ≤ 6)
    && decide (1 ≤ field bytes 0 4) && decide (field bytes 0 4 < spentSeq) && slotOf (field bytes 0 4) == slot
    && crcBytes (bytes.take (recordLength (field bytes 8 1) - 4))
        == (bytes.drop (recordLength (field bytes 8 1) - 4)).take 2

/-- The condition of a slot holding these 144 bytes (R156). -/
def slotCond (slot : Nat) (bytes : List Byte) : SlotCond :=
  if bytes.take 4 = [0xFF, 0xFF, 0xFF, 0xFF] then .empty
  else if recordSound slot bytes then .valid (field bytes 0 4) (slotRecord bytes)
  else .damaged

/-! ## The page header -/

/-- The header programmed by step 3 of a swap: status FILLING (R161). -/
def fillingHeader (gen logical : Nat) : List Byte :=
  be 4 0x0000FFFF ++ be 4 gen ++ be 1 logical ++ be 3 0 ++ crcBytes (be 4 gen ++ be 1 logical) ++ be 2 0

/-- Whether a header's 16 bytes make page pair `logical`'s page count as holding CURRENT (R155). -/
def headerCurrent (logical : Nat) (h : List Byte) : Bool :=
  field h 0 4 == 0 && field h 8 1 == logical && crcBytes ((h.drop 4).take 5) == (h.drop 12).take 2

/-! ## The configuration image -/

/-- `n` two-byte fields from an offset. -/
def fields2 (l : List Byte) (off n : Nat) : List Nat := (List.range n).map (fun i => field l (off + 2 * i) 2)

/-- `n` one-byte fields from an offset. -/
def fields1 (l : List Byte) (off n : Nat) : List Nat := (List.range n).map (fun i => field l (off + i) 1)

/-- A segment as read from its 16 bytes. -/
def readSegment (l : List Byte) : Segment where
  kindCode := field l 0 1
  dirCode := field l 1 1
  yieldable := (byteAt l 2).getLsbD 0
  leakStart := (byteAt l 2).getLsbD 1
  target := field l 4 2
  startSpeed := field l 6 2
  endSpeed := field l 8 2
  rate := field l 10 2
  duration := field l 12 2
  torqueLimit := field l 14 2

/-- A circuit's parameters as read from their 24 bytes. -/
def readParams (l : List Byte) : CircuitParams where
  volume := field l 0 2
  testPressure := field l 2 2
  grossFloor := field l 4 2
  fillMs := field l 6 2
  stabiliseMs := field l 8 2
  measureTenths := field l 10 2
  ventMs := field l 12 2
  drift := field l 14 2
  leakLimit := field l 16 2
  riseTolerance := field l 18 2
  airWaitLimit := field l 20 2

/-- A programme section as read from its 456 bytes. -/
def readProgramme (l : List Byte) : Programme where
  definedFlag := field l 0 1 != 0
  segCount := field l 1 1
  enable1 := (byteAt l 2).getLsbD 0
  enable2 := (byteAt l 2).getLsbD 1
  maxSpeed := field l 4 2
  abortRate := field l 6 2
  oilLimit := field l 8 2
  oilRiseLimit := field l 10 2
  trackTolerance := field l 12 2
  powerWaitLimit := field l 14 2
  noiseBase := field l 16 2
  bandWidth := field l 18 2
  lo := field l 20 1
  hi := field l 21 1
  nmin := field l 22 1
  rmax := field l 23 1
  curve1 := fields2 l 24 32
  curve2 := fields2 l 88 32
  segments := (List.range 16).map (fun i => readSegment ((l.drop (152 + 16 * i)).take 16))
  params1 := readParams ((l.drop 408).take 24)
  params2 := readParams ((l.drop 432).take 24)

/-- The station section as read from its 72 bytes. -/
def readStation (l : List Byte) : StationSection where
  acousticSet := BitVec.ofNat 16 (field l 0 2)
  airSet := BitVec.ofNat 16 (field l 2 2)
  headerLimit := field l 4 1
  floorShare := field l 5 1
  lineBudget := field l 6 2
  stationCap := field l 8 1
  eCode := field l 9 1
  quietLimit := field l 10 2
  speedLimit := field l 12 2
  period := field l 14 2
  yieldBudget := field l 16 2
  deferralMax := field l 18 2
  mask := BitVec.ofNat 16 (field l 20 2)
  severity := fields1 l 22 16
  table := fields1 l 38 32

/-- The tests of R193 on the bytes the memory gave: the length field, 3726 bytes read, and the CRC. -/
def imagePasses (image : List Byte) : Bool :=
  field image 0 2 == 3726 && (image.take 3726).length == 3726
    && crcBytes (image.take 3724) == (image.drop 3724).take 2

/-! ## Clamping at load (R40, R112, R143, R194) -/

/-- A severity code, set to the class's default where it names no severity (R143). -/
def clampSeverity (code dflt : Nat) : Nat := if code > 2 then dflt else code

/-- The severities as loaded: STAND_STOP and ABORTED fixed to RETEST (R143). -/
def clampSeverities (l : List Nat) : List Nat :=
  (List.zipWith clampSeverity (l.take 14) (defaultSeverity.take 14)) ++ [1, 1]

/-- The mask as loaded: STAND_STOP and ABORTED taken out (R143). -/
def clampMask (m : Set16) : Set16 := m &&& 0x3FFF#16

/-- A default phase table entry as loaded: codes above 6 become IDLE (R108). -/
def clampEntry (code : Nat) : Nat := if code > 6 then 0 else code

/-- The station section as clamped (R194). -/
def clampStation (s : StationSection) : StationSection :=
  { s with
    headerLimit := clampTo 1 8 s.headerLimit
    lineBudget := clampTo 0 4095 s.lineBudget
    stationCap := clampTo 1 255 s.stationCap
    eCode := clampTo 0 3 s.eCode
    speedLimit := clampTo 0 4000 s.speedLimit
    quietLimit := min s.quietLimit (clampTo 0 4000 s.speedLimit)
    period := clampTo 50 500 s.period
    yieldBudget := clampTo 0 6000 s.yieldBudget
    deferralMax := clampTo 10 6000 s.deferralMax
    mask := clampMask s.mask
    severity := clampSeverities s.severity
    table := s.table.map clampEntry }

/-- The yieldable flag of a SWEEP or STOP segment is taken as clear (R40); no clamp of a value (assumption 17). -/
def dropYield (g : Segment) : Segment :=
  { g with yieldable := g.yieldable && decide (g.kindCode ≤ 1) }

/-- A segment as clamped to the top speed `top`, the lesser of the stand and programme limits (R40, R194). R194's clamp of a
duration of 0 is made whatever the kind, though R40 has a kind ignore the fields it does not use (assumption 37). -/
def clampSegment (top : Nat) (g : Segment) : Segment :=
  { dropYield g with
    kindCode := clampTo 0 3 g.kindCode
    dirCode := clampTo 0 1 g.dirCode
    target := min g.target top
    startSpeed := min g.startSpeed top
    endSpeed := min g.endSpeed top
    rate := clampTo 25 2000 g.rate
    duration := clampTo 1 65535 g.duration
    torqueLimit := clampTo 0 4096 g.torqueLimit }

/-- A circuit's parameters as clamped (R112). -/
def clampParams (p : CircuitParams) : CircuitParams :=
  { p with
    volume := clampTo 1 65535 p.volume
    testPressure := clampTo 1 4095 p.testPressure
    grossFloor := min p.grossFloor (clampTo 1 4095 p.testPressure - 1)
    fillMs := clampTo 100 60000 p.fillMs
    stabiliseMs := clampTo 100 60000 p.stabiliseMs
    measureTenths := clampTo 10 6000 p.measureTenths
    ventMs := clampTo 100 60000 p.ventMs
    drift := clampTo 0 4095 p.drift
    riseTolerance := clampTo 0 10000 p.riseTolerance
    airWaitLimit := clampTo 1 65535 p.airWaitLimit }

/-- A programme with the yieldable flags of its used SWEEP and STOP segments taken as clear. -/
def settleYields (p : Programme) : Programme :=
  { p with segments := (p.segments.take (clampTo 1 16 p.segCount)).map dropYield
      ++ p.segments.drop (clampTo 1 16 p.segCount) }

/-- A defined programme as clamped under the stand speed limit (R194). -/
def clampDefined (speedLimit : Nat) (p : Programme) : Programme :=
  { p with
    segCount := clampTo 1 16 p.segCount
    maxSpeed := min p.maxSpeed speedLimit
    abortRate := clampTo 25 2000 p.abortRate
    oilLimit := clampTo 0 4095 p.oilLimit
    oilRiseLimit := clampTo 0 4095 p.oilRiseLimit
    trackTolerance := clampTo 0 4000 p.trackTolerance
    powerWaitLimit := clampTo 1 65535 p.powerWaitLimit
    noiseBase := clampTo 0 4000 p.noiseBase
    bandWidth := clampTo 1 500 p.bandWidth
    lo := clampTo 0 31 p.lo
    hi := max (clampTo 0 31 p.hi) (clampTo 0 31 p.lo)
    nmin := clampTo 1 15 p.nmin
    rmax := clampTo 0 3 p.rmax
    curve1 := p.curve1.map (min 2048)
    curve2 := p.curve2.map (min 2048)
    segments := (p.segments.take (clampTo 1 16 p.segCount)).map (clampSegment (min speedLimit (min p.maxSpeed speedLimit)))
      ++ p.segments.drop (clampTo 1 16 p.segCount)
    params1 := clampParams p.params1
    params2 := clampParams p.params2 }

/-- A programme as loaded: one whose defined flag is 0 is held as read (R194). -/
def clampProgramme (speedLimit : Nat) (p : Programme) : Programme :=
  if p.definedFlag then clampDefined speedLimit p else p

/-- Whether the clamping changed a value of a programme, which sets its clamped-at-load flag. -/
def programmeClamped (speedLimit : Nat) (p : Programme) : Bool :=
  p.definedFlag && decide (clampDefined speedLimit p ≠ settleYields p)

/-- The programme sections of an image as read. -/
def imageProgrammes (image : List Byte) : List Programme :=
  (List.range 8).map (fun p => readProgramme ((image.drop (76 + 456 * p)).take 456))

/-- The configuration a passed image puts in force, with its nine clamped-at-load flags (R193, R194). -/
def loadImage (number : Nat) (image : List Byte) : Cfg :=
  let raw := readStation ((image.drop 4).take 72)
  let station := clampStation raw
  let programmes := imageProgrammes image
  { number := number
    station := station
    programmes := programmes.map (clampProgramme station.speedLimit)
    passed := true
    clamped := BitVec.ofNat 9 (bitAt 0 (decide (station ≠ raw))
      + ((List.range 8).map (fun p =>
          bitAt (p + 1) (programmeClamped station.speedLimit (programmes.getD p programmeZero)))).sum) }

end Sys2Proof.Machine
end

