-- ==== Sys2Proof/Machine/Flash.lean ====
section
/-! DEFINITION. The result store's flash: 24 pages of 1024 bytes (R155), held as a list of (address, byte) pairs in one
canonical form. A byte that is not listed reads erased, FFh, which is what an erase leaves (assumption 7). -/
namespace Sys2Proof.Machine

/-- The bytes of a page and of the whole flash (R155). -/
def pageSize : Nat := 1024
def flashSize : Nat := 24576

/-- The canonical form: addresses strictly rising, inside the flash, and no listed byte reading erased. -/
abbrev flashWf (m : List Host.Cell) : Prop :=
  m.Pairwise (fun x y => x.1 < y.1) ∧ ∀ c ∈ m, c.2 ≠ 0xFF#8 ∧ c.1 < flashSize

/-- One byte of flash. -/
def readByte (m : List Host.Cell) (a : Nat) : Byte :=
  match m.find? (fun c => c.1 == a) with
  | some c => c.2
  | none => 0xFF

/-- `n` bytes of flash from an address. -/
def readBytes (m : List Host.Cell) (a n : Nat) : List Byte := (List.range n).map (fun i => readByte m (a + i))

/-- A byte put in its place in the list; an erased byte removes its entry. -/
def putCell : List Host.Cell → Nat → Byte → List Host.Cell
  | [], a, b => if b = 0xFF then [] else [(a, b)]
  | c :: m, a, b =>
    if c.1 < a then c :: putCell m a b
    else if c.1 = a then (if b = 0xFF then m else (a, b) :: m)
    else if b = 0xFF then c :: m else (a, b) :: c :: m

/-- One byte programmed; an address outside the flash holds nothing. -/
def writeByte (m : List Host.Cell) (a : Nat) (b : Byte) : List Host.Cell :=
  if a < flashSize then putCell m a b else m

/-- Bytes programmed from an address. -/
def writeBytes (m : List Host.Cell) (a : Nat) : List Byte → List Host.Cell
  | [] => m
  | b :: bs => writeBytes (writeByte m a b) (a + 1) bs

/-- `n` bytes erased from an address. -/
def eraseBytes (m : List Host.Cell) (a n : Nat) : List Host.Cell :=
  m.filter (fun c => decide (c.1 < a) || decide (a + n ≤ c.1))

/-! ## Pages and slots (R155, R156) -/

/-- The other page of a pair. -/
def Side.other : Side → Side
  | .a => .b
  | .b => .a

/-- The address of a page: physical pages 2L and 2L + 1 form pair L. -/
def pageBase (pair : Nat) (side : Side) : Nat :=
  (2 * pair + (match side with
    | .a => 0
    | .b => 1)) * pageSize

/-- The address of a slot: seven slots of 144 bytes after the 16-byte header. -/
def slotAddr (pair : Nat) (side : Side) (pos : Nat) : Nat := pageBase pair side + 16 + 144 * pos

/-- A slot copied raw to the same position of the other page; an empty slot is not copied (R161, step 4). -/
def copySlot (pair : Nat) (src dst : Side) (m : List Host.Cell) (pos : Nat) : List Host.Cell :=
  if (readBytes m (slotAddr pair src pos) 4) = [0xFF, 0xFF, 0xFF, 0xFF] then m
  else writeBytes m (slotAddr pair dst pos) (readBytes m (slotAddr pair src pos) 144)

/-- The current page of a pair as the scan fixes it from the two page headers (R167). -/
def scanPair (m : List Host.Cell) (pair : Nat) : Pair :=
  let ha := readBytes m (pageBase pair .a) 16
  let hb := readBytes m (pageBase pair .b) 16
  match headerCurrent pair ha, headerCurrent pair hb with
  | true, false => ⟨some .a, field ha 4 4⟩
  | false, true => ⟨some .b, field hb 4 4⟩
  | true, true => if field hb 4 4 > field ha 4 4 then ⟨some .b, field hb 4 4⟩ else ⟨some .a, field ha 4 4⟩
  | false, false => ⟨none, 0⟩

/-! ## The steps of a swap (R161) -/

/-- Step 4 or 6: the slots at the given positions copied from the current page, if the pair has one. -/
def copySlots (pair : Nat) (current : Option Side) (dst : Side) (positions : List Nat) (m : List Host.Cell) :
    List Host.Cell :=
  match current with
  | none => m
  | some src => positions.foldl (copySlot pair src dst) m

/-- What a step of a swap, from 2 to 6, leaves in flash when it completes. -/
def swapStepFlash (w : Swap) (current : Option Side) (m : List Host.Cell) : List Host.Cell :=
  match w.step with
  | 2 => eraseBytes m (pageBase w.pair w.side) pageSize
  | 3 => writeBytes m (pageBase w.pair w.side) (fillingHeader w.gen w.pair)
  | 4 => copySlots w.pair current w.side (List.range w.pos) m
  | 5 => writeBytes m (slotAddr w.pair w.side w.pos) ((closeRecord w.req.image).take 144)
  | 6 => copySlots w.pair current w.side ((List.range (6 - w.pos)).map (fun i => w.pos + 1 + i)) m
  | _ => m

/-- Step 7: the swap page's status programmed CURRENT. -/
def statusCurrent (w : Swap) (m : List Host.Cell) : List Host.Cell :=
  writeBytes m (pageBase w.pair w.side) (be 4 0)

/-- What the step that a swap stands at is to leave in flash: step 7's end is SWAP_END's, the others' their own. -/
def stepTarget (w : Swap) (current : Option Side) (m : List Host.Cell) : List Host.Cell :=
  if w.step = 7 then statusCurrent w m else swapStepFlash w current m

/-- The bytes a step may write or erase: where they begin and how many they are. -/
def stepSpan (w : Swap) : Nat × Nat :=
  match w.step with
  | 2 => (pageBase w.pair w.side, pageSize)
  | 3 => (pageBase w.pair w.side, 16)
  | 4 => (slotAddr w.pair w.side 0, 144 * w.pos)
  | 5 => (slotAddr w.pair w.side w.pos, 144)
  | 6 => (slotAddr w.pair w.side (w.pos + 1), 144 * (6 - w.pos))
  | _ => (pageBase w.pair w.side, 4)

/-- A byte of the swap page after a step that is cut off, from what it was and what the step makes of it: an erase has set
some of its bits, and a program step has cleared some of those it clears and no others (R155, R163, R166). -/
def cutByteOf (erase : Bool) (old target free : Byte) : Byte := if erase then old ||| free else old &&& (target ||| free)

/-- A page that would count as CURRENT (R155) is made to read FILLING: R163 and R166 leave a cut-off step's page erased,
partly erased or FILLING, and never current. Two bytes of the status word are then still to be programmed, or erased. -/
def neverCurrent (pair : Nat) (side : Side) (m : List Host.Cell) : List Host.Cell :=
  if headerCurrent pair (readBytes m (pageBase pair side) 16) then writeBytes m (pageBase pair side) (be 4 0x0000FFFF) else m

/-- What a step that is cut off by a reset, or that fails its verify, leaves in flash (R163, R166): the swap page with a free
part of the step done, and not current (assumption 8). -/
def cutStepFlash (draw : Nat) (w : Swap) (current : Option Side) (m : List Host.Cell) : List Host.Cell :=
  neverCurrent w.pair w.side (writeBytes m (stepSpan w).1 ((List.range (stepSpan w).2).map (fun i =>
    cutByteOf (w.step == 2) (readByte m ((stepSpan w).1 + i)) (readByte (stepTarget w current m) ((stepSpan w).1 + i))
      (Config.cutByte draw ((stepSpan w).1 + i)))))

end Sys2Proof.Machine
end

