-- ==== Sys2Proof/Machine/State.lean ====
section
/-! DEFINITION. The machine's state: one field per block of the introduction's block table, the supply monitor, the input
levels, the timebase, the stand of the start-up sequence, the queue of waiting commands, and the model's own counter of
free values. Plain data. -/
namespace Sys2Proof.Machine

/-- Why the block stops. It has no constructor: the manual names no event at which the TZ4180 stops, so no command of this
model faults and no claim can rest on a fault that the hardware does not take (safe). -/
inductive Fault where
  deriving DecidableEq, Repr

/-- Why a command has no meaning here. -/
inductive Refusal where
  /-- Raised by `exec` alone, for a row of the table that has no meaning yet, by its mnemonic; no row is left so. Safe:
  the model stops where the hardware goes on. -/
  | notModelled (mnemonic : String)
  deriving DecidableEq, Repr

/-- Everything the manual gives the TZ4180. `pending` is the queue of the commands that are waiting, first in, first
out. `draws` is the model's own: it counts the free values drawn so far (assumption 6). -/
structure State where
  cyc : Cyc
  peer : Peer
  run : Run
  lsn : Lsn
  vib : Vib
  sca : Sca
  leak : Leak
  dev : Dev
  store : Store
  lif : Lif
  cfg : Cfg
  boot : Boot
  supplyWarning : Bool
  pins : Pins
  clock : Clock
  draws : Nat
  pending : List Instr
  deriving DecidableEq, Repr

/-- The machine in a POWER_ON reset: every block at its reset values, held in reset until RESET_RELEASE (R196), over
an erased flash and with no command waiting. -/
def State.reset : State where
  cyc := cycReset
  peer := peerReset .powerOn
  run := runReset
  lsn := lsnReset
  vib := vibReset
  sca := scaReset idleTable false
  leak := leakReset
  dev := devClear
  store := storeReset []
  lif := lifReset
  cfg := cfgDefault 1
  boot := .held
  supplyWarning := false
  pins := pinsInitial
  clock := ⟨0, 0⟩
  draws := 0
  pending := []

end Sys2Proof.Machine
end

