-- ==== Sys2Proof/Machine/Ops.lean ====
section
/-! DEFINITION. The operations over the state that several blocks share: what is in force and in the peer table, writes of
the own posting state, deviation events, the open record, and the own transmitter's choice. -/
namespace Sys2Proof.Machine

/-! ## What is in force -/

/-- The programme in force (R4, R18). -/
def progOf (s : State) : Programme := s.cfg.programmes.getD s.cyc.programme programmeZero

/-- The segment at the segment pointer. -/
def segOf (s : State) : Segment := (progOf s).segments.getD s.run.seg segmentZero

/-- The kind of the segment at the segment pointer. -/
def segKind (s : State) : SegKind := kindOfCode (segOf s).kindCode

/-- The direction of the segment at the segment pointer. -/
def segDir (s : State) : Direction := directionOfCode (segOf s).dirCode

/-- A circuit's parameters in the programme in force (R112). -/
def paramsOf (s : State) : CircuitId → CircuitParams
  | .one => (progOf s).params1
  | .two => (progOf s).params2

/-- A circuit's enabled flag in the programme in force (R112). -/
def enabledOf (s : State) : CircuitId → Bool
  | .one => (progOf s).enable1
  | .two => (progOf s).enable2

/-- The cycle timer's value in 0.1 s, saturating at 2^32 − 1 (R7). -/
def cycleTime (s : State) : Nat := min (s.cyc.timerMs / 100) (2 ^ 32 - 1)

/-- E, the encoder pulses per revolution. -/
def pulsesPerRev (s : State) : Nat := 64 * 2 ^ s.cfg.station.eCode

/-- Whether RUN executes a segment, or is stopping: from its start request to COMPLETE. -/
def inRunIn (r : RunState) : Bool := r == .segment || r == .held || r == .stopping

/-- Whether RUN is in SEGMENT or HELD. -/
def inSegment (r : RunState) : Bool := r == .segment || r == .held

/-- Whether a cycle is in progress, TESTING or ABORTING: when the cycle timer runs (R7), DEV takes events (R144) and
CYC requests checkpoints (R8). -/
def inCycle (st : StationState) : Bool := st == .testing || st == .aborting

/-! ## The peer table as its readers see it (R33, R34) -/

/-- The effective listen claim age of an entry. -/
def effListenAge (e : PeerEntry) : Nat := min (e.post.listenAge + e.age) 255

/-- The effective air claim age of an entry. -/
def effAirAge (e : PeerEntry) : Nat := min (e.post.airAge + e.age) 255

/-- The live entries of stations in the acoustic neighbourhood set. -/
def acousticPeers (s : State) : List PeerEntry :=
  s.peer.table.filter (fun e => inStationSet s.cfg.station.acousticSet s.cfg.number e.station)

/-- The live entries of stations in the air group set. -/
def airPeers (s : State) : List PeerEntry :=
  s.peer.table.filter (fun e => inStationSet s.cfg.station.airSet s.cfg.number e.station)

/-- The entry of a station, if the table holds one. -/
def entryOf (s : State) (n : Nat) : Option PeerEntry := s.peer.table.find? (fun e => e.station == n)

/-- The sum of the demands of every live entry (R51). -/
def demandSum (s : State) : Nat := (s.peer.table.map (fun e => e.post.demand)).sum

/-! ## Writes of the own posting state -/

/-- A write of the own posting state; a change of an event field sets the event-posting latch (R20, R21). -/
def writePosting (f : Posting → Posting) (s : State) : State :=
  { s with peer := { s.peer with
      posting := f s.peer.posting
      latch := s.peer.latch || eventChange s.peer.posting (f s.peer.posting) } }

/-- The station state changed, and with it the posted cycle state (R18). -/
def setStation (st : StationState) (s : State) : State :=
  writePosting (fun p => { p with cycleState := st }) { s with cyc := { s.cyc with station := st } }

/-! ## Deviation events (R143 to R147) -/

/-- Whether a class is in the configured mask. -/
def maskedClass (s : State) (c : DevClass) : Bool := inSet s.cfg.station.mask c.num

/-- The configured severity of a class. -/
def severityOf (s : State) (c : DevClass) : Severity := severityOfCode (s.cfg.station.severity.getD c.num 0)

/-- An event of a masked class (R145). -/
def devMasked (c : DevClass) (d : Dev) : Dev := { d with maskedSeen := addTo d.maskedSeen c.num }

/-- An event of an unmasked class at a cycle time, for the class's severity (R146). A value above 65 535 is handed over
as 65 535 (R141). -/
def devUnmasked (e : DevEvent) (time : Nat) (v : Severity) (d : Dev) : Dev :=
  match d.first with
  | none =>
    { d with
      status := addTo d.status e.cls.num
      count := bump 255 d.count
      first := some e.cls
      detail := ⟨e.place, time, min e.measured 65535, min e.limit 65535⟩
      firstFatal := decide (v = .fatal) }
  | some _ =>
    { d with
      status := addTo d.status e.cls.num
      count := bump 255 d.count
      multiple := true }

/-- DEV takes a deviation event in TESTING and ABORTING, and drops it in any other state (R144). -/
def takeDev (e : DevEvent) (s : State) : State :=
  if inCycle s.cyc.station then
    { s with dev :=
        if maskedClass s e.cls then devMasked e.cls s.dev
        else devUnmasked e (cycleTime s) (severityOf s e.cls) s.dev }
  else s

/-! ## The open record (R6) -/

/-- A change of the open record, if there is one. -/
def writeRecord (f : OpenRecord → OpenRecord) (s : State) : State :=
  { s with cyc := { s.cyc with record := s.cyc.record.map f } }

/-- DEV's copy for the deviation section (R149). -/
def devCopy (d : Dev) : DevSection := ⟨d.status, d.maskedSeen, d.first, d.firstFatal, d.multiple, d.detail, d.count⟩

/-! ## The own transmitter's choice (R24, R25) -/

/-- Whether a periodic posting chosen now is full: a field differs from the last full posting, or nine repeats have been
sent since it (R24). -/
def periodicFull (s : State) : Bool :=
  decide (s.peer.lastFull ≠ some s.peer.posting) || decide (9 ≤ s.peer.repeats)

/-- What the transmit arbiter chooses, in R25's order of precedence. -/
def chooseTx (s : State) : Option TxChoice :=
  if s.lif.replies ≠ [] then some .reply
  else if s.peer.latch then some (.full true)
  else if s.peer.due then some (if periodicFull s then .full false else .short)
  else none

/-- The transmitter's state and choice replaced. -/
def withTx (t : Tx) (s : State) : State := { s with lif := { s.lif with tx := t } }

/-- A transmitter in IDLE with something to send makes its choice and waits for the bus (R25). Events are whole
(What each step holds), so the choice is made at the end of the event that gave it something to send
(assumption 12). -/
def leaveIdle (s : State) : State :=
  if s.lif.tx.state = .idle then
    match chooseTx s with
    | some c => withTx ⟨.waiting, some c, false, s.lif.tx.frame⟩ s
    | none => s
  else s

/-- A command taken by a station that is not held in reset; a station held in reset takes nothing (R196). -/
def whenReleased (f : State → State) (s : State) : Host.Outcome State Fault Refusal :=
  if s.boot = .held then .next s else .next (leaveIdle (f s))

end Sys2Proof.Machine
end

