-- ==== Sys2Proof/Machine/Leak.lean ====
section
/-! DEFINITION. The leak test (Leak Test and Air Admission, R112 to R132): arming, air admission, fill, stabilise, measure,
vent and abort of the two circuits. A circuit's end, which CYC takes, stands in Cyc.lean. -/
namespace Sys2Proof.Machine

/-! ## Circuits, valves and postings (R113, R116) -/

/-- A circuit context. -/
def Leak.circuit (k : Leak) : CircuitId → Circuit
  | .one => k.c1
  | .two => k.c2

/-- A circuit of the state. -/
def circuitOf (s : State) (c : CircuitId) : Circuit := s.leak.circuit c

/-- The three valves of a state of a circuit, fill, isolate, vent: open is `true` (R113). -/
def valvesOf : CircuitState → Bool × Bool × Bool
  | .off => (false, false, false)
  | .wait => (false, false, false)
  | .intent => (false, false, false)
  | .fill => (true, true, false)
  | .stabilise => (false, true, false)
  | .measure => (false, true, false)
  | .vent => (false, true, true)
  | .done => (false, false, false)

/-- The air state a circuit posts (R113). -/
def airOf : CircuitState → AirState
  | .off => .unclaimed
  | .wait => .wait
  | .intent => .intent
  | .fill => .fill
  | .stabilise => .unclaimed
  | .measure => .unclaimed
  | .vent => .unclaimed
  | .done => .unclaimed

/-- The bit a state has in the set of states reached (Layouts: Circuit). -/
def reachedBit : CircuitState → BitVec 6
  | .off => 0
  | .wait => 1
  | .intent => 2
  | .fill => 4
  | .stabilise => 8
  | .measure => 16
  | .vent => 32
  | .done => 0

/-- Whether a circuit's claim ages and its air-wait time runs: WAIT and INTENT (R116, R120). -/
def seeksAir (st : CircuitState) : Bool := st == .wait || st == .intent

/-- A circuit enters a state: the state, the set of states reached, and the valves (R113). -/
def Circuit.enter (st : CircuitState) (k : Circuit) : Circuit :=
  { k with
    state := st
    reached := k.reached ||| reachedBit st
    fillValve := (valvesOf st).1
    isolateValve := (valvesOf st).2.1
    ventValve := (valvesOf st).2.2 }

/-- A circuit's part of the posted air claim age (R116). -/
def postedAge (k : Circuit) : Nat := if seeksAir k.state then k.claimAge else 0

/-- The posted air states and claim age as the circuits call for them (R113, R116). -/
def postAir (s : State) : State :=
  writePosting (fun p => { p with
    air1 := airOf s.leak.c1.state
    air2 := airOf s.leak.c2.state
    airAge := max (postedAge s.leak.c1) (postedAge s.leak.c2) }) s

/-- One circuit context of LEAK replaced. -/
def Leak.set (c : CircuitId) (k : Circuit) (l : Leak) : Leak :=
  match c with
  | .one => { l with c1 := k }
  | .two => { l with c2 := k }

/-- A circuit changed, and the posting with it. -/
def withCircuit (c : CircuitId) (f : Circuit → Circuit) (s : State) : State :=
  postAir { s with leak := s.leak.set c (f (circuitOf s c)) }

/-! ## The counts of the admission tests (R117, R118) -/

/-- Circuits of an entry that show an air state, each counting once. -/
def entryAir (a : AirState) (e : PeerEntry) : Nat :=
  (if e.post.air1 = a then 1 else 0) + (if e.post.air2 = a then 1 else 0)

/-- Peer fills (R117). -/
def peerFills (s : State) : Nat := ((airPeers s).map (entryAir .fill)).sum

/-- Own fills (R117). -/
def ownFills (s : State) : Nat :=
  (if s.leak.c1.state = .fill then 1 else 0) + (if s.leak.c2.state = .fill then 1 else 0)

/-- Whether a peer's intents precede those of an own circuit of a claim age (R118). -/
def intentPrecedes (age own : Nat) (e : PeerEntry) : Bool :=
  decide (age < effAirAge e) || (effAirAge e == age && decide (e.station < own))

/-- Preceding intents of a circuit (R118). -/
def precedingIntents (c : CircuitId) (s : State) : Nat :=
  (((airPeers s).filter (intentPrecedes (circuitOf s c).claimAge s.cfg.number)).map (entryAir .intent)).sum
    + (if c = .two ∧ s.leak.c1.state = .intent then 1 else 0)

/-! ## Admission (R115 to R121) -/

/-- Entry to INTENT, with a settle count of 2 (R117). -/
def enterIntent (k : Circuit) : Circuit := { k.enter .intent with settle := 2 }

/-- The intent test of a circuit in WAIT (R117). -/
def intentTest (c : CircuitId) (s : State) : State :=
  if (circuitOf s c).state = .wait ∧ peerFills s + ownFills s < s.cfg.station.headerLimit then
    withCircuit c enterIntent s
  else s

/-- Entry to FILL, from which the fill time is counted (R121, R122). -/
def enterFill (p : CircuitParams) (k : Circuit) : Circuit :=
  { k.enter .fill with timer := p.fillMs, claimAge := 0, fillTime := 0 }

/-- A withdrawal to WAIT: the age is kept and the backoff count is 2 (R118). -/
def withdraw (k : Circuit) : Circuit := { k.enter .wait with backoff := 2 }

/-- The settle expiry: admitted, or withdrawn (R118). -/
def airSettleExpiry (c : CircuitId) (s : State) : State :=
  if peerFills s + ownFills s + precedingIntents c s < s.cfg.station.headerLimit then
    withCircuit c (enterFill (paramsOf s c)) s
  else withCircuit c withdraw s

/-- Step 1 of an expiry: the claim age rises in WAIT and INTENT (R116). -/
def ageClaim (k : Circuit) : Circuit := if seeksAir k.state then { k with claimAge := bump 255 k.claimAge } else k

/-- Step 2: a backoff count above 0 falls in WAIT. -/
def stepBackoff (k : Circuit) : Circuit := if k.state = .wait then { k with backoff := k.backoff - 1 } else k

/-- Step 3: the settle count falls in INTENT, and at 0 the settle expiry is taken. -/
def airSettleStep (c : CircuitId) (s : State) : State :=
  if (circuitOf s c).state = .intent then
    let s := withCircuit c (fun k => { k with settle := k.settle - 1 }) s
    if (circuitOf s c).settle = 0 then airSettleExpiry c s else s
  else s

/-- Step 4: a circuit in WAIT with no backoff left makes the intent test. -/
def intentStep (c : CircuitId) (s : State) : State :=
  if (circuitOf s c).backoff = 0 then intentTest c s else s

/-- A circuit's four steps at an own posting-period expiry (R119). -/
def circuitExpiry (c : CircuitId) (s : State) : State :=
  intentStep c (airSettleStep c (withCircuit c (fun k => stepBackoff (ageClaim k)) s))

/-- LEAK's part of an own posting-period expiry: circuit 1, then circuit 2 (R119). -/
def leakExpiry (s : State) : State := circuitExpiry .two (circuitExpiry .one s)

/-- A circuit as arming leaves it, before its intent test (R115). -/
def armCircuit (enabled : Bool) (k : Circuit) : Circuit :=
  if enabled ∧ k.state = .off then { k.enter .wait with claimAge := 0, airWaitMs := 0, backoff := 0 } else k

/-- RUN's arming report (R115); an abort has LEAK treat the armed mark as set (R128). -/
def armLeak (s : State) : State :=
  if s.leak.armed || s.leak.armRefused then s
  else
    let s := { s with leak := { s.leak with armed := true } }
    intentTest .two (intentTest .one
      (withCircuit .two (armCircuit (enabledOf s .two)) (withCircuit .one (armCircuit (enabledOf s .one)) s)))

/-- LEAK at an accepted START (R115). -/
def leakStart (s : State) : State := postAir { s with leak := leakClear }

/-! ## Fill, stabilise, measure, vent (R121 to R127) -/

/-- Entry to STABILISE: the latest AIRT value is noted and the timer runs the stabilise time (R123). -/
def enterStabilise (p : CircuitParams) (airt : Nat) (k : Circuit) : Circuit :=
  { k.enter .stabilise with timer := p.stabiliseMs, noted := airt }

/-- Entry to MEASURE with empty windows (R125). -/
def enterMeasure (p : CircuitParams) (k : Circuit) : Circuit :=
  { k.enter .measure with
    timer := p.measureTenths * 100
    startPrs := []
    startAirt := []
    endPrs := []
    endAirt := [] }

/-- Entry to VENT (R127). -/
def enterVent (p : CircuitParams) (k : Circuit) : Circuit :=
  { k.enter .vent with timer := p.ventMs, settle := 0, backoff := 0, claimAge := 0 }

/-- Entry to VENT with an outcome. -/
def endWith (o : CircuitOutcome) (p : CircuitParams) (k : Circuit) : Circuit := { enterVent p k with outcome := o }

/-- A slow channel's stand in SCA. -/
def slowOf (c : Sca) : Slow → SlowValue
  | .torq => c.torq
  | .oilt => c.oilt
  | .prs1 => c.prs1
  | .airt1 => c.airt1
  | .prs2 => c.prs2
  | .airt2 => c.airt2

/-- The latest value of a slow channel as SCA holds it (R103). -/
def latest (s : State) (ch : Slow) : Nat := (slowOf s.sca ch).value

/-- A sample entered in an end window of 8 (R125). -/
def pushEnd (w : List Nat) (x : Nat) : List Nat := if w.length < 8 then w ++ [x] else w.tail ++ [x]

/-- A sample entered in a start window of 8 (R125). -/
def pushStart (w : List Nat) (x : Nat) : List Nat := if w.length < 8 then w ++ [x] else w

/-- A PRS sample entered in its windows. -/
def windowPrs (x : Nat) (k : Circuit) : Circuit :=
  { k with startPrs := pushStart k.startPrs x, endPrs := pushEnd k.endPrs x }

/-- An AIRT sample entered in its windows. -/
def windowAirt (x : Nat) (k : Circuit) : Circuit :=
  { k with startAirt := pushStart k.startAirt x, endAirt := pushEnd k.endAirt x }

/-- The test of a PRS sample against the gross floor (R124). -/
def floorTest (c : CircuitId) (code : Nat) (s : State) : State :=
  if code < (paramsOf s c).grossFloor then
    withCircuit c (endWith .gross (paramsOf s c))
      (takeDev ⟨.grossLeak, circuitNum c, code, (paramsOf s c).grossFloor⟩ s)
  else s

/-- A PRS sample delivered to a circuit (R104, R122, R124, R125). -/
def takePrs (c : CircuitId) (code : Nat) (s : State) : State :=
  match (circuitOf s c).state with
  | .fill =>
    if (paramsOf s c).testPressure ≤ code then
      withCircuit c (enterStabilise (paramsOf s c) (latest s (airtOf c))) s
    else s
  | .stabilise => floorTest c code s
  | .measure => floorTest c code (withCircuit c (windowPrs code) s)
  | _ => s

/-- An AIRT sample delivered to a circuit (R104, R125). -/
def takeAirt (c : CircuitId) (code : Nat) (s : State) : State :=
  if (circuitOf s c).state = .measure then withCircuit c (windowAirt code) s else s

/-- The end windows of dropped channels emptied in a circuit in MEASURE (R107, R125). -/
def dropWindows (prs airt : Bool) (k : Circuit) : Circuit :=
  if k.state = .measure then
    { k with endPrs := if prs then [] else k.endPrs, endAirt := if airt then [] else k.endAirt }
  else k

/-- SCA's report of the dropped channels (R107). -/
def leakDropped (dropped : Slow → Bool) (s : State) : State :=
  { s with leak := { s.leak with
    c1 := dropWindows (dropped .prs1) (dropped .airt1) s.leak.c1
    c2 := dropWindows (dropped .prs2) (dropped .airt2) s.leak.c2 } }

/-- The fill timer's expiry in FILL: a gross leak (R122). -/
def fillExpired (c : CircuitId) (s : State) : State :=
  if (circuitOf s c).state = .fill then
    withCircuit c (fun k => endWith .gross (paramsOf s c) { k with fillTime := (paramsOf s c).fillMs })
      (takeDev ⟨.grossLeak, circuitNum c, latest s (prsOf c), (paramsOf s c).testPressure⟩ s)
  else s

/-- Whether the drift calls for the one extension (R123). -/
def driftHigh (p : CircuitParams) (airt : Nat) (k : Circuit) : Bool :=
  !k.extended && decide (p.drift < ((airt : Int) - (k.noted : Int)).natAbs)

/-- The stabilise timer's expiry in STABILISE (R123). -/
def stabiliseExpired (c : CircuitId) (s : State) : State :=
  if (circuitOf s c).state = .stabilise then
    if driftHigh (paramsOf s c) (latest s (airtOf c)) (circuitOf s c) then
      withCircuit c (fun k => { k with extended := true, timer := (paramsOf s c).stabiliseMs }) s
    else withCircuit c (enterMeasure (paramsOf s c)) s
  else s

/-- The smallest count among the four windows (R126). -/
def smallestWindow (k : Circuit) : Nat :=
  min (min k.startPrs.length k.startAirt.length) (min k.endPrs.length k.endAirt.length)

/-- The four window sums (R133). -/
def windowSums (k : Circuit) : WindowSums := ⟨k.startPrs.sum, k.startAirt.sum, k.endPrs.sum, k.endAirt.sum⟩

/-- A window's average: its sum div its count, 0 for an empty window (R126). -/
def average (w : List Nat) : Nat := w.sum / w.length

/-- The window counts of the summary taken (R130). -/
def takeCounts (k : Circuit) : Circuit :=
  { k with
    cntStartPrs := k.startPrs.length
    cntStartAirt := k.startAirt.length
    cntEndPrs := k.endPrs.length
    cntEndAirt := k.endAirt.length }

/-- The window averages and counts of the summary taken at the measure timer's expiry (R126, R130). -/
def takeAverages (k : Circuit) : Circuit :=
  { takeCounts k with
    avgStartPrs := average k.startPrs
    avgStartAirt := average k.startAirt
    avgEndPrs := average k.endPrs
    avgEndAirt := average k.endAirt }

/-- DEV told of the class the computation raised, if any (R126, R137, R139). -/
def raiseLeak (c : CircuitId) (r : LeakResult) (s : State) : State :=
  match r.raised with
  | some (cls, measured, limit) => takeDev ⟨cls, circuitNum c, measured, limit⟩ s
  | none => s

/-- The starved end of a measurement (R126). -/
def measureStarved (c : CircuitId) (s : State) : State :=
  withCircuit c (fun k => endWith .starved (paramsOf s c) (takeAverages k))
    (takeDev ⟨.sampleStarved, circuitNum c, smallestWindow (circuitOf s c), 8⟩ s)

/-- The judged end of a measurement with four full windows (R126). -/
def measureJudged (c : CircuitId) (r : LeakResult) (s : State) : State :=
  withCircuit c (fun k =>
      { endWith r.outcome (paramsOf s c) (takeAverages k) with leakRate := some r.rate, d8 := r.d8 })
    (raiseLeak c r s)

/-- The measure timer's expiry in MEASURE (R126). -/
def measureExpired (c : CircuitId) (s : State) : State :=
  if (circuitOf s c).state = .measure then
    if smallestWindow (circuitOf s c) < 8 then measureStarved c s
    else measureJudged c (judgeLeak (windowSums (circuitOf s c)) (paramsOf s c)) s
  else s

/-! ## The air-wait limit (R120) -/

/-- Whether a circuit's air-wait time has passed its limit. It stays passed once the circuit has left WAIT and INTENT, up
to DONE, which takes no event (R127). -/
def airWaitPassed (c : CircuitId) (s : State) : Bool :=
  decide ((circuitOf s c).state ≠ .done ∧ (paramsOf s c).airWaitLimit * 1000 < (circuitOf s c).airWaitMs)

/-- The air-wait time of a circuit first exceeds its limit with the mark clear. A time that has passed its limit is
reported whatever state another event of the same ms has moved the circuit to; the command of a circuit that still
seeks air with its time within the limit is taken as the report of the passing, and the time is brought to the first ms
past the limit (DESIGN CHOICE, assumption 50). -/
def airWaited (c : CircuitId) (s : State) : State :=
  if (seeksAir (circuitOf s c).state ∨ airWaitPassed c s) ∧ s.leak.airWaitMark = false then
    let ms := max (circuitOf s c).airWaitMs ((paramsOf s c).airWaitLimit * 1000 + 1)
    takeDev ⟨.airWait, circuitNum c, ms / 1000, (paramsOf s c).airWaitLimit⟩
      { s with leak := { s.leak.set c { circuitOf s c with airWaitMs := ms } with airWaitMark := true } }
  else s

/-! ## The circuit summary and the abort (R128, R130) -/

/-- A circuit's section of the record (R130). -/
def circuitSection (k : Circuit) : CircuitSection where
  outcome := k.outcome
  reached := k.reached
  leakRate := k.leakRate
  extended := k.extended
  d8 := k.d8
  avgStartPrs := k.avgStartPrs
  avgStartAirt := k.avgStartAirt
  avgEndPrs := k.avgEndPrs
  avgEndAirt := k.avgEndAirt
  fillTime := k.fillTime
  airWait := min (k.airWaitMs / 100) 65535
  cntStartPrs := k.cntStartPrs
  cntStartAirt := k.cntStartAirt
  cntEndPrs := k.cntEndPrs
  cntEndAirt := k.cntEndAirt

/-- A circuit's section of a record replaced. -/
def setCircuitSection (c : CircuitId) (x : CircuitSection) (r : OpenRecord) : OpenRecord :=
  match c with
  | .one => { r with circuit1 := x }
  | .two => { r with circuit2 := x }

/-- A circuit's summary written into the open record. -/
def writeCircuit (c : CircuitId) (s : State) : State :=
  writeRecord (setCircuitSection c (circuitSection (circuitOf s c))) s

/-- The abort as a circuit that is not OFF takes it (R128). In FILL the fill time counted so far stands. -/
def abortActive (p : CircuitParams) (k : Circuit) : Circuit :=
  match k.state with
  | .wait => endWith .aborted p (takeCounts k)
  | .intent => endWith .aborted p (takeCounts k)
  | .fill => endWith .aborted p (takeCounts k)
  | .stabilise => endWith .aborted p (takeCounts k)
  | .measure => endWith .aborted p (takeCounts k)
  | .off => k
  | .vent => k
  | .done => k

/-- The abort as a circuit takes it (R128). -/
def abortCircuit (c : CircuitId) (s : State) : State :=
  if (circuitOf s c).state = .off then
    if enabledOf s c ∧ s.leak.armed = false then
      writeCircuit c (withCircuit c (fun k => { k with outcome := .aborted }) s)
    else s
  else withCircuit c (abortActive (paramsOf s c)) s

/-- CYC's abort taken by LEAK: circuit 1, then circuit 2; arming is refused from then on (R128). -/
def abortLeak (s : State) : State :=
  let s := abortCircuit .two (abortCircuit .one s)
  { s with leak := { s.leak with armRefused := true } }

/-! ## Commands -/

/-- AIR_WAIT_LIMIT (R120). -/
def execAirWaitLimit (c : CircuitId) (s : State) : Host.Outcome State Fault Refusal := whenReleased (airWaited c) s

/-- FILL_TIMER_EXPIRY (R122). -/
def execFillTimerExpiry (c : CircuitId) (s : State) : Host.Outcome State Fault Refusal := whenReleased (fillExpired c) s

/-- STABILISE_TIMER_EXPIRY (R123). -/
def execStabiliseTimerExpiry (c : CircuitId) (s : State) : Host.Outcome State Fault Refusal :=
  whenReleased (stabiliseExpired c) s

/-- MEASURE_TIMER_EXPIRY (R126). -/
def execMeasureTimerExpiry (c : CircuitId) (s : State) : Host.Outcome State Fault Refusal :=
  whenReleased (measureExpired c) s

end Sys2Proof.Machine
end

