-- ==== Sys2Proof/Machine/Store.lean ====
section
/-! DEFINITION. The result store (The Result Store, R155 to R173): commit requests, the swap and its faults, the start-up scan
with its recovery, record reads, and the commands that drive them. -/
namespace Sys2Proof.Machine

/-! ## Slots and records of the current pages -/

/-- A pair of the store. -/
def pairOf (st : Store) (l : Nat) : Pair := st.pairs.getD l ⟨none, 0⟩

/-- A slot's 144 bytes in its pair's current page; an empty pair's slots read erased (R155). -/
def slotBytes (st : Store) (slot : Nat) : List Byte :=
  match (pairOf st (slot / 7)).current with
  | none => List.replicate 144 0xFF
  | some side => readBytes st.flash (slotAddr (slot / 7) side (slot % 7)) 144

/-- A slot's condition as it stands (R156). -/
def slotNow (st : Store) (slot : Nat) : SlotCond := slotCond slot (slotBytes st slot)

/-- The sequence and record of a valid slot. -/
def SlotCond.record? : SlotCond → Option (Nat × List Byte)
  | .valid q r => some (q, r)
  | .empty => none
  | .damaged => none

/-- The valid records of the current pages. -/
def validRecords (st : Store) : List (Nat × List Byte) :=
  (List.range 84).filterMap (fun i => (slotNow st i).record?)

/-- The later of a best record so far and another, by sequence. -/
def laterRecord (best : Option (Nat × List Byte)) (r : Nat × List Byte) : Option (Nat × List Byte) :=
  match best with
  | none => some r
  | some b => if r.1 > b.1 then some r else some b

/-- The record of the highest sequence in a list. -/
def newestOf (l : List (Nat × List Byte)) : Option (Nat × List Byte) := l.foldl laterRecord none

/-- The serial a record holds. -/
def recordSerial (r : List Byte) : List Byte := (r.drop 20).take (field r 9 1)

/-- The answer of a record read, from the current pages as they stand (R165, R170 to R172). -/
def readAnswer (st : Store) : StoreRead → ReplyOutcome × List Byte
  | .seq s =>
    if s = 0 ∨ spentSeq ≤ s then (.notHeld, [])
    else match slotNow st (slotOf s) with
      | .valid q r => if q = s then (.data, r) else (.notHeld, [])
      | .damaged => (.damaged, [])
      | .empty => (.notHeld, [])
  | .newest =>
    match newestOf (validRecords st) with
    | some r => (.data, r.2)
    | none => (.notHeld, [])
  | .serial chars =>
    match newestOf ((validRecords st).filter (fun r => recordSerial r.2 == chars)) with
    | some r => (.data, r.2)
    | none => (.notHeld, [])

/-- The slot counts and the highest sequence held, brought up to date from the current pages (R168, R173). The seven slots
of a pair with no current page count as empty (DEDUCED from R155, assumption 53). -/
def recount (st : Store) : Store :=
  let conds := (List.range 84).map (slotNow st)
  { st with
    valid := conds.countP (fun c => c.record?.isSome)
    damaged := conds.countP (fun c => c == .damaged)
    empty := conds.countP (fun c => c == .empty)
    highest := ((newestOf (validRecords st)).map Prod.fst).getD 0 }

/-! ## Faults and reports -/

/-- STORE enters FAULTED and posts STORE_FAULT (R159). -/
def enterFaulted (cause : FaultCause) (s : State) : State :=
  writePosting (fun p => { p with storeFault := true })
    { s with store := { s.store with state := .faulted, cause := some cause } }

/-- CYC takes STORE's report on the final commit, completed or failed: CLOSING ends in DONE and the verdict is
posted (R11). -/
def commitEnded (s : State) : State :=
  if s.cyc.station = .closing then
    writePosting (fun p => { p with lastVerdict := (s.cyc.record.map OpenRecord.verdict).getD .unset })
      (setStation .done s)
  else s

/-- A request fails: a FINAL is reported to CYC as commit failed, a CHECKPOINT as a fault that changes nothing of
CYC (R9, R160). -/
def failRequest (req : Request) (s : State) : State :=
  match req.kind with
  | .final => commitEnded s
  | .checkpoint => s

/-- The start-up sequence ends (R195, step 6): IDLE or UNCONFIGURED by the load outcome, the UNCONFIGURED flag with
it, and the vent valves close (R1, R132, R193). -/
def startUpEnd (s : State) : State :=
  let s := { s with
    boot := .up
    leak := { s.leak with c1 := { s.leak.c1 with ventValve := false }, c2 := { s.leak.c2 with ventValve := false } } }
  writePosting (fun p => { p with unconfigured := !s.cfg.passed })
    (setStation (if s.cfg.passed then .idle else .unconfigured) s)

/-- The scan ends with no swap left to make: FAULTED for a spent sequence, READY otherwise (R168, R169). -/
def scanEnd (s : State) : State :=
  startUpEnd (if s.store.nextSeq = spentSeq then enterFaulted .spent s
    else { s with store := { s.store with state := .ready } })

/-! ## The swap (R160 to R164) -/

/-- The swap a request begins: its pair, its swap page and its generation (R161, step 1). -/
def swapOf (st : Store) (recovery : Bool) (req : Request) : Swap where
  req := req
  recovery := recovery
  pair := slotOf req.seq / 7
  side := (((pairOf st (slotOf req.seq / 7)).current).map Side.other).getD .a
  pos := slotOf req.seq % 7
  gen := (pairOf st (slotOf req.seq / 7)).gen + 1
  step := 2

/-- The swap of a request begins, or STORE faults WORN where its generation cannot rise (R161). A recovery's swap
leaves STORE in SCANNING, and one that cannot begin ends the scan (R169). -/
def beginSwap (recovery : Bool) (req : Request) (s : State) : State :=
  if spentSeq ≤ (swapOf s.store recovery req).gen then
    if recovery then startUpEnd (enterFaulted .worn s) else failRequest req (enterFaulted .worn s)
  else { s with store := { s.store with
    swap := some (swapOf s.store recovery req)
    state := if recovery then .scanning else .swapping } }

/-- The replacement rules of the pending image (R160): a CHECKPOINT does not replace a FINAL. -/
def replacePending (held : Option Request) (req : Request) : Option Request :=
  match held with
  | some q => if q.kind = .final ∧ req.kind = .checkpoint then some q else some req
  | none => some req

/-- STORE takes a commit request (R160, R164). -/
def commitRequest (req : Request) (s : State) : State :=
  match s.store.state with
  | .scanning => s
  | .ready =>
    if s.supplyWarning then { s with store := { s.store with pending := replacePending s.store.pending req } }
    else beginSwap false req s
  | .swapping => { s with store := { s.store with pending := replacePending s.store.pending req } }
  | .faulted => failRequest req s

/-- The swap page becomes the current page of its pair (R162, step 1). -/
def swapCurrent (w : Swap) (st : Store) : Store :=
  recount { st with
    flash := statusCurrent w st.flash
    pairs := st.pairs.set w.pair ⟨some w.side, w.gen⟩
    swap := none }

/-- The pending image, if any, failed as in FAULTED (R162, step 3). -/
def failPending (s : State) : State :=
  match s.store.pending with
  | some q => failRequest q { s with store := { s.store with pending := none } }
  | none => s

/-- What follows the end of a swap that leaves STORE unfaulted (R162, step 4). -/
def nextSwap (s : State) : State :=
  match s.store.pending with
  | some q =>
    if s.supplyWarning then { s with store := { s.store with state := .ready } }
    else beginSwap false q { s with store := { s.store with pending := none } }
  | none => { s with store := { s.store with state := .ready } }

/-- The end of a request's swap, once its page is current (R162, steps 2 to 4). -/
def requestDone (req : Request) (s : State) : State :=
  match req.kind with
  | .final =>
    if req.seq + 1 = spentSeq then failPending (enterFaulted .spent (commitEnded s)) else nextSwap (commitEnded s)
  | .checkpoint => nextSwap s

/-- The end of the swap in flight (R162), or of the recovery swap (R169). -/
def endSwap (w : Swap) (s : State) : State :=
  let s := { s with store := swapCurrent w s.store }
  if w.recovery then scanEnd { s with store := { s.store with recovered := w.req.seq } } else requestDone w.req s

/-- A swap is cut off where it stands: its flash is left as R163 and R166 say, and the swap is dropped. -/
def cutSwap (w : Swap) (s : State) : State :=
  { s with
    store := { s.store with flash := cutStepFlash s.draws w (pairOf s.store w.pair).current s.store.flash, swap := none }
    draws := s.draws + 1 }

/-- Whether an abandoned swap or the discarded pending image was a FINAL (R163). -/
def lostFinal (w : Swap) (pending : Option Request) : Bool :=
  w.req.kind == .final || (pending.map Request.kind) == some .final

/-- A verify failure (R163); of the recovery swap, it ends the scan (R169). -/
def verifyFailure (w : Swap) (s : State) : State :=
  let cut := cutSwap w s
  let s' := enterFaulted .verify { cut with store := { cut.store with pending := none } }
  if w.recovery then startUpEnd s'
  else if lostFinal w s.store.pending then commitEnded s' else s'

/-- A step of the swap in flight completes and is verified, and the next step begins (R161). -/
def swapStep (w : Swap) (s : State) : State :=
  { s with store := { s.store with
    flash := swapStepFlash w (pairOf s.store w.pair).current s.store.flash
    swap := some { w with step := w.step + 1 } } }

/-! ## The start-up scan (R167 to R169) -/

/-- The scan fixes the current pages, the counts, the highest sequence and the next sequence number. -/
def scanned (st : Store) : Store :=
  let st := recount { st with pairs := (List.range 12).map (scanPair st.flash) }
  { st with nextSeq := st.highest + 1 }

/-- The recovery's image of a PROVISIONAL record: record state FINAL, verdict INCOMPLETE, reset-interrupted (R169). -/
def recoveryImage (record : List Byte) : List Byte :=
  (((record.take (record.length - 4)).set 4 2).set 5 6).set 10 (byteAt record 10 ||| 1)

/-- The recovery the scan must make: of the newest record, if it is PROVISIONAL. -/
def recoveryOf (st : Store) : Option Request :=
  match newestOf (validRecords st) with
  | some r => if field r.2 4 1 = 1 then some ⟨.final, r.1, recoveryImage r.2⟩ else none
  | none => none

/-- The start-up scan reaches its end, or begins its recovery, or holds it while the supply warning is present. -/
def scanDone (s : State) : State :=
  let s := { s with store := scanned s.store }
  match recoveryOf s.store with
  | none => scanEnd s
  | some req =>
    if s.supplyWarning then { s with boot := .recover, store := { s.store with recovery := some req } }
    else beginSwap true req { s with boot := .recover }

/-! ## The supply monitor's hold on swaps (R164, R197) -/

/-- A swap held back by the supply warning begins when the warning clears. -/
def heldSwap (s : State) : State :=
  match s.store.state, s.store.pending, s.store.recovery with
  | .ready, some q, _ => beginSwap false q { s with store := { s.store with pending := none } }
  | .scanning, _, some q => beginSwap true q { s with store := { s.store with recovery := none } }
  | _, _, _ => s

/-- The warning and its posted flag. -/
def setWarning (on : Bool) (s : State) : State :=
  writePosting (fun p => { p with supplyWarning := on }) { s with supplyWarning := on }

/-! ## Commands -/

/-- SWAP_STEP_DONE (R161, R163): steps 2 to 6 go on to the next; a failed verify of any step abandons the swap. The end
of step 7 is SWAP_END. -/
def execSwapStepDone (verified : Bool) (s : State) : Host.Outcome State Fault Refusal :=
  whenReleased (fun s =>
    match s.store.swap with
    | some w => if verified then (if w.step < 7 then swapStep w s else s) else verifyFailure w s
    | none => s) s

/-- SWAP_END (R162): step 7's status has been programmed and verified. -/
def execSwapEnd (s : State) : Host.Outcome State Fault Refusal :=
  whenReleased (fun s =>
    match s.store.swap with
    | some w => if w.step = 7 then endSwap w s else s
    | none => s) s

/-- STORE_SCAN_DONE (R167 to R169). -/
def execStoreScanDone (s : State) : Host.Outcome State Fault Refusal :=
  whenReleased (fun s => if s.boot = .scan then scanDone s else s) s

/-- SUPPLY_WARNING_RAISED (R197). A station held in reset has no monitor running: only the level is seen. -/
def execSupplyWarningRaised (s : State) : Host.Outcome State Fault Refusal :=
  whenReleased (setWarning true) { s with pins := { s.pins with supplyLow := true } }

/-- SUPPLY_WARNING_CLEARED (R164, R197). -/
def execSupplyWarningCleared (s : State) : Host.Outcome State Fault Refusal :=
  whenReleased (fun s => heldSwap (setWarning false s)) { s with pins := { s.pins with supplyLow := false } }

end Sys2Proof.Machine
end

