-- ==== Sys2Proof/Machine/Cyc.lean ====
section
/-! DEFINITION. Checkpoints and the closing of a cycle (The Axle Cycle, R8 to R11, R17), and the end of a leak circuit, which
brings one of the two. -/
namespace Sys2Proof.Machine

/-- The header's cycle time and the deviation section brought up to date (R6, R8). -/
def refreshRecord (s : State) : State :=
  let t := cycleTime s
  let d := devCopy s.dev
  writeRecord (fun r => { r with cycleTime := t, dev := d }) s

/-- The commit request of the open record. -/
def requestOf (kind : CommitKind) (r : OpenRecord) : Request := ⟨kind, r.seq, recordImage r⟩

/-- CYC hands STORE a request with a copy of the open record. -/
def handOver (kind : CommitKind) (s : State) : State :=
  match s.cyc.record with
  | some r => commitRequest (requestOf kind r) s
  | none => s

/-- CYC requests a checkpoint in TESTING and ABORTING (R8). -/
def checkpoint (s : State) : State :=
  if inCycle s.cyc.station then handOver .checkpoint (refreshRecord s) else s

/-- Whether an enabled circuit is at rest: in DONE, or in ABORTING left OFF (R10, R17). -/
def circuitAtRest (s : State) (c : CircuitId) : Bool :=
  !enabledOf s c || (circuitOf s c).state == .done
    || (s.cyc.station == .aborting && (circuitOf s c).state == .off)

/-- Whether every job of the cycle is at its end state (R10, R17). -/
def jobsAtRest (s : State) : Bool :=
  s.run.state == .complete && s.vib.state == .idle && circuitAtRest s .one && circuitAtRest s .two

/-- CYC closes the cycle (R10): the cycle time, the deviation section and the verdict into the record, the record
FINAL, CLOSING entered, and the FINAL handed over. CLOSING stands before STORE's answer, which may come at once (R11). -/
def closeCycle (s : State) : State :=
  let v := verdictOf s.cfg.station.severity s.dev.status
  let s := writeRecord (fun r => { r with verdict := v, final := true }) (refreshRecord s)
  handOver .final (setStation .closing { s with cyc := { s.cyc with formed := v } })

/-- A job's arrival at its end state is an event to CYC: the close, or a checkpoint (R8, R10, R17). -/
def jobEnded (s : State) : State :=
  if inCycle s.cyc.station then if jobsAtRest s then closeCycle s else checkpoint s else s

/-- In ABORTING the close follows at once if every job is already at rest (R17). -/
def closeIfAtRest (s : State) : State :=
  if s.cyc.station = .aborting ∧ jobsAtRest s = true then closeCycle s else s

/-- Entry to DONE at the vent timer's expiry; the timer is stopped (R114, R127). -/
def enterDone (k : Circuit) : Circuit := { k.enter .done with timer := 0 }

/-- The vent timer's expiry in VENT: DONE, the section written, CYC told (R127). -/
def ventExpired (c : CircuitId) (s : State) : State :=
  if (circuitOf s c).state = .vent then jobEnded (writeCircuit c (withCircuit c enterDone s)) else s

/-- VENT_TIMER_EXPIRY (R127). -/
def execVentTimerExpiry (c : CircuitId) (s : State) : Host.Outcome State Fault Refusal := whenReleased (ventExpired c) s

end Sys2Proof.Machine
end

