-- ==== Sys2Proof/Machine/Vib.lean ====
section
/-! DEFINITION. The vibration analyser (Noise Check, R80 to R100): angle-domain sampling, the judging of revolutions, the
noise table, the assessment at a sweep's end, and the encoder and converter commands. -/
namespace Sys2Proof.Machine

/-- VIB's state changed. -/
def withVib (f : Vib → Vib) (s : State) : State := { s with vib := f s.vib }

/-! ## Passes and abandonment (R81, R90, R96) -/

/-- The open revolution is discarded uncounted; a conversion of it in flight is dropped when it completes (R83). -/
def dropOpen (v : Vib) : Vib :=
  { v with
    openRev := none
    conv := v.conv.map (fun c => if c.owner = .opened then { c with owner := .discarded } else c) }

/-- Every revolution not yet judged is discarded: a conversion still in flight at an assessment belongs to a discarded
revolution (R91). -/
def dropRevs (v : Vib) : Vib :=
  { v with
    openRev := none
    closedRev := none
    conv := v.conv.map (fun c => { c with owner := .discarded }) }

/-- LSN reports that listening has begun: a pass opens (R81). -/
def vibListening (v : Vib) : Vib := { dropOpen v with state := .sampling, pass := noCounts, shadow := .v1 }

/-- LSN reports that listening has ended (R90). -/
def vibListenEnded (v : Vib) : Vib :=
  if v.state = .sampling then { dropOpen v with state := .holding } else v

/-- RUN reports that the sweep is abandoned (R96). -/
def vibAbandon (v : Vib) : Vib :=
  if v.state = .idle then v else { dropOpen v with state := .idle, repeatCount := 0 }

/-- A change of the contamination condition to true marks the open revolution (R85). -/
def vibContaminated (v : Vib) : Vib :=
  if v.state = .sampling then
    { v with openRev := v.openRev.map (fun r => { r with contaminated := true }) }
  else v

/-- VIB at an accepted START (R97). -/
def vibStart (v : Vib) : Vib :=
  { v with
    cells1 := List.replicate 32 cellZero
    cells2 := List.replicate 32 cellZero
    cycle := noCounts
    sweepRepeats := 0
    listenDone := 0
    repeatCount := 0
    contaminatedMark := false
    summary := noiseEmpty }

/-! ## Judging a revolution (R86 to R89) -/

/-- The counts after a revolution that failed the tests given, or was kept and maybe out of band. -/
def countRev (slip skip cont out : Bool) (c : RevCounts) : RevCounts where
  kept := if slip || skip || cont then c.kept else bump 65535 c.kept
  contaminated := if cont then bump 65535 c.contaminated else c.contaminated
  slipped := if slip then bump 65535 c.slipped else c.slipped
  skipped := if skip then bump 65535 c.skipped else c.skipped
  outOfBand := if out then bump 65535 c.outOfBand else c.outOfBand

/-- The RMS level of a channel's sum of squares over a revolution of `e` pulses (R87). -/
def rmsOf (e sum : Nat) : Nat := isqrt (sum / (e / 2))

/-- The band of a revolution's speed, none if it is out of band (R88). -/
def bandOf (p : Programme) (n : Nat) : Option Nat :=
  if p.noiseBase ≤ n ∧ n < p.noiseBase + 32 * p.bandWidth then some ((n - p.noiseBase) / p.bandWidth) else none

/-- A kept revolution's level entered in a cell (R89). -/
def enterCell (rms : Nat) (c : NoiseCell) : NoiseCell :=
  { c with peak := max c.peak rms, count := bump 255 c.count }

/-- A cell of a table changed. -/
def updCell (l : List NoiseCell) (b : Nat) (f : NoiseCell → NoiseCell) : List NoiseCell :=
  l.set b (f (l.getD b cellZero))

/-- Whether a revolution fails a test (R86). -/
def revFails (e : Nat) (r : Rev) : Bool := r.pulses != e || r.skipped || r.contaminated

/-- A closed revolution judged, counted and, if kept and in band, entered in the noise table (R86 to R89). -/
def judgeRev (e : Nat) (p : Programme) (r : Rev) (period : Nat) (v : Vib) : Vib :=
  let band := bandOf p (revSpeedOf period)
  let out := !revFails e r && band.isNone
  let v := { v with
    pass := countRev (r.pulses != e) r.skipped r.contaminated out v.pass
    cycle := countRev (r.pulses != e) r.skipped r.contaminated out v.cycle }
  match band with
  | some b =>
    if revFails e r then v
    else { v with
      cells1 := updCell v.cells1 b (enterCell (rmsOf e r.sum1))
      cells2 := updCell v.cells2 b (enterCell (rmsOf e r.sum2)) }
  | none => v

/-! ## The encoder and the fast converter (R82 to R84) -/

/-- The other fast channel. -/
def FastChannel.other : FastChannel → FastChannel
  | .v1 => .v2
  | .v2 => .v1

/-- A counting pulse taken in SAMPLING with the revolution `r` open (R82). -/
def countPulse (r : Rev) (v : Vib) : Vib :=
  match v.conv with
  | none =>
    { v with
      openRev := some { r with pulses := bump 65535 r.pulses }
      conv := some ⟨v.shadow, .opened⟩ }
  | some _ => { v with openRev := some { r with pulses := bump 65535 r.pulses, skipped := true } }

/-- x² of a conversion added to the revolution's sum for the channel, saturating at 2^32 − 1 (R83). -/
def addSquare (ch : FastChannel) (code : Nat) (r : Rev) : Rev :=
  match ch with
  | .v1 => { r with sum1 := min (r.sum1 + (centred code).natAbs ^ 2) (2 ^ 32 - 1) }
  | .v2 => { r with sum2 := min (r.sum2 + (centred code).natAbs ^ 2) (2 ^ 32 - 1) }

/-- A fast conversion completes (R83). -/
def convDone (e : Nat) (p : Programme) (c : Conv) (code : Nat) (v : Vib) : Vib :=
  match c.owner with
  | .opened =>
    { v with conv := none, openRev := v.openRev.map (addSquare c.channel code), shadow := c.channel.other }
  | .closed =>
    match v.closedRev with
    | some (r, period) => judgeRev e p (addSquare c.channel code r) period { v with conv := none, closedRev := none }
    | none => { v with conv := none }
  | .discarded => { v with conv := none }

/-- The index pulse at `us` closes the open revolution: judged at once, or when its conversion in flight completes
(R84). -/
def closeRev (e : Nat) (p : Programme) (us : Nat) (v : Vib) : Vib :=
  match v.openRev with
  | none => v
  | some r =>
    if v.conv.map Conv.owner = some .opened then
      { v with
        openRev := none
        closedRev := some (r, min (us - r.openedAt) (2 ^ 32 - 1))
        conv := v.conv.map (fun c => { c with owner := .closed }) }
    else judgeRev e p r (min (us - r.openedAt) (2 ^ 32 - 1)) { v with openRev := none }

/-- An index pulse taken by VIB in SAMPLING: the open revolution closed and a new one opened (R84). -/
def vibIndex (e : Nat) (p : Programme) (contamination : Bool) (us : Nat) (v : Vib) : Vib :=
  if v.state = .sampling then
    { closeRev e p us v with openRev := some ⟨0, 0, 0, false, contamination, us⟩, shadow := .v1 }
  else v

/-! ## Assessment (R91 to R95, R98) -/

/-- A channel's table, its limit curve and its class. -/
def cellsOf (v : Vib) : FastChannel → List NoiseCell
  | .v1 => v.cells1
  | .v2 => v.cells2

def curveOf (p : Programme) : FastChannel → List Nat
  | .v1 => p.curve1
  | .v2 => p.curve2

def noiseClass : FastChannel → DevClass
  | .v1 => .noiseV1
  | .v2 => .noiseV2

/-- The channel's number in a where-field (Layouts: First where). -/
def FastChannel.num : FastChannel → Nat
  | .v1 => 1
  | .v2 => 2

/-- A cell's raised mark set. -/
def raiseMark (ch : FastChannel) (b : Nat) (v : Vib) : Vib :=
  match ch with
  | .v1 => { v with cells1 := updCell v.cells1 b (fun c => { c with raised := true }) }
  | .v2 => { v with cells2 := updCell v.cells2 b (fun c => { c with raised := true }) }

/-- The limit assessment of one cell (R92). -/
def assessCell (ch : FastChannel) (s : State) (b : Nat) : State :=
  let cell := (cellsOf s.vib ch).getD b cellZero
  let limit := (curveOf (progOf s) ch).getD b 0
  if limit < cell.peak ∧ cell.raised = false then
    takeDev ⟨noiseClass ch, ch.num * 256 + b, cell.peak, limit⟩ (withVib (raiseMark ch b) s)
  else s

/-- The limit assessment: V1's cells before V2's, lower bands first (R92). -/
def assessLimits (s : State) : State :=
  (List.range 32).foldl (assessCell .v2) ((List.range 32).foldl (assessCell .v1) s)

/-- Whether a band is covered: both its cells hold at least Nmin revolutions (R93). -/
def bandCovered (p : Programme) (v : Vib) (b : Nat) : Bool :=
  decide (p.nmin ≤ (v.cells1.getD b cellZero).count) && decide (p.nmin ≤ (v.cells2.getD b cellZero).count)

/-- The bands of the required range. -/
def requiredBands (p : Programme) : List Nat := (List.range 32).filter (fun b => decide (p.lo ≤ b) && decide (b ≤ p.hi))

/-- How many bands of the required range are covered. -/
def coveredCount (p : Programme) (v : Vib) : Nat := (requiredBands p).countP (bandCovered p v)

/-- How many are not. -/
def uncoveredCount (p : Programme) (v : Vib) : Nat := (requiredBands p).countP (fun b => !bandCovered p v b)

/-- The segment's assessment ends DONE (R93). -/
def segmentDone (v : Vib) : Vib := { v with repeatCount := 0, listenDone := bump 16 v.listenDone }

/-- The coverage assessment: the state after it, and whether the outcome is REPEAT (R93). -/
def assessCoverage (s : State) : State × Bool :=
  if uncoveredCount (progOf s) s.vib = 0 then (withVib segmentDone s, false)
  else if s.vib.repeatCount < (progOf s).rmax then
    (withVib (fun v => { v with repeatCount := v.repeatCount + 1, sweepRepeats := bump 255 v.sweepRepeats }) s, true)
  else
    (withVib segmentDone
      (takeDev ⟨.noiseCoverage, s.run.seg, uncoveredCount (progOf s) s.vib, (progOf s).nmin⟩ s), false)

/-- The contamination share of the pass just ended (R94). -/
def assessShare (s : State) : State :=
  if s.vib.pass.kept < s.vib.pass.contaminated ∧ s.vib.contaminatedMark = false then
    takeDev ⟨.contaminated, s.run.seg, s.vib.pass.contaminated, s.vib.pass.kept⟩
      (withVib (fun v => { v with contaminatedMark := true }) s)
  else s

/-- The margin of a band's cell, if it holds a revolution and has a limit below 2048 (R98). -/
def marginOf (cells : List NoiseCell) (curve : List Nat) (b : Nat) : Option Int :=
  if 1 ≤ (cells.getD b cellZero).count ∧ curve.getD b 0 < 2048 then
    some ((curve.getD b 0 : Int) - ((cells.getD b cellZero).peak : Int))
  else none

/-- The worse of a worst band so far and a band: the least margin, the lowest such band (R98). -/
def worse (cells : List NoiseCell) (curve : List Nat) (best : Option (Nat × Int)) (b : Nat) : Option (Nat × Int) :=
  match marginOf cells curve b, best with
  | none, _ => best
  | some m, none => some (b, m)
  | some m, some w => if m < w.2 then some (b, m) else some w

/-- The worst band of a channel with its margin. -/
def worstOf (cells : List NoiseCell) (curve : List Nat) : Option (Nat × Int) :=
  (List.range 32).foldl (worse cells curve) none

/-- The noise summary from the table and counts as they stand (R98). -/
def summaryOf (p : Programme) (v : Vib) : NoiseSummary where
  worstBand1 := (worstOf v.cells1 p.curve1).map Prod.fst
  worstMargin1 := ((worstOf v.cells1 p.curve1).map Prod.snd).getD 0
  worstBand2 := (worstOf v.cells2 p.curve2).map Prod.fst
  worstMargin2 := ((worstOf v.cells2 p.curve2).map Prod.snd).getD 0
  covered := coveredCount p v
  contaminated := v.cycle.contaminated
  slipped := v.cycle.slipped
  skipped := v.cycle.skipped
  sweepRepeats := v.sweepRepeats
  listenDone := v.listenDone

/-- The noise summary brought up to date and written into the open record (R95, step 2). -/
def writeSummary (s : State) : State :=
  let n := summaryOf (progOf s) s.vib
  writeRecord (fun r => { r with noise := n }) (withVib (fun v => { v with summary := n }) s)

/-- VIB's assessment at RUN's report that the sweep has ended, up to what it hands to RUN and CYC: the state after it
and the outcome, REPEAT or DONE; none in IDLE (R91). -/
def assessSweep (s : State) : Option (State × Bool) :=
  if s.vib.state = .idle then none
  else
    let r := assessCoverage (assessLimits (withVib dropRevs s))
    some (withVib (fun v => { v with state := .idle }) (writeSummary (assessShare r.1)), r.2)

/-! ## Commands -/

/-- RUN's part of an index pulse: the measured speed from the period since the previous one (R41). -/
def runIndex (us : Nat) (r : Run) : Run :=
  { r with
    measured := match r.lastIndex with
      | some t => speedOf (us - t)
      | none => 0
    lastIndex := some us
    sinceIndex := 0 }

/-- INDEX_PULSE (R41, R84). -/
def execIndexPulse (us : Nat) (s : State) : Host.Outcome State Fault Refusal :=
  whenReleased (fun s =>
    { s with
      run := runIndex us s.run
      vib := vibIndex (pulsesPerRev s) (progOf s) s.lsn.contamination us s.vib }) s

/-- INDEX_TIMEOUT (R41): the measured speed reads 0 and the next index pulse starts a period. -/
def execIndexTimeout (s : State) : Host.Outcome State Fault Refusal :=
  whenReleased (fun s => { s with run := { s.run with measured := 0, lastIndex := none } }) s

/-- COUNTING_PULSE (R82). -/
def execCountingPulse (s : State) : Host.Outcome State Fault Refusal :=
  whenReleased (fun s =>
    match s.vib.state, s.vib.openRev with
    | .sampling, some r => withVib (countPulse r) s
    | _, _ => s) s

/-- CONVERSION_COMPLETE (R83). -/
def execConversionComplete (code : BitVec 12) (s : State) : Host.Outcome State Fault Refusal :=
  whenReleased (fun s =>
    match s.vib.conv with
    | some c => withVib (convDone (pulsesPerRev s) (progOf s) c code.toNat) s
    | none => s) s

end Sys2Proof.Machine
end

