-- ==== Sys2Proof/Machine/Lsn.lean ====
section
/-! DEFINITION. Quiet windows (Quiet Windows, R64 to R79): the contamination condition, the listen states, the settle and its
precedence test, the deferral limit, and what ends a listen segment. -/
namespace Sys2Proof.Machine

/-- LSN's state changed. -/
def withLsn (f : Lsn → Lsn) (s : State) : State := { s with lsn := f s.lsn }

/-! ## Contamination (R64) -/

/-- The contamination condition the peer table and the configuration call for: a live entry of the acoustic
neighbourhood set shows LOUD. -/
def contaminationOf (s : State) : Bool := (acousticPeers s).any (fun e => e.post.acoustic == .loud)

/-- The condition derived afresh; a change to true is delivered to VIB at the moment it is made (R64, R85). -/
def deriveContamination (s : State) : State :=
  { s with
    vib := if contaminationOf s && !s.lsn.contamination then vibContaminated s.vib else s.vib
    lsn := { s.lsn with contamination := contaminationOf s } }

/-! ## RUN's hold set as the reports of others move it (R42, R48) -/

/-- Whether the hold set is empty. -/
def Holds.isEmpty (h : Holds) : Bool := !h.power && !h.yields && !h.defer && !h.reversal

/-- RUN passes between SEGMENT and HELD as the hold set fills or empties (R42). -/
def settleHolds (r : Run) : Run :=
  if inSegment r.state then { r with state := if r.holds.isEmpty then .segment else .held } else r

/-- RUN's part of LSN's report of LISTENING: DEFER leaves the hold set and a deferred SWEEP goes to APPROACH; in any
other state of RUN the report has no effect (R47, R67). Where REVERSAL is still held, R48's words that a stage does not
advance under a hold stand against R47's table and R67: the model moves the stage to APPROACH at the report, and REVERSAL
stays held (DESIGN CHOICE, assumption 48). -/
def runListening (k : SegKind) (r : Run) : Run :=
  if inSegment r.state ∧ k = .sweep ∧ r.stage = .deferred then
    settleHolds { r with holds := { r.holds with defer := false }, stage := .approach }
  else r

/-! ## Entries of the listen states (R65, R69 to R71) -/

/-- The posted listen state written. -/
def postListen (l : Listen) (s : State) : State := writePosting (fun p => { p with listen := l }) s

/-- Whether a neighbour shows CLAIM or LISTEN (R65, R68). -/
def neighbourClaims (s : State) : Bool :=
  (acousticPeers s).any (fun e => e.post.listen == .claim || e.post.listen == .listen)

/-- LSN enters CLAIMING with a settle count of 2 (R69). -/
def enterClaiming (s : State) : State :=
  postListen .claim (withLsn (fun l => { l with state := .claiming, settle := 2 }) s)

/-- LSN enters DEFERRING: the deferral time runs from the value it holds (R65, R70). -/
def enterDeferring (s : State) : State :=
  postListen .unclaimed (withLsn (fun l => { l with state := .deferring }) s)

/-- LSN enters LISTENING: the posting, the report to RUN, and VIB's pass (R71). -/
def enterListening (s : State) : State :=
  let s := postListen .listen (withLsn (fun l => { l with state := .listening }) s)
  { s with run := runListening (segKind s) s.run, vib := vibListening s.vib }

/-- The posted claim age follows the listen claim age (R66). -/
def postListenAge (s : State) : State := writePosting (fun p => { p with listenAge := s.lsn.claimAge }) s

/-- RUN's report that a listen segment has begun, taken in NONE (R65). -/
def lsnBegin (s : State) : State :=
  if s.lsn.state = .inactive then
    let s := postListenAge (withLsn (fun l => { l with claimAge := 0, deferralMs := 0, forced := false }) s)
    if neighbourClaims s then enterDeferring s else enterClaiming s
  else s

/-! ## The own posting-period expiry (R66 to R70) -/

/-- Whether a neighbour's entry withdraws the own claim at the settle expiry (R70). -/
def hasPrecedence (age own : Nat) (e : PeerEntry) : Bool :=
  e.post.listen == .listen
    || (e.post.listen == .claim
      && (decide (age < effListenAge e) || (effListenAge e == age && decide (e.station < own))))

/-- The settle expiry's precedence test (R70). -/
def settleExpiry (s : State) : State :=
  if (acousticPeers s).any (hasPrecedence s.lsn.claimAge s.cfg.number) then enterDeferring s else enterListening s

/-- The settle count falls by one, and at 0 the precedence test is made (R69). -/
def settleStep (s : State) : State :=
  let s := withLsn (fun l => { l with settle := l.settle - 1 }) s
  if s.lsn.settle = 0 then settleExpiry s else s

/-- LSN's part of an own posting-period expiry (R66). -/
def lsnExpiry (s : State) : State :=
  if s.lsn.state = .inactive then s
  else
    let s := postListenAge (withLsn (fun l => { l with claimAge := bump 255 l.claimAge }) s)
    match s.lsn.state with
    | .deferring => if neighbourClaims s then s else enterClaiming s
    | .claiming => settleStep s
    | .listening => s
    | .inactive => s

/-! ## The end of a listen segment (R72, R76) -/

/-- The segment's deferral time and forced mark added to the cycle's totals, and LSN back in NONE. -/
def lsnClose (l : Lsn) : Lsn :=
  { l with
    state := .inactive
    claimAge := 0
    settle := 0
    totalDeferralMs := l.totalDeferralMs + l.deferralMs
    forcedCount := if l.forced then bump 255 l.forcedCount else l.forcedCount }

/-- LSN goes to NONE: what it posts, and VIB told that listening has ended if it was LISTENING. -/
def leaveListening (s : State) : State :=
  let v := if s.lsn.state = .listening then vibListenEnded s.vib else s.vib
  postListenAge (postListen .unclaimed { s with lsn := lsnClose s.lsn, vib := v })

/-- RUN's report that the sweep has ended, taken in LISTENING (R72). -/
def lsnSweepEnded (s : State) : State := if s.lsn.state = .listening then leaveListening s else s

/-- RUN's report that the sweep is abandoned; in NONE it changes nothing (R76). -/
def lsnAbandon (s : State) : State := if s.lsn.state = .inactive then s else leaveListening s

/-- A sweep in progress is abandoned: VIB and LSN are told (R59, R76, R96). -/
def abandonSweep (s : State) : State := withVib vibAbandon (lsnAbandon s)

/-! ## The deferral limit (R73) -/

/-- The deferral limit in ms: Dmax × 100. -/
def deferralLimitMs (s : State) : Nat := s.cfg.station.deferralMax * 100

/-- The deferral time reaches its limit in DEFERRING: a forced listen. The command is taken as the report of it (DESIGN
CHOICE, assumption 50). -/
def forceListening (s : State) : State :=
  if s.lsn.state = .deferring then
    enterListening (withLsn (fun l => { l with deferralMs := deferralLimitMs s, forced := true }) s)
  else s

/-- DEFERRAL_LIMIT (R73). -/
def execDeferralLimit (s : State) : Host.Outcome State Fault Refusal := whenReleased forceListening s

end Sys2Proof.Machine
end

