-- ==== Sys2Proof/Machine/Run.lean ====
section
/-! DEFINITION. Running in (Running In, R40 to R63): the commanded speed and what it posts, segments and their ramp steps, the
hold set, power sharing, yielding, supervision, and the end of the run-in. -/
namespace Sys2Proof.Machine

/-- RUN's state changed. -/
def withRun (f : Run → Run) (s : State) : State := { s with run := f s.run }

/-! ## The commanded speed and what it posts (R50, R53) -/

/-- The demand of a torque at a speed, capped at the station cap; 0 at rest (R50). -/
def demandOf (torque : Int) (speed cap : Nat) : Nat :=
  if speed = 0 then 0 else min (ceilDiv (torque.natAbs * speed) 9549) cap

/-- The posted demand and acoustic class for the commanded speed in force (R50, R53). -/
def postSpeed (s : State) : State :=
  writePosting (fun p => { p with
    acoustic := if s.cfg.station.quietLimit < s.run.cmd then .loud else .quiet
    demand := demandOf s.run.torque s.run.cmd s.cfg.station.stationCap }) s

/-- The commanded speed set at once. -/
def setSpeed (rpm : Nat) (s : State) : State := postSpeed (withRun (fun r => { r with cmd := rpm }) s)

/-- A commanded speed above Vq is cut to Vq at once (R44, R48). -/
def cutQuiet (s : State) : State :=
  if s.cfg.station.quietLimit < s.run.cmd then setSpeed s.cfg.station.quietLimit s else s

/-- The posted yielding flag written (R54). -/
def postYielding (b : Bool) (s : State) : State := writePosting (fun p => { p with yielding := b }) s

/-! ## Entering a segment (R44, R49) -/

/-- Step 2: a segment of the other direction waits for the pinion under REVERSAL, or turns at once at rest. -/
def faceDirection (s : State) : State :=
  if segDir s = s.run.dir then s
  else if s.run.cmd = 0 ∧ s.run.measured = 0 then withRun (fun r => { r with dir := segDir s }) s
  else setSpeed 0 (withRun (fun r => { r with holds := { r.holds with reversal := true } }) s)

/-- Step 3: LEAK is told to arm at the first segment that carries the leak-start flag. -/
def tellLeak (s : State) : State :=
  if (segOf s).leakStart && !s.run.leakTold then armLeak (withRun (fun r => { r with leakTold := true }) s) else s

/-- Step 4: a SWEEP is entered deferred, at or below Vq, and LSN is told. -/
def beginSweep (s : State) : State :=
  if segKind s = .sweep then
    lsnBegin (cutQuiet (withRun (fun r => { r with holds := { r.holds with defer := true } }) s))
  else s

/-- A segment entered (R44). -/
def enterSegment (i : Nat) (s : State) : State :=
  withRun settleHolds (beginSweep (tellLeak (faceDirection
    (withRun (fun r => { r with state := .segment, seg := i, dwellMs := 0, trackCount := 0, stage := .deferred }) s))))

/-! ## Stopping (R59, R60) -/

/-- RUN enters STOPPING with an end reason: the hold set and the yielding flag are cleared and a sweep abandoned. -/
def toStopping (why : EndReason) (s : State) : State :=
  if inSegment s.run.state then
    abandonSweep (postYielding false
      (withRun (fun r => { r with state := .stopping, holds := noHolds, endReason := why }) s))
  else s

/-- The end reason of a run-in that is already stopping. -/
def changeReason (why : EndReason) (s : State) : State :=
  if s.run.state = .stopping then withRun (fun r => { r with endReason := why }) s else s

/-- The stop request of an ABORT order (R60). -/
def stopForAbort (s : State) : State := toStopping .abort (changeReason .abort s)

/-- The stop request of a stand stop or an axle input: the commanded speed is 0 at once (R60). -/
def stopAtOnce (s : State) : State :=
  if inRunIn s.run.state then setSpeed 0 (toStopping .standStop (changeReason .standStop s)) else s

/-- Whether a deviation event of RUN's own takes it to STOPPING, and with what end reason (R59). -/
def stopReason (s : State) (c : DevClass) : Option EndReason :=
  if maskedClass s c then none
  else match c with
    | .torqueHigh => if severityOf s c = .fatal then some .fatalStop else none
    | .oilTempHigh => if severityOf s c = .fatal then some .fatalStop else none
    | .speedTrack => some .trackStop
    | _ => none

/-- RUN sends a deviation event about the segment at the pointer, and stops if its class calls for it (R58, R59). -/
def runDeviation (c : DevClass) (measured limit : Nat) (s : State) : State :=
  let s' := takeDev ⟨c, s.run.seg, measured, limit⟩ s
  match stopReason s c with
  | some why => toStopping why s'
  | none => s'

/-! ## The ramp step (R45 to R47) -/

/-- The step size of a rate: rate × 0.02 rounded half up. -/
def stepSize (rate : Nat) : Nat := (rate + 25) / 50

/-- The next setpoint toward a target, never beyond it. -/
def nextSetpoint (cmd target rate : Nat) : Nat :=
  if cmd < target then min (cmd + stepSize rate) target else max (cmd - stepSize rate) target

/-- The power this station is allowed: min(C, max(H, F)) with H = B − S (R51). -/
def allowedPower (s : State) : Nat :=
  min s.cfg.station.stationCap (max (s.cfg.station.lineBudget - demandSum s) s.cfg.station.floorShare)

/-- The power estimate of a setpoint (R51). -/
def powerAt (s : State) (speed : Nat) : Nat := ceilDiv (s.run.torque.natAbs * speed) 9549

/-- Whether an increase to a setpoint is withheld (R51). -/
def withheld (s : State) (next : Nat) : Bool :=
  decide (allowedPower s < powerAt s next) && decide (s.peer.posting.demand < powerAt s next)

/-- The setpoint moved one step toward a target, an increase subject to the power check (R45, R51). The class and demand of
the new speed are posted at the end of the step (assumption 38). -/
def moveTo (target rate : Nat) (s : State) : State :=
  if s.run.cmd < target ∧ withheld s (nextSetpoint s.run.cmd target rate) = true then
    withRun (fun r => { r with holds := { r.holds with power := true } }) s
  else withRun (fun r => { r with cmd := nextSetpoint r.cmd target rate }) s

/-- A segment ends: the next is entered, or the profile ends (R46). -/
def segmentEnd (s : State) : State :=
  let s := withRun (fun r => { r with segsDone := r.segsDone + 1 }) s
  if s.run.seg + 1 < (progOf s).segCount then enterSegment (s.run.seg + 1) s else toStopping .profileEnd s

/-- Dwell tracking at a step at which the dwell time advanced (R58). -/
def trackDwell (s : State) : State :=
  let diff := ((s.run.measured : Int) - (s.run.cmd : Int)).natAbs
  if (progOf s).trackTolerance < diff then
    let s := withRun (fun r => { r with trackCount := bump 100 r.trackCount }) s
    if s.run.trackCount = 100 ∧ inSet s.run.trackMarks s.run.seg = false then
      runDeviation .speedTrack diff (progOf s).trackTolerance
        (withRun (fun r => { r with trackMarks := addTo r.trackMarks r.seg }) s)
    else s
  else withRun (fun r => { r with trackCount := 0 }) s

/-- The track count at a step at which the dwell time did not advance (R58). -/
def clearTrack (s : State) : State := withRun (fun r => { r with trackCount := 0 }) s

/-- A DWELL at its target: the dwell time rises, tracking is checked, and the dwell may end (R46, R58). The check comes
before the end, so that it concerns the segment in which the dwell time advanced (assumption 18). -/
def dwellStep (g : Segment) (s : State) : State :=
  let s := trackDwell (withRun (fun r => { r with dwellMs := r.dwellMs + 20 }) s)
  if inSegment s.run.state ∧ g.duration * 100 ≤ s.run.dwellMs then segmentEnd s else s

/-- A move toward a target that ends the segment when the target is reached (RAMP and STOP, R46). -/
def moveStep (target rate : Nat) (s : State) : State :=
  let s := moveTo target rate (clearTrack s)
  if s.run.cmd = target then segmentEnd s else s

/-- The stage of a SWEEP changed. -/
def setStage (g : SweepStage) (s : State) : State := withRun (fun r => { r with stage := g }) s

/-- VIB's outcome reaches RUN in ASSESSING (R47, R95). -/
def takeOutcome (again : Bool) (s : State) : State := if again then enterSegment s.run.seg s else segmentEnd s

/-- The commanded speed reaches the sweep's end: LSN and VIB are told, VIB assesses, its outcome goes to RUN, and CYC
requests a checkpoint (R47, R72, R91, R95). -/
def sweepEnd (s : State) : State :=
  match assessSweep (lsnSweepEnded (setStage .assessing s)) with
  | some r => checkpoint (takeOutcome r.2 r.1)
  | none => lsnSweepEnded (setStage .assessing s)

/-- A SWEEP's ramp step by its stage (R47). -/
def sweepStep (g : Segment) (s : State) : State :=
  match s.run.stage with
  | .approach =>
    let s := moveTo g.startSpeed g.rate s
    if s.run.cmd = g.startSpeed then setStage .sweeping s else s
  | .sweeping =>
    let s := moveTo g.endSpeed g.rate s
    if s.run.cmd = g.endSpeed then sweepEnd s else s
  | .deferred => s
  | .assessing => s

/-- The ramp step of a segment with the hold set empty (R46, R47). -/
def actStep (s : State) : State :=
  match segKind s with
  | .ramp => moveStep (segOf s).target (segOf s).rate s
  | .stop => moveStep 0 (segOf s).rate s
  | .dwell =>
    if s.run.cmd = (segOf s).target then dwellStep (segOf s) s
    else moveTo (segOf s).target (segOf s).rate (clearTrack s)
  | .sweep => sweepStep (segOf s) (clearTrack s)

/-! ## The hold set at a ramp step (R45, R48, R49, R51, R54) -/

/-- POWER is cleared at the start of the step (R45). -/
def clearPower (s : State) : State := withRun (fun r => { r with holds := { r.holds with power := false } }) s

/-- REVERSAL is removed, and the direction turned, once the measured speed is 0 (R49). -/
def updateReversal (s : State) : State :=
  if s.run.holds.reversal ∧ s.run.measured = 0 then
    withRun (fun r => { r with dir := segDir s, holds := { r.holds with reversal := false } }) s
  else s

/-- Whether a neighbour shows LISTEN. -/
def neighbourListens (s : State) : Bool := (acousticPeers s).any (fun e => e.post.listen == .listen)

/-- The yield condition (R54); with Y = 0 the station never yields. -/
def yieldCondition (s : State) : Bool :=
  (segKind s == .ramp || segKind s == .dwell) && (segOf s).yieldable
    && decide (s.cfg.station.quietLimit < (segOf s).target) && neighbourListens s
    && !s.run.yieldExhausted && decide (0 < s.cfg.station.yieldBudget)

/-- YIELD in or out of the hold set, and the posted flag with it. -/
def holdYield (b : Bool) (s : State) : State :=
  postYielding b (withRun (fun r => { r with holds := { r.holds with yields := b } }) s)

/-- YIELD brought up to date (R54). -/
def updateYield (s : State) : State :=
  if yieldCondition s && !s.run.holds.yields then cutQuiet (holdYield true s)
  else if !yieldCondition s && s.run.holds.yields then holdYield false s
  else s

/-- The hold set brought up to date at the start of a ramp step (R45). -/
def updateHolds (s : State) : State := updateYield (updateReversal (clearPower s))

/-- The power-hold time and POWER_WAIT (R52). -/
def countPower (s : State) : State :=
  if s.run.holds.power then
    let s := withRun (fun r => { r with powerMs := r.powerMs + 20 }) s
    if (progOf s).powerWaitLimit * 100 < s.run.powerMs ∧ s.run.powerWaitMark = false then
      runDeviation .powerWait (min (s.run.powerMs / 100) 65535) (progOf s).powerWaitLimit
        (withRun (fun r => { r with powerWaitMark := true }) s)
    else s
  else s

/-- The yield time used and the yield budget's end (R55). -/
def countYield (s : State) : State :=
  if s.run.holds.yields then
    let s := withRun (fun r => { r with yieldMs := r.yieldMs + 20 }) s
    if s.cfg.station.yieldBudget * 100 ≤ s.run.yieldMs then
      holdYield false (withRun (fun r => { r with yieldExhausted := true }) s)
    else s
  else s

/-- A ramp step in SEGMENT or HELD (R45). The class and demand posted are those of the commanded speed as the step leaves it:
a setpoint that rises above Vq and is cut back by the entry to the next segment in the same step posts no LOUD
(assumption 38). -/
def activeStep (s : State) : State :=
  let s := updateHolds s
  let s := if s.run.holds.isEmpty then actStep s else clearTrack s
  postSpeed (withRun settleHolds (countYield (countPower s)))

/-! ## The end of the run-in (R60, R61) -/

/-- The run-in summary as COMPLETE writes it (R61). The yield time given and the listen deferral time, held in ms, are rounded
down to whole 0.1 s (assumption 46). -/
def runSection (s : State) : RunSection where
  time := min (cycleTime s) 65535
  maxTorque := s.run.maxTorque
  maxOil := s.run.maxOil
  powerHold := min (s.run.powerMs / 100) 65535
  yieldGiven := s.run.yieldMs / 100
  listenDeferral := min (s.lsn.totalDeferralMs / 100) 65535
  forcedListens := s.lsn.forcedCount
  segsDone := s.run.segsDone
  endReason := s.run.endReason
  yieldExhausted := s.run.yieldExhausted
  driveLost := s.run.driveLost
  powerWaitRaised := s.run.powerWaitMark

/-- Whether an end reason has RUN arm LEAK at COMPLETE (R60). -/
def armsAtComplete : EndReason → Bool
  | .profileEnd => true
  | .fatalStop => true
  | .trackStop => true
  | .abort => false
  | .standStop => false

/-- LEAK armed at COMPLETE, if it has not been told in this cycle (R60). -/
def armAtComplete (s : State) : State :=
  if !s.run.leakTold && armsAtComplete s.run.endReason then armLeak (withRun (fun r => { r with leakTold := true }) s)
  else s

/-- RUN reaches COMPLETE: the section is written, CYC is told, and LEAK is armed if it is still to be (R60). -/
def complete (s : State) : State :=
  let s := postSpeed (withRun (fun r => { r with state := .complete, rampLeft := 0 }) s)
  let x := runSection s
  armAtComplete (jobEnded (writeRecord (fun r => { r with runIn := x }) s))

/-- A ramp step in STOPPING (R60). -/
def stoppingStep (s : State) : State :=
  if s.run.cmd = 0 ∧ s.run.measured = 0 then complete (clearTrack s)
  else setSpeed (s.run.cmd - stepSize (progOf s).abortRate) (clearTrack s)

/-- What every ramp step begins with, in SEGMENT, HELD and STOPPING alike: the timer reloads (R45, R60), and S and allowed are
taken, for the power check and for ITEM 6 (R51, R62; assumption 23). -/
def beginStep (s : State) : State :=
  withRun (fun r => { r with rampLeft := 20, lastSum := demandSum s, lastAllowed := allowedPower s }) s

/-- An expiry of the ramp-step timer, which runs while the run-in goes on (R43, R45, R60). -/
def rampStep (s : State) : State :=
  match s.run.state with
  | .segment => activeStep (beginStep s)
  | .held => activeStep (beginStep s)
  | .stopping => stoppingStep (beginStep s)
  | .off => s
  | .complete => s

/-! ## Samples and the oil history (R56, R57) -/

/-- A TORQ sample delivered to RUN (R56). -/
def takeTorq (code : Nat) (s : State) : State :=
  let t := torqueOf code
  let s := withRun (fun r => { r with torque := t }) s
  if inRunIn s.run.state then
    let s := withRun (fun r => { r with maxTorque := max r.maxTorque t.natAbs }) s
    if (segOf s).torqueLimit < t.natAbs ∧ inSet s.run.torqueMarks s.run.seg = false then
      runDeviation .torqueHigh t.natAbs (segOf s).torqueLimit
        (withRun (fun r => { r with torqueMarks := addTo r.torqueMarks r.seg }) s)
    else s
  else s

/-- An OILT sample delivered to RUN (R57). -/
def takeOilt (code : Nat) (s : State) : State :=
  let s := withRun (fun r => { r with oilCode := some code }) s
  if inRunIn s.run.state then
    let s := withRun (fun r => { r with maxOil := max r.maxOil code }) s
    if (progOf s).oilLimit < code ∧ s.run.oilTempMark = false then
      runDeviation .oilTempHigh code (progOf s).oilLimit (withRun (fun r => { r with oilTempMark := true }) s)
    else s
  else s

/-- An entry appended to the ring of 11 (R57). -/
def pushOil (h : List Nat) (code : Nat) : List Nat := if h.length < 11 then h ++ [code] else h.tail ++ [code]

/-- The rise over a full ring: the newest entry minus the oldest (R57). -/
def oilRise (h : List Nat) : Option Int :=
  if h.length = 11 then some ((h.getD 10 0 : Int) - (h.getD 0 0 : Int)) else none

/-- The rise over the history is tested against the oil rise limit (R57). -/
def judgeOilRise (s : State) : State :=
  match oilRise s.run.oilHistory with
  | some rise =>
    if ((progOf s).oilRiseLimit : Int) < rise ∧ s.run.oilRiseMark = false then
      runDeviation .oilRiseRate rise.toNat (progOf s).oilRiseLimit
        (withRun (fun r => { r with oilRiseMark := true }) s)
    else s
  | none => s

/-- The latest OILT code appended to the history, if there has been a sample (R57). -/
def appendOil (s : State) : State :=
  match s.run.oilCode with
  | some code => judgeOilRise (withRun (fun r => { r with oilHistory := pushOil r.oilHistory code }) s)
  | none => s

/-! ## The start request (R43) -/

/-- What the start request clears and keeps: direction, measured speed and the latest samples stay (R43). -/
def runClear (r : Run) : Run :=
  { runReset with
    dir := r.dir
    measured := r.measured
    lastIndex := r.lastIndex
    sinceIndex := r.sinceIndex
    torque := r.torque
    oilCode := r.oilCode
    lastSum := r.lastSum
    lastAllowed := r.lastAllowed
    rampLeft := 20 }

/-- The start request from CYC (R43, R57, R76). -/
def startRun (s : State) : State :=
  enterSegment 0 (appendOil
    (withLsn (fun l => { l with totalDeferralMs := 0, forcedCount := 0 }) (withRun runClear s)))

/-! ## The drive-ready input (R58) -/

/-- A falling edge of the drive-ready input in SEGMENT or HELD: the lost flag, SPEED_TRACK, and unless the class is
masked a stop at once with end reason TRACK_STOP. -/
def driveLost (s : State) : State :=
  if inSegment s.run.state then
    let s := withRun (fun r => { r with driveLost := true }) s
    let s' := takeDev ⟨.speedTrack, s.run.seg, s.run.measured, 0⟩ s
    if maskedClass s .speedTrack then s' else toStopping .trackStop (setSpeed 0 s')
  else s

/-! ## Commands -/

/-- RAMP_STEP (R45, R60). -/
def execRampStep (s : State) : Host.Outcome State Fault Refusal := whenReleased rampStep s

/-- OIL_HISTORY_APPEND (R57). -/
def execOilHistoryAppend (s : State) : Host.Outcome State Fault Refusal :=
  whenReleased (fun s => if inRunIn s.run.state then appendOil s else s) s

/-- DRIVE_READY_FALL (R58). -/
def execDriveReadyFall (s : State) : Host.Outcome State Fault Refusal :=
  whenReleased driveLost { s with pins := { s.pins with driveReady := false } }

end Sys2Proof.Machine
end

