-- ==== Sys2Proof/Machine/Sca.lean ====
section
/-! DEFINITION. The slow converter (The Slow Converter and its Phase Table, R101 to R111): the phase boundary, the pending
table's wrap, and a completed conversion with its delivery. -/
namespace Sys2Proof.Machine

/-- SCA's state changed. -/
def withSca (f : Sca → Sca) (s : State) : State := { s with sca := f s.sca }

/-- A slow channel's stand in SCA replaced. -/
def setSlow (ch : Slow) (x : SlowValue) (c : Sca) : Sca :=
  match ch with
  | .torq => { c with torq := x }
  | .oilt => { c with oilt := x }
  | .prs1 => { c with prs1 := x }
  | .airt1 => { c with airt1 := x }
  | .prs2 => { c with prs2 := x }
  | .airt2 => { c with airt2 := x }

/-- A channel's phase count in a table (R101). -/
def phaseCount (table : List Nat) (ch : Slow) : Nat := table.countP (fun code => code == ch.code)

/-- Whether a change of table drops a channel (R107). -/
def droppedBy (old new : List Nat) (ch : Slow) : Bool := decide (0 < phaseCount old ch) && phaseCount new ch == 0

/-- A wrap with the pending flag set applies the pending table and reports its dropped channels to LEAK (R106, R107). -/
def applyPending (s : State) : State :=
  if s.sca.pendingFlag then
    leakDropped (droppedBy s.sca.active s.sca.pending)
      (withSca (fun c => { c with active := c.pending, pendingFlag := false }) s)
  else s

/-- The entry of the active table at the pointer starts a conversion, or none for IDLE (R102). A conversion still in flight
is dropped, with nothing written or delivered for it (DESIGN CHOICE, assumption 52: R102 has it complete by then). -/
def startConversion (c : Sca) : Sca := { c with inFlight := slowOfCode (c.active.getD c.pointer 0) }

/-- A phase boundary while the rota runs (R102, R106). -/
def phaseBoundary (s : State) : State :=
  if s.sca.rota then
    if s.sca.pointer = 31 then withSca startConversion (applyPending (withSca (fun c => { c with pointer := 0 }) s))
    else withSca startConversion (withSca (fun c => { c with pointer := c.pointer + 1 }) s)
  else s

/-- A sample delivered to its consumer (R104). -/
def deliverSample (ch : Slow) (code : Nat) (s : State) : State :=
  match ch with
  | .torq => takeTorq code s
  | .oilt => takeOilt code s
  | .prs1 => takePrs .one code s
  | .airt1 => takeAirt .one code s
  | .prs2 => takePrs .two code s
  | .airt2 => takeAirt .two code s

/-- A slow conversion completes: the latest value and its mark are written, then the sample is delivered (R103). -/
def slowDone (code : Nat) (s : State) : State :=
  match s.sca.inFlight with
  | some ch => deliverSample ch code (withSca (fun c => { setSlow ch ⟨code, true, 0⟩ c with inFlight := none }) s)
  | none => s

/-- The rota started, with the pointer at 0 and the first boundary after it (R108). -/
def startRota (table : List Nat) (s : State) : State :=
  withSca (fun c => { c with active := table, pointer := 0, rota := true }) s

/-! ## Commands -/

/-- PHASE_BOUNDARY (R102). -/
def execPhaseBoundary (s : State) : Host.Outcome State Fault Refusal := whenReleased phaseBoundary s

/-- SLOW_CONVERSION_COMPLETE (R103). -/
def execSlowConversionComplete (code : BitVec 12) (s : State) : Host.Outcome State Fault Refusal :=
  whenReleased (slowDone code.toNat) s

end Sys2Proof.Machine
end

