-- ==== Sys2Proof/Machine/Cycle.lean ====
section
/-! DEFINITION. How a cycle begins and how it is aborted (The Axle Cycle, R3 to R5 and R12 to R17): the judging and the taking
of a START, the abort causes, and the stand's inputs. -/
namespace Sys2Proof.Machine

/-! ## START (R3, R4, R6) -/

/-- The first reason for which a START of a programme is refused (R3), in the order of test. -/
def startRefusal (programme : Nat) (s : State) : Option Reason :=
  match s.cyc.station with
  | .starting => some .starting
  | .unconfigured => some .notConfigured
  | .testing => some .busy
  | .aborting => some .busy
  | .closing => some .busy
  | _ =>
    if (s.cfg.programmes.getD programme programmeZero).definedFlag = false then some .badProgramme
    else if s.pins.axlePresent = false ∨ s.pins.clampClosed = false then some .noAxle
    else if s.pins.standStopOpen then some .standStopped
    else if s.pins.driveReady = false then some .driveNotReady
    else if s.store.state = .faulted then some .storeFault
    else if s.peer.posting.dupStation then some .dupStation
    else if s.supplyWarning then some .supplyWarning
    else none

/-- Whether a programme holds a SWEEP segment among those its profile uses (R6). -/
def hasSweep (p : Programme) : Bool := (p.segments.take p.segCount).any (fun g => kindOfCode g.kindCode == .sweep)

/-- The empty sections of a record just opened (R6). -/
def devSectionZero : DevSection := ⟨0, 0, none, false, false, detailZero, 0⟩
def runSectionZero : RunSection := ⟨0, 0, 0, 0, 0, 0, 0, 0, .profileEnd, false, false, false⟩
def circuitSectionZero : CircuitSection := ⟨.absent, 0, none, false, 0, 0, 0, 0, 0, 0, 0, 0, 0, 0, 0⟩

/-- The open record of an accepted START (R4, step 2). -/
def openedRecord (seq programme station : Nat) (p : Programme) (serial stamp : List Byte) : OpenRecord where
  seq := seq
  final := false
  verdict := .opened
  programme := programme
  station := station
  hasNoise := hasSweep p
  has1 := p.enable1
  has2 := p.enable2
  serial := serial
  resetInterrupted := false
  stamp := stamp
  cycleTime := 0
  dev := devSectionZero
  runIn := runSectionZero
  noise := noiseEmpty
  circuit1 := circuitSectionZero
  circuit2 := circuitSectionZero

/-- The sequence number consumed, the open record formed and the cycle timer at 0, with the programme in force
(R4, steps 1, 2, 4 and part of 8). -/
def openCycle (programme : Nat) (serial stamp : List Byte) (s : State) : State :=
  { s with
    store := { s.store with nextSeq := s.store.nextSeq + 1 }
    cyc := { s.cyc with
      record := some (openedRecord s.store.nextSeq programme s.cfg.number
        (s.cfg.programmes.getD programme programmeZero) serial stamp)
      programme := programme
      timerMs := 0 } }

/-- An accepted START (R4). R4's order would clear LEAK (step 6) after RUN's entry to segment 0 (step 5), which tells LEAK
to arm where that segment carries the leak-start flag (R44, R115); the model settles this by taking steps 6 and 7, and the
programme in force of step 8, before step 5 (assumption 10). -/
def startCycle (programme : Nat) (serial stamp : List Byte) (s : State) : State :=
  let seq := s.store.nextSeq
  let s := { openCycle programme serial stamp s with dev := devClear }
  let s := startRun (withVib vibStart (leakStart s))
  setStation .testing (writePosting (fun p => { p with programme := programme, openSeq := seq }) s)

/-! ## Aborts (R13 to R16) -/

/-- An abort cause taken in TESTING (R13): DEV's event, RUN's stop, the sweep abandoned, LEAK's abort, ABORTING, and
the close if every job is at rest (R17). -/
def abortCycle (e : DevEvent) (stop : State → State) (s : State) : State :=
  closeIfAtRest (setStation .aborting (abortLeak (abandonSweep (stop (takeDev e s)))))

/-- The event of an ABORT order (R142). -/
def abortedEvent (broadcast : Bool) (s : State) : DevEvent := ⟨.aborted, s.run.seg, if broadcast then 1 else 0, 0⟩

/-- The event of a stand input: 1 the stand-stop input, 2 axle-present, 3 clamp-closed (R142). -/
def standEvent (input : Nat) (s : State) : DevEvent := ⟨.standStop, s.run.seg, input, 0⟩

/-- A stand stop or an axle input's fall in TESTING and ABORTING (R13, R15, R16). -/
def standAbort (input : Nat) (s : State) : State :=
  match s.cyc.station with
  | .testing => abortCycle (standEvent input s) stopAtOnce s
  | .aborting => stopAtOnce (takeDev (standEvent input s) s)
  | _ => s

/-- The return from DONE to IDLE (R12). -/
def leaveDone (s : State) : State :=
  if s.cyc.station = .done then setStation .idle (writePosting (fun p => { p with openSeq := 0 }) s) else s

/-- The number an axle input has in a STAND_STOP event. -/
def axleInputNum : AxleInput → Nat
  | .axlePresent => 2
  | .clampClosed => 3

/-- An axle input's level low. -/
def dropInput (which : AxleInput) (p : Pins) : Pins :=
  match which with
  | .axlePresent => { p with axlePresent := false }
  | .clampClosed => { p with clampClosed := false }

/-- A falling axle input as CYC takes it (R12, R16). -/
def axleFall (which : AxleInput) (s : State) : State :=
  match which with
  | .axlePresent => if s.cyc.station = .done then leaveDone s else standAbort (axleInputNum which) s
  | .clampClosed => standAbort (axleInputNum which) s

/-! ## Commands -/

/-- STAND_STOP_OPEN (R15). -/
def execStandStopOpen (s : State) : Host.Outcome State Fault Refusal :=
  whenReleased (standAbort 1) { s with pins := { s.pins with standStopOpen := true } }

/-- AXLE_INPUT_FALL (R12, R16). -/
def execAxleInputFall (which : AxleInput) (s : State) : Host.Outcome State Fault Refusal :=
  whenReleased (axleFall which) { s with pins := dropInput which s.pins }

end Sys2Proof.Machine
end

