-- ==== Sys2Proof/Machine/Peer.lean ====
section
/-! DEFINITION. Postings received and the peer table (Postings and the Peer Table, R28 to R36), and the expiry of the posting
period timer with what it brings to PEER, LSN and LEAK (R22, R23). -/
namespace Sys2Proof.Machine

/-- PEER's state changed. -/
def withPeer (f : Peer → Peer) (s : State) : State := { s with peer := f s.peer }

/-! ## The peer table (R29 to R31) -/

/-- An entry put in its place in the table, in order of station number, over any entry of the same station. -/
def putEntry (e : PeerEntry) : List PeerEntry → List PeerEntry
  | [] => [e]
  | x :: l =>
    if x.station < e.station then x :: putEntry e l
    else if x.station = e.station then e :: l
    else e :: x :: l

/-- A full posting entered: the entry created or overwritten at age 0, heard now (R29). -/
def enterPosting (station : Nat) (p : Posting) (s : State) : State :=
  deriveContamination (withPeer (fun x => { x with table := putEntry ⟨station, p, 0, s.clock.ms⟩ x.table }) s)

/-- An entry refreshed by a repeat posting (R30). -/
def refreshEntry (station ms : Nat) (e : PeerEntry) : PeerEntry :=
  if e.station = station then { e with age := 0, heard := ms } else e

/-- A repeat posting taken: it refreshes the entry, if there is one (R30). -/
def repeatPosting (station : Nat) (s : State) : State :=
  withPeer (fun x => { x with table := x.table.map (refreshEntry station s.clock.ms) }) s

/-- The table aged: every age rises by one, and an entry at 8 is removed (R31). -/
def ageTable (l : List PeerEntry) : List PeerEntry :=
  (l.map (fun e => { e with age := e.age + 1 })).filter (fun e => decide (e.age < 8))

/-- PEER's ageing at an own posting-period expiry, with the contamination it may end (R31, R64). -/
def agePeers (s : State) : State := deriveContamination (withPeer (fun x => { x with table := ageTable x.table }) s)

/-! ## Duplicate station numbers (R35, R36) -/

/-- A posting bearing the own number, not the own transmitter's: the condition, with a clearance count of 8 (R35). -/
def duplicateHeard (s : State) : State :=
  writePosting (fun p => { p with dupStation := true }) (withPeer (fun x => { x with dupCount := 8 }) s)

/-- The clearance count at an own posting-period expiry (R36). -/
def clearDuplicate (s : State) : State :=
  if s.peer.posting.dupStation then
    let s := withPeer (fun x => { x with dupCount := x.dupCount - 1 }) s
    if s.peer.dupCount = 0 then writePosting (fun p => { p with dupStation := false }) s else s
  else s

/-! ## Postings taken (R28) -/

/-- A full posting as PEER treats it by its source (R28). -/
def takeFullPosting (own : Bool) (source : Nat) (payload : List Byte) (s : State) : State :=
  if source = 0 ∨ 16 < source then s
  else if source = s.cfg.number then if own then s else duplicateHeard s
  else match postingOf payload with
    | some p => enterPosting source p s
    | none => s

/-- A repeat posting as PEER treats it by its source (R28). -/
def takeRepeatPosting (own : Bool) (station : Nat) (s : State) : State :=
  if station = 0 ∨ 16 < station then s
  else if station = s.cfg.number then if own then s else duplicateHeard s
  else repeatPosting station s

/-! ## The posting period (R22, R23) -/

/-- The timer reloads with the configured Tp, and the periodic-due flag is set (R22, R23). -/
def periodDue (s : State) : State :=
  withPeer (fun x => { x with due := true, period := s.cfg.station.period, periodLeft := s.cfg.station.period }) s

/-- The expiry at PEER's ageing, LSN and LEAK, in the order the two operands name (R31, R66, R119). -/
def expiryReaders (ageBeforeLsn ageBeforeLeak : Bool) (s : State) : State :=
  match ageBeforeLsn, ageBeforeLeak with
  | true, true => leakExpiry (lsnExpiry (agePeers s))
  | true, false => lsnExpiry (agePeers (leakExpiry s))
  | false, true => leakExpiry (agePeers (lsnExpiry s))
  | false, false => agePeers (leakExpiry (lsnExpiry s))

/-- The whole expiry. -/
def periodExpiry (ageBeforeLsn ageBeforeLeak : Bool) (s : State) : State :=
  expiryReaders ageBeforeLsn ageBeforeLeak (clearDuplicate (periodDue s))

/-- POSTING_PERIOD_EXPIRY (R22). -/
def execPostingPeriodExpiry (ageBeforeLsn ageBeforeLeak : Bool) (s : State) : Host.Outcome State Fault Refusal :=
  whenReleased (periodExpiry ageBeforeLsn ageBeforeLeak) s

end Sys2Proof.Machine
end

