-- ==== Sys2Proof/Machine/Reset.lean ====
section
/-! DEFINITION. Resets and the STARTING sequence (Start-up and Configuration, R192 to R196): the four kinds of reset, the straps,
the image, and the rota's start. -/
namespace Sys2Proof.Machine

/-- A swap in flight is cut off by a reset (R166). -/
def cutInFlight (s : State) : State :=
  match s.store.swap with
  | some w => cutSwap w s
  | none => s

/-- Every block at its reset values for a kind of reset, over the flash, the configuration, the input levels and the
waiting commands as they are (R19, R37, R63, R79, R100, R111, R132, R154, R166, R191). -/
def resetBlocks (k : ResetCause) (table : List Nat) (rota : Bool) (s : State) : State :=
  let s := cutInFlight s
  { s with
    cyc := cycReset
    peer := peerReset k
    run := runReset
    lsn := lsnReset
    vib := vibReset
    sca := scaReset table rota
    leak := leakReset
    dev := devClear
    store := storeReset s.store.flash
    lif := lifReset
    supplyWarning := false
    clock := ⟨0, 0⟩ }

/-- The reset logic holds the station in reset for a POWER_ON, BROWN_OUT or PIN cause; a further cause only prolongs
the reset (R196). The configuration is read afresh, and until then CFG holds a FAILED load's values (R195). -/
def holdReset (k : HardReset) (s : State) : State :=
  if s.boot = .held then s
  else { resetBlocks (hardCause k) idleTable false s with cfg := cfgDefault s.cfg.number, boot := .held }

/-- The straps read at entry to STARTING, and what follows from them: the station number, the classifier, the posting
timer, the first posting (R192), and the supply monitor's first look at the supply (R197). -/
def beginStarting (s : State) : State :=
  let s := { s with
    cfg := { s.cfg with number := s.pins.straps.toNat + 1 }
    lif := { s.lif with classifier := .waitIdle false }
    peer := { s.peer with latch := true, period := s.cfg.station.period, periodLeft := s.cfg.station.period } }
  if s.pins.supplyLow then setWarning true s else s

/-- The last reset cause ends: STARTING is entered, and the image is read next (R195). -/
def releaseReset (straps : BitVec 4) (supplyLow : Bool) (s : State) : State :=
  { beginStarting { s with pins := { s.pins with straps := straps, supplyLow := supplyLow } } with boot := .readImage }

/-- A RESTART: the configuration and the active phase table are kept, the rota runs at once, and the scan follows the
straps (R108, R188, R195). -/
def takeRestart (s : State) : State :=
  { beginStarting (resetBlocks .restart s.sca.active true s) with boot := .scan }

/-- The configuration an image read puts in force (R193, R194). -/
def cfgOfImage (number : Nat) (image : List Byte) : Cfg :=
  if imagePasses image then loadImage number image else cfgDefault number

/-- The image read ends: the configuration, the rota on its table, the contamination condition afresh, and the scan
next (R64, R108, R193 to R195). -/
def imageRead (image : List Byte) (s : State) : State :=
  let c := cfgOfImage s.cfg.number image
  { deriveContamination (startRota c.station.table { s with cfg := c }) with boot := .scan }

/-! ## Commands -/

/-- RESET (R196). -/
def execReset (k : HardReset) (s : State) : Host.Outcome State Fault Refusal := .next (holdReset k s)

/-- RESET_RELEASE (R192, R195); a station that is not held in reset has no cause that could end. -/
def execResetRelease (straps : BitVec 4) (supplyLow : Bool) (s : State) : Host.Outcome State Fault Refusal :=
  if s.boot = .held then .next (leaveIdle (releaseReset straps supplyLow s)) else .next s

/-- IMAGE_READ_DONE (R193). -/
def execImageReadDone (image : List Byte) (s : State) : Host.Outcome State Fault Refusal :=
  whenReleased (fun s => if s.boot = .readImage then imageRead image s else s) s

end Sys2Proof.Machine
end

