-- ==== Sys2Proof/Machine/Items.lean ====
section
/-! DEFINITION. The eleven items of live state (R184): what each shows (R18, R34, R39, R62, R78, R99, R109, R110, R131, R153,
R173, R190), encoded as R184 states; what it leaves open is assumptions 13, 43, 45, 47 and 49. -/
namespace Sys2Proof.Machine

/-- A verdict's code, in one byte. -/
def verdictByte (v : Verdict) : List Byte := be 1 v.code

/-- DEV's standing verdict (R153). -/
def standingVerdict (s : State) : Verdict := if inCycle s.cyc.station then .opened else s.cyc.formed

/-- DEV's part of ITEM 0 (R153). R184 names no form for the first deviation's where-field, whose kind varies with the class:
the model sends it in 2 bytes in the form of the record's First where (Layouts: Deviation section), a noise class's channel in
the high byte and its band in the low one, and a segment or circuit in the low byte under a high byte of 0 (DESIGN CHOICE,
assumption 49). -/
def devItem (s : State) : List Byte :=
  be 2 s.dev.status.toNat ++ be 2 s.dev.maskedSeen.toNat ++ beOpt 1 (s.dev.first.map DevClass.num)
    ++ be 2 s.dev.detail.place ++ be 4 s.dev.detail.time ++ be 2 s.dev.detail.measured ++ be 2 s.dev.detail.limit
    ++ [flagByte s.dev.firstFatal, flagByte s.dev.multiple] ++ be 1 s.dev.count ++ verdictByte (standingVerdict s)

/-- LSN's part of ITEM 0 (R78). The deferral time, held in ms, is rounded down to whole 0.1 s (assumption 46). -/
def lsnItem (l : Lsn) : List Byte :=
  be 1 l.state.code ++ be 1 l.claimAge ++ be 1 l.settle ++ be 2 (l.deferralMs / 100)
    ++ [flagByte l.forced, flagByte l.contamination]

/-- ITEM 0, station status (R184). The nine clamped-at-load flags are sent as one set in 2 bytes, the station section's in bit 0
and those of programmes 0 to 7 in bits 1 to 8 (assumption 45). -/
def item0 (s : State) : List Byte :=
  be 1 s.cyc.station.code ++ be 1 s.cyc.programme ++ be 4 s.peer.posting.openSeq ++ be 4 (cycleTime s)
    ++ be 1 (conditionFlags s.peer.posting) ++ be 1 s.peer.posting.resetCause.code ++ be 1 s.peer.repeats
    ++ be 2 s.peer.period ++ lsnItem s.lsn ++ devItem s ++ be 2 s.cfg.clamped.toNat

/-- ITEM 1, the entry of a station (R34). The posted fields are sent as the 16 bytes of a posting payload, their five flags in
one byte (assumption 43). -/
def item1 (station : Nat) (s : State) : Option (List Byte) :=
  if station = 0 ∨ 16 < station ∨ station = s.cfg.number then none
  else match entryOf s station with
    | some e =>
      some (postingBytes e.post ++ be 1 e.age ++ be 4 e.heard ++ be 1 (effListenAge e) ++ be 1 (effAirAge e))
    | none => none

/-- ITEM 2, a slow channel (R109). -/
def item2 (index : Nat) (s : State) : Option (List Byte) :=
  match slowOfCode index with
  | some ch =>
    some (be 2 (latest s ch) ++ [flagByte (slowOf s.sca ch).sampled] ++ be 2 (slowOf s.sca ch).sinceMs
      ++ be 1 (phaseCount s.sca.active ch))
  | none => none

/-- ITEM 3, the active phase table and the pointer (R110). -/
def item3 (s : State) : List Byte := s.sca.active.map (BitVec.ofNat 8) ++ be 1 s.sca.pointer

/-- ITEM 4, the pending flag and table (R110). -/
def item4 (s : State) : List Byte := flagByte s.sca.pendingFlag :: s.sca.pending.map (BitVec.ofNat 8)

/-- ITEM 5, the open record in its stored layout (R18). -/
def item5 (s : State) : Option (List Byte) := s.cyc.record.map (fun r => closeRecord (recordImage r))

/-- A signed quantity in `k` bytes, with every bit set when absent. -/
def beIntOpt (k : Nat) : Option Int → List Byte
  | some i => beInt k i
  | none => List.replicate k 0xFF

/-- RUN's once-per-cycle marks as a set: POWER_WAIT, OIL_TEMP_HIGH and OIL_RISE_RATE. R43 names the yield-exhausted mark
beside them, and the model does not send it among them (assumption 39). -/
def onceMarks (r : Run) : Nat := bitAt 0 r.powerWaitMark + bitAt 1 r.oilTempMark + bitAt 2 r.oilRiseMark

/-- ITEM 6, run-in live (R62); the stage is absent for a segment that is no SWEEP. The dwell time is sent in ms and the yield
time used in 0.1 s (assumption 40), rounded down (assumption 46). -/
def item6 (s : State) : List Byte :=
  be 1 s.run.state.code ++ be 1 s.run.seg ++ be 1 (segOf s).kindCode
    ++ beOpt 1 (if segKind s = .sweep then some s.run.stage.code else none)
    ++ be 2 s.run.cmd ++ be 1 s.run.dir.code ++ be 2 s.run.measured ++ be 1 (holdFlags s.run.holds)
    ++ be 1 s.peer.posting.demand ++ be 2 s.run.lastSum ++ be 1 s.run.lastAllowed ++ be 3 s.run.dwellMs
    ++ be 1 s.run.trackCount ++ be 2 (s.run.yieldMs / 100) ++ be 2 (min (s.run.powerMs / 100) 65535)
    ++ beInt 2 s.run.torque ++ beOpt 2 s.run.oilCode ++ beIntOpt 2 (oilRise s.run.oilHistory)
    ++ be 1 (onceMarks s.run)

/-- A cell with its limit, as ITEM 7 shows it. -/
def cellItem (c : NoiseCell) (limit : Nat) : List Byte := be 2 c.peak ++ be 1 c.count ++ be 2 limit ++ [flagByte c.raised]

/-- Five counts of VIB. -/
def countsItem (c : RevCounts) : List Byte :=
  be 2 c.kept ++ be 2 c.contaminated ++ be 2 c.slipped ++ be 2 c.skipped ++ be 2 c.outOfBand

/-- ITEM 7, a noise row (R99). The sweep repeats of the cycle are sent in the one byte of R98's range, not in the two of
R86's (DESIGN CHOICE, assumption 51). -/
def item7 (band : Nat) (s : State) : Option (List Byte) :=
  if band < 32 then
    some (cellItem (s.vib.cells1.getD band cellZero) ((progOf s).curve1.getD band 0)
      ++ cellItem (s.vib.cells2.getD band cellZero) ((progOf s).curve2.getD band 0)
      ++ be 1 s.vib.state.code ++ be 1 s.vib.repeatCount ++ countsItem s.vib.pass ++ countsItem s.vib.cycle
      ++ be 1 s.vib.sweepRepeats ++ be 1 s.vib.listenDone ++ [flagByte s.vib.contaminatedMark])
  else none

/-- ITEM 8 of one circuit (R131). -/
def circuitItem (c : CircuitId) (s : State) : List Byte :=
  let k := circuitOf s c
  [flagByte (enabledOf s c)] ++ be 1 k.state.code ++ be 1 k.reached.toNat ++ be 1 k.outcome.code
    ++ [flagByte k.fillValve, flagByte k.isolateValve, flagByte k.ventValve] ++ be 3 k.timer
    ++ be 1 k.settle ++ be 1 k.backoff ++ be 1 k.claimAge ++ be 2 (min (k.airWaitMs / 100) 65535)
    ++ be 2 k.noted ++ [flagByte k.extended]
    ++ be 1 k.startPrs.length ++ be 1 k.startAirt.length ++ be 1 k.endPrs.length ++ be 1 k.endAirt.length
    ++ be 2 k.startPrs.sum ++ be 2 k.startAirt.sum ++ be 2 k.endPrs.sum ++ be 2 k.endAirt.sum
    ++ beOpt 2 k.leakRate ++ beInt 3 k.d8 ++ [flagByte s.leak.armed, flagByte s.leak.airWaitMark]

/-- ITEM 8, leak circuit live. -/
def item8 (index : Nat) (s : State) : Option (List Byte) :=
  match index with
  | 1 => some (circuitItem .one s)
  | 2 => some (circuitItem .two s)
  | _ => none

/-- A pair's current page by its position in R173's list `A, B or none`: none is sent as 2, and not as an absent value
(assumption 47). -/
def sideCode : Option Side → Nat
  | some .a => 0
  | some .b => 1
  | none => 2

/-- Whether a pending image or a recovery is held back by the supply warning (R173). -/
def heldBack (s : State) : Bool :=
  s.supplyWarning && ((s.store.state == .ready && s.store.pending.isSome) || s.store.recovery.isSome)

/-- ITEM 9, store summary (R173). The fault cause none is sent as an absent value, every bit set (assumption 47). -/
def item9 (s : State) : List Byte :=
  let t := s.store
  be 1 t.state.code ++ beOpt 1 (t.cause.map FaultCause.code) ++ be 4 t.nextSeq ++ be 4 t.highest
    ++ be 1 t.valid ++ be 1 t.damaged ++ be 1 t.empty
    ++ t.pairs.flatMap (fun p => be 1 (sideCode p.current) ++ be 4 p.gen)
    ++ beOpt 1 (t.swap.map (fun w => w.req.kind.code)) ++ beOpt 4 (t.swap.map (fun w => w.req.seq))
    ++ beOpt 1 (t.swap.map Swap.step)
    ++ beOpt 1 (t.pending.map (fun q => q.kind.code)) ++ beOpt 4 (t.pending.map Request.seq)
    ++ [flagByte (heldBack s)] ++ be 4 t.recovered

/-- ITEM 10, line counters (R190). -/
def item10 (c : LineCounters) : List Byte :=
  be 2 c.pulseErrors ++ be 2 c.lineStuck ++ be 2 c.lengthErrors ++ be 2 c.crcErrors ++ be 2 c.overruns
    ++ be 2 c.arbLosses ++ be 2 c.repliesDropped

/-- An item's data; none where the item, or its owner, holds nothing under that index (R184). -/
def itemData (item index : Nat) (s : State) : Option (List Byte) :=
  match item with
  | 1 => item1 index s
  | 2 => item2 index s
  | 7 => item7 index s
  | 8 => item8 index s
  | _ =>
    if index = 0 then
      match item with
      | 0 => some (item0 s)
      | 3 => some (item3 s)
      | 4 => some (item4 s)
      | 5 => item5 s
      | 6 => some (item6 s)
      | 9 => some (item9 s)
      | 10 => some (item10 s.lif.counters)
      | _ => none
    else none

end Sys2Proof.Machine
end

