-- ==== Sys2Proof/Machine/Orders.lean ====
section
/-! DEFINITION. Orders as the order decoder judges them and their owners answer them (Line Bus, Orders and Formats, R180 to R189),
and the routing of frames that hands orders to it and postings to PEER (R179). -/
namespace Sys2Proof.Machine

/-- LIF's state changed. -/
def withLif (f : Lif → Lif) (s : State) : State := { s with lif := f s.lif }

/-- The line counters changed. -/
def withCounters (f : LineCounters → LineCounters) (s : State) : State :=
  withLif (fun l => { l with counters := f l.counters }) s

/-- A reply joins the reply queue (R181). -/
def queueReply (r : Reply) (s : State) : State := withLif (fun l => { l with replies := l.replies ++ [r] }) s

/-! ## Input levels (assumption 3) -/

/-- The input levels changed. -/
def withPins (f : Pins → Pins) (s : State) : State := { s with pins := f s.pins }

/-- The strap pins as a RESTART finds them (R192). -/
def setStraps (straps : BitVec 4) (p : Pins) : Pins := { p with straps := straps }

/-- The stand's level inputs as a START finds them (R3). -/
def setLines (l : StandLines) (p : Pins) : Pins :=
  { p with
    axlePresent := l.axlePresent
    clampClosed := l.clampClosed
    standStopOpen := l.standStopOpen
    driveReady := l.driveReady }

/-- The stand's level inputs of a draw. -/
def linesAt (n : Nat) : StandLines :=
  ⟨Config.axlePresentAt n, Config.clampClosedAt n, Config.standStopOpenAt n, Config.driveReadyAt n⟩

/-- The input levels as they stand now, at an event that carries none: the next draw's. -/
def seeInputs (s : State) : State :=
  { withPins (fun p => setStraps (Config.strapsAt s.draws) (setLines (linesAt s.draws) p)) s with draws := s.draws + 1 }

/-! ## Replies -/

/-- A reply without data or reason. -/
def plainReply (order : Byte) (o : ReplyOutcome) : Reply := ⟨order, o, none, 0, []⟩

/-- A refusal with its reason. -/
def refusal (order : Byte) (why : Reason) : Reply := ⟨order, .refused, some why, 0, []⟩

/-- The qualifier byte: the item number of an ITEM order (Layouts: Reply header); 0 where the order is too short to hold one
(assumption 41). -/
def qualifierOf (order : Byte) (body : List Byte) : Byte := if order = codeItem then body.headD 0 else 0

/-- The BAD_ORDER answer. -/
def badOrder (order : Byte) (body : List Byte) : Reply := ⟨order, .badOrder, none, qualifierOf order body, []⟩

/-! ## Form (R180, step 4; R182 to R189) -/

/-- Whether a byte is a serial character, 20h to 7Eh. -/
def serialChar (b : Byte) : Bool := decide (0x20 ≤ b.toNat) && decide (b.toNat ≤ 0x7E)

/-- Whether a serial and the length stated for it have the required form. -/
def serialForm (n : Nat) (serial : List Byte) : Bool :=
  decide (1 ≤ n) && decide (n ≤ 20) && serial.length == n && serial.all serialChar

/-- Whether the bytes after an order code have the order's form. -/
def wellFormedBody (order : Byte) (body : List Byte) : Bool :=
  if order = codeAbort ∨ order = codeRdnew ∨ order = codeRestart then body.isEmpty
  else if order = codeFind then decide (1 ≤ body.length) && serialForm (field body 0 1) (body.drop 1)
  else if order = codeItem then body.length == 2
  else if order = codePhases then body.length == 32
  else if order = codeRdseq then body.length == 4
  else if order = codeStart then
    decide (6 ≤ body.length) && decide (field body 0 1 ≤ 7) && serialForm (field body 1 1) (body.drop 6)
  else false

/-- Whether a code names an order (R180, step 2). -/
def namesOrder (order : Byte) : Bool := decide (1 ≤ order.toNat) && decide (order.toNat ≤ 8)

/-- Whether an order may be broadcast (R180, step 3). -/
def mayBroadcast (order : Byte) : Bool := order == codeAbort || order == codeRestart

/-! ## Owners (R14, R105, R165, R182 to R189) -/

/-- The reason for which an ABORT is refused, if the station is neither TESTING nor ABORTING (R14). -/
def abortRefusal : StationState → Option Reason
  | .starting => some .starting
  | .unconfigured => some .notConfigured
  | .idle => some .notTesting
  | .done => some .notTesting
  | .closing => some .closing
  | .testing => none
  | .aborting => none

/-- CYC's part of an ABORT: the abort in TESTING, nothing in any other state (R13, R14). -/
def abortTaken (broadcast : Bool) (s : State) : State :=
  if s.cyc.station = .testing then abortCycle (abortedEvent broadcast s) stopForAbort s else s

/-- CYC answers an ABORT; a broadcast one is never answered (R14, R182). -/
def ownAbort (broadcast : Bool) (s : State) : State :=
  if broadcast then abortTaken true s
  else match abortRefusal s.cyc.station with
    | some why => queueReply (refusal codeAbort why) s
    | none => queueReply (plainReply codeAbort .accepted) (abortTaken false s)

/-- CYC answers a START of the right form (R3, R4, R189). -/
def ownStart (body : List Byte) (s : State) : State :=
  match startRefusal (field body 0 1) s with
  | some why => queueReply (refusal codeStart why) s
  | none =>
    queueReply ⟨codeStart, .accepted, none, 0, be 4 s.store.nextSeq⟩
      (startCycle (field body 0 1) (body.drop 6) ((body.drop 2).take 4) s)

/-- The pending table written, with its flag (R105). -/
def loadPhases (codes : List Nat) (s : State) : State :=
  withSca (fun c => { c with pending := codes, pendingFlag := true }) s

/-- SCA answers a PHASES of the right length (R105, R185). -/
def ownPhases (body : List Byte) (s : State) : State :=
  if s.cyc.station = .starting then queueReply (refusal codePhases .starting) s
  else if body.all (fun b => decide (b.toNat ≤ 6)) then
    queueReply (plainReply codePhases .accepted) (loadPhases (body.map BitVec.toNat) s)
  else queueReply (badOrder codePhases body) s

/-- STORE takes a record read: refused in STARTING, else the decoder stays busy until it is served (R165, R180). -/
def ownRead (order : Byte) (r : StoreRead) (s : State) : State :=
  if s.cyc.station = .starting then queueReply (refusal order .starting) s
  else withLif (fun l => { l with decoder := .reading r }) s

/-- The answer of an ITEM order (R184). -/
def itemReply (item index : Byte) (s : State) : Reply :=
  match itemData item.toNat index.toNat s with
  | some d => ⟨codeItem, .data, none, item, d⟩
  | none => ⟨codeItem, .notHeld, none, item, []⟩

/-- The reset logic answers a RESTART (R188). -/
def ownRestart (broadcast : Bool) (s : State) : State :=
  if s.cyc.station = .starting then
    if broadcast then s else queueReply (refusal codeRestart .starting) s
  else if broadcast then takeRestart s
  else withLif (fun l => { l with decoder := .restarting, restartLeft := some 100 })
    (queueReply (plainReply codeRestart .accepted) s)

/-- An order of the right form passes to its owner (R180, step 5). -/
def ownOrder (broadcast : Bool) (order : Byte) (body : List Byte) (s : State) : State :=
  if order = codeAbort then ownAbort broadcast s
  else if order = codeFind then ownRead codeFind (.serial (body.drop 1)) s
  else if order = codeItem then queueReply (itemReply (byteAt body 0) (byteAt body 1) s) s
  else if order = codePhases then ownPhases body s
  else if order = codeRdnew then ownRead codeRdnew .newest s
  else if order = codeRdseq then ownRead codeRdseq (.seq (field body 0 4)) s
  else if order = codeRestart then ownRestart broadcast s
  else ownStart body s

/-! ## The order decoder (R180) -/

/-- Whether a full reply queue drops an order: any but a broadcast ABORT or RESTART (R180, step 1). -/
def dropsOrder (broadcast : Bool) (order : Byte) (s : State) : Bool :=
  decide (4 ≤ s.lif.replies.length) && !(broadcast && mayBroadcast order)

/-- An order with a code taken by the decoder, judged in R180's order. A broadcast ABORT or RESTART is never answered,
so a malformed one has no effect at all (assumption 19). -/
def judgeOrder (broadcast : Bool) (order : Byte) (body : List Byte) (s : State) : State :=
  if dropsOrder broadcast order s then
    withCounters (fun c => { c with repliesDropped := bump 65535 c.repliesDropped }) s
  else if namesOrder order = false then queueReply (badOrder order body) s
  else if broadcast && !mayBroadcast order then queueReply (badOrder order body) s
  else if wellFormedBody order body = false then if broadcast then s else queueReply (badOrder order body) s
  else ownOrder broadcast order body s

/-- An order taken from the receive buffer by a free decoder; one without a code is answered with code 0 (R180). -/
def takeOrder (dest : Byte) (payload : List Byte) (s : State) : State :=
  match payload with
  | [] =>
    if dropsOrder false 0 s then
      withCounters (fun c => { c with repliesDropped := bump 65535 c.repliesDropped }) s
    else queueReply (badOrder 0 []) s
  | order :: body => judgeOrder (dest == destAll) order body s

/-! ## The receive buffer (R179) -/

/-- Whether a full frame is a posting of the right form. -/
def isPosting (kind dest : Byte) (payload : List Byte) : Bool :=
  (kind == kindPeriodic || kind == kindEvent) && dest == destAll && payload.length == 16

/-- Whether a full frame is an order to this station. -/
def isOrder (number : Nat) (kind source dest : Byte) : Bool :=
  kind == kindOrder && source == 0 && (dest.toNat == number || dest == destAll)

/-- Whether a frame that has passed R176 is routed into the receive buffer. -/
def isRouted (number : Nat) : Frame → Bool
  | .full k src dst p => isPosting k dst p || isOrder number k src dst
  | .short _ => true

/-- The frame at the head leaves the buffer. -/
def popBuffer (s : State) : State := withLif (fun l => { l with buffer := l.buffer.tail }) s

/-- The consumers take what they can from the head of the buffer: PEER a posting at once, the order decoder an order when
it is free. `n` bounds the frames taken. -/
def drain : Nat → State → State
  | 0, s => s
  | n + 1, s =>
    match s.lif.buffer with
    | [] => s
    | ⟨.short b, own⟩ :: _ => drain n (takeRepeatPosting own b.toNat (popBuffer s))
    | ⟨.full k src dst p, own⟩ :: _ =>
      if k = kindOrder then
        if s.lif.decoder = .free then drain n (takeOrder dst p (popBuffer s)) else s
      else drain n (takeFullPosting own src.toNat p (popBuffer s))

/-- A frame that has passed R176 is routed, dropped as an overrun at a full buffer, or discarded uncounted (R179). -/
def receive (f : Frame) (own : Bool) (s : State) : State :=
  if isRouted s.cfg.number f then
    if 2 ≤ s.lif.buffer.length then withCounters (fun c => { c with overruns := bump 65535 c.overruns }) s
    else
      let s := withLif (fun l => { l with buffer := l.buffer ++ [⟨f, own⟩] }) s
      drain s.lif.buffer.length s
  else s

/-- The read in hand served from the current pages, its answer queued, the decoder freed, and what waited in the
buffer taken, on the input levels as they stand now (R3, R165, R170 to R172, R179). -/
def serveRead (s : State) : State :=
  match s.lif.decoder with
  | .reading r =>
    let order := match r with
      | .seq _ => codeRdseq
      | .newest => codeRdnew
      | .serial _ => codeFind
    let a := readAnswer s.store r
    let s := withLif (fun l => { l with decoder := .free }) (queueReply ⟨order, a.1, none, 0, a.2⟩ s)
    if s.lif.buffer = [] then s else drain s.lif.buffer.length (seeInputs s)
  | _ => s

/-! ## Commands -/

/-- An order frame from the line node. -/
def orderFrame (dest order : Byte) (body : List Byte) : Frame := .full kindOrder 0 dest (order :: body)

/-- ABORT (R14, R182). -/
def execAbort (dest : Byte) (body : List Byte) (s : State) : Host.Outcome State Fault Refusal :=
  whenReleased (receive (orderFrame dest codeAbort body) false) s

/-- FIND (R172, R183). -/
def execFind (dest : Byte) (body : List Byte) (s : State) : Host.Outcome State Fault Refusal :=
  whenReleased (receive (orderFrame dest codeFind body) false) s

/-- ITEM (R184). -/
def execItem (dest : Byte) (body : List Byte) (s : State) : Host.Outcome State Fault Refusal :=
  whenReleased (receive (orderFrame dest codeItem body) false) s

/-- PHASES (R105, R185). -/
def execPhases (dest : Byte) (body : List Byte) (s : State) : Host.Outcome State Fault Refusal :=
  whenReleased (receive (orderFrame dest codePhases body) false) s

/-- RDNEW (R171, R186). -/
def execRdnew (dest : Byte) (body : List Byte) (s : State) : Host.Outcome State Fault Refusal :=
  whenReleased (receive (orderFrame dest codeRdnew body) false) s

/-- RDSEQ (R170, R187). -/
def execRdseq (dest : Byte) (body : List Byte) (s : State) : Host.Outcome State Fault Refusal :=
  whenReleased (receive (orderFrame dest codeRdseq body) false) s

/-- RESTART (R188), with the strap pins as they stand (assumption 3). -/
def execRestart (straps : BitVec 4) (dest : Byte) (body : List Byte) (s : State) : Host.Outcome State Fault Refusal :=
  whenReleased (receive (orderFrame dest codeRestart body) false) (withPins (setStraps straps) s)

/-- START (R3, R4, R189). -/
def execStart (lines : StandLines) (dest : Byte) (body : List Byte) (s : State) : Host.Outcome State Fault Refusal :=
  whenReleased (receive (orderFrame dest codeStart body) false) (withPins (setLines lines) s)

/-- STORE_READ_SERVED (R165). -/
def execStoreReadServed (s : State) : Host.Outcome State Fault Refusal := whenReleased serveRead s

/-- FULL_POSTING_RECEIVED (R28, R29). -/
def execFullPostingReceived (event own : Bool) (source : Byte) (payload : List Byte) (s : State) :
    Host.Outcome State Fault Refusal :=
  whenReleased (receive (.full (if event then kindEvent else kindPeriodic) source destAll payload) own) s

/-- REPEAT_POSTING_RECEIVED (R28, R30). -/
def execRepeatPostingReceived (own : Bool) (station : Byte) (s : State) : Host.Outcome State Fault Refusal :=
  whenReleased (receive (.short station) own) s

end Sys2Proof.Machine
end

