-- ==== Sys2Proof/Machine/Line.lean ====
section
/-! DEFINITION. The line itself (Line Bus, Orders and Formats, R174 to R178; Postings and the Peer Table, R24 to R27): the receive
classifier with its frame checks, and the own transmitter. -/
namespace Sys2Proof.Machine

/-- The classifier's stand changed. -/
def setClassifier (c : Classifier) (s : State) : State := withLif (fun l => { l with classifier := c }) s

/-! ## The receive classifier (R175) -/

/-- A pulse error: the count rises, a frame in progress is discarded, and the bus must be idle before the next start. -/
def pulseError (s : State) : State :=
  withCounters (fun c => { c with pulseErrors := bump 65535 c.pulseErrors }) (setClassifier (.waitIdle false) s)

/-- A discard of R176 with a length error: pulse errors are not counted until the bus is idle. -/
def lengthError (s : State) : State :=
  withCounters (fun c => { c with lengthErrors := bump 65535 c.lengthErrors }) (setClassifier (.waitIdle true) s)

/-- A discard of R176 with a CRC error. -/
def crcError (s : State) : State :=
  withCounters (fun c => { c with crcErrors := bump 65535 c.crcErrors }) (setClassifier (.waitIdle true) s)

/-- The bytes a frame in progress is expected to have, once its length byte is known (R176). -/
def expectedBytes (p : RxProgress) : Option Nat :=
  if p.isRepeat then some 2
  else if p.bytes.length < 4 then none
  else some (6 + (byteAt p.bytes 3).toNat)

/-- Whether a frame in progress has exactly its expected bytes. -/
def isComplete (p : RxProgress) : Bool := p.bits.isEmpty && expectedBytes p == some p.bytes.length

/-- A bit added to a frame in progress: the eighth of a part byte completes the byte. -/
def addBit (b : Bool) (p : RxProgress) : RxProgress :=
  if p.bits.length = 7 then { p with bytes := p.bytes ++ [BitVec.ofNat 8 (bitsNat (p.bits ++ [b]))], bits := [] }
  else { p with bits := p.bits ++ [b] }

/-- Whether a full frame's length byte has just been completed above 160. -/
def tooLong (p : RxProgress) : Bool :=
  !p.isRepeat && p.bytes.length == 4 && decide (160 < (byteAt p.bytes 3).toNat)

/-- A bit pulse inside a frame (R176). -/
def bitTaken (b : Bool) (p : RxProgress) (s : State) : State :=
  if isComplete p then lengthError s
  else if tooLong (addBit b p) then lengthError s
  else setClassifier (.inFrame (addBit b p)) s

/-- A frame opened by a start pulse. -/
def openFrame (isRepeat : Bool) : RxProgress := ⟨isRepeat, [], [], false⟩

/-- The bus as the pulses and gaps show it: idle, or not (R174, assumption 42). -/
def setBusIdle (idle : Bool) (s : State) : State := withLif (fun l => { l with busIdle := idle }) s

/-- A dominant pulse of a class, by the classifier's stand (R175, R176). While the classifier waits for an idle bus it
takes no bit and no start; a pulse of no valid width is a pulse error then too, unless a discard of R176 has
silenced it (assumption 14). -/
def classifyPulse (c : PulseClass) (s : State) : State :=
  match s.lif.classifier, c with
  | .stopped, _ => s
  | .waitIdle quiet, .error => if quiet then s else pulseError s
  | .waitIdle _, _ => s
  | .waitStart, .startFull => setClassifier (.inFrame (openFrame false)) s
  | .waitStart, .startRepeat => setClassifier (.inFrame (openFrame true)) s
  | .waitStart, _ => pulseError s
  | .inFrame p, .bit b => bitTaken b p s
  | .inFrame _, _ => pulseError s

/-- A dominant pulse has passed: the bus is no longer idle, and the classifier takes the pulse (R174, R175). A classifier
that does not run sees none. -/
def takePulse (c : PulseClass) (s : State) : State :=
  if s.lif.classifier = .stopped then s else classifyPulse c (setBusIdle false s)

/-! ## Judging a frame (R176) -/

/-- The frame a complete frame in progress spells, if it passes its CRC or complement. -/
def frameOf (p : RxProgress) : Option Frame :=
  if p.isRepeat then
    if byteAt p.bytes 1 = ~~~(byteAt p.bytes 0) then some (.short (byteAt p.bytes 0)) else none
  else if crcBytes (p.bytes.take (p.bytes.length - 2)) = p.bytes.drop (p.bytes.length - 2) then
    some (.full (byteAt p.bytes 0) (byteAt p.bytes 1) (byteAt p.bytes 2) ((p.bytes.take (p.bytes.length - 2)).drop 4))
  else none

/-- A recessive gap longer than 6u (R176). An order that it completes is taken on the input levels as they stand now
(R3). -/
def frameEnded (s : State) : State :=
  match s.lif.classifier with
  | .inFrame p =>
    if isComplete p then
      match frameOf p with
      | some f => receive f p.own (seeInputs (setClassifier .waitStart s))
      | none => crcError s
    else lengthError s
  | _ => s

/-- The bus idle, recessive for 8u: the own transmitter may begin (R174), and a waiting classifier takes the next start
(R175). -/
def busIdle (s : State) : State :=
  match s.lif.classifier with
  | .stopped => s
  | .waitIdle _ => setClassifier .waitStart (setBusIdle true s)
  | .waitStart => setBusIdle true s
  | .inFrame _ => setBusIdle true s

/-! ## The own transmitter (R24 to R27, R178, R181) -/

/-- The payload of a reply frame (R181). -/
def replyPayload (r : Reply) : List Byte :=
  [r.order, BitVec.ofNat 8 r.outcome.code, BitVec.ofNat 8 ((r.reason.map Reason.code).getD 0), r.qualifier] ++ r.data

/-- The own station number as a byte. -/
def numberByte (s : State) : Byte := BitVec.ofNat 8 s.cfg.number

/-- An attempt: at an idle bus the frame begins, with the choice that stands from leaving IDLE or from the last frame, or
made now after a loss (R25); its start leaves the bus idle no longer (assumption 42). At a bus that is not idle the transmitter stays
WAITING (R174). -/
def attempt (s : State) : State :=
  if s.lif.tx.state = .waiting ∧ s.lif.busIdle = true then
    match (match s.lif.tx.choice with
      | some c => some c
      | none => chooseTx s) with
    | some c => setBusIdle false (withTx ⟨.waiting, some c, true, none⟩ s)
    | none => withTx ⟨.idle, none, false, none⟩ s
  else s

/-- The frame in progress at the classifier is the own transmitter's, once its arbitration is won (R178). -/
def markOwn : Classifier → Classifier
  | .inFrame p => .inFrame { p with own := true }
  | .stopped => .stopped
  | .waitIdle q => .waitIdle q
  | .waitStart => .waitStart

/-- The transmitter SENDING a frame. -/
def sendFrame (c : TxChoice) (f : Frame) (s : State) : State :=
  withLif (fun l => { l with tx := ⟨.sending, some c, false, some f⟩, classifier := markOwn l.classifier }) s

/-- The own posting state copied into a full posting: the last full posting, with the latch and the due flag cleared
(R26). -/
def composeFull (s : State) : State :=
  withPeer (fun x => { x with lastFull := some x.posting, latch := false, due := false }) s

/-- Arbitration won: the frame's content is fixed (R26). -/
def won (s : State) : State :=
  if s.lif.tx.state = .waiting ∧ s.lif.tx.attempting = true then
    match s.lif.tx.choice with
    | some .reply =>
      match s.lif.replies with
      | r :: _ => sendFrame .reply (.full kindReply (numberByte s) 0 (replyPayload r)) s
      | [] => s
    | some (.full event) =>
      sendFrame (.full event)
        (.full (if event then kindEvent else kindPeriodic) (numberByte s) destAll (postingBytes s.peer.posting))
        (composeFull s)
    | some .short => sendFrame .short (.short (numberByte s)) (withPeer (fun x => { x with due := false }) s)
    | none => s
  else s

/-- Arbitration lost: counted, and the transmitter stays WAITING, to choose afresh (R27, R178). -/
def lost (s : State) : State :=
  if s.lif.tx.state = .waiting ∧ s.lif.tx.attempting = true then
    withCounters (fun c => { c with arbLosses := bump 65535 c.arbLosses }) (withTx ⟨.waiting, none, false, none⟩ s)
  else s

/-- The transmitter chooses again after a frame, or returns to IDLE (R25, R26). -/
def chooseAgain (s : State) : State :=
  match chooseTx s with
  | some c => withTx ⟨.waiting, some c, false, none⟩ s
  | none => withTx ⟨.idle, none, false, none⟩ s

/-- Whether a reply is the ACCEPTED of the RESTART in waiting (R188). -/
def isRestartReply (s : State) (r : Reply) : Bool :=
  s.lif.decoder == .restarting && r.order == codeRestart && r.outcome == .accepted

/-- A reply has been sent: it leaves the queue, and the ACCEPTED of a RESTART brings the reset (R181, R188). -/
def replySent (s : State) : State :=
  match s.lif.replies with
  | r :: rest =>
    if isRestartReply s r then takeRestart (seeInputs s) else chooseAgain (withLif (fun l => { l with replies := rest }) s)
  | [] => chooseAgain s

/-- A frame has been sent: the repeat counter or the reply queue, and the next choice (R26). -/
def sent (s : State) : State :=
  if s.lif.tx.state = .sending then
    match s.lif.tx.choice with
    | some .reply => replySent s
    | some (.full _) => chooseAgain (withPeer (fun x => { x with repeats := 0 }) s)
    | some .short => chooseAgain (withPeer (fun x => { x with repeats := bump 9 x.repeats }) s)
    | none => chooseAgain s
  else s

/-! ## Commands -/

/-- FRAME_END (R176). -/
def execFrameEnd (s : State) : Host.Outcome State Fault Refusal := whenReleased frameEnded s

/-- PULSE_ERROR (R175). -/
def execPulseError (ns : Nat) (s : State) : Host.Outcome State Fault Refusal := whenReleased (takePulse (classify ns)) s

/-- START_PULSE (R175). -/
def execStartPulse (ns : Nat) (s : State) : Host.Outcome State Fault Refusal := whenReleased (takePulse (classify ns)) s

/-- BIT_PULSE (R175, R176). -/
def execBitPulse (ns : Nat) (s : State) : Host.Outcome State Fault Refusal := whenReleased (takePulse (classify ns)) s

/-- BUS_IDLE (R175). -/
def execBusIdle (s : State) : Host.Outcome State Fault Refusal := whenReleased busIdle s

/-- LINE_STUCK (R175): the count rises when the pulse reaches 15u, at a bus that is dominant; its pulse error is that of
the pulse's end (assumption 24). -/
def execLineStuck (s : State) : Host.Outcome State Fault Refusal :=
  whenReleased (fun s =>
    if s.lif.classifier = .stopped then s
    else withCounters (fun c => { c with lineStuck := bump 65535 c.lineStuck }) (setBusIdle false s)) s

/-- TRANSMIT_ATTEMPT (R25). -/
def execTransmitAttempt (s : State) : Host.Outcome State Fault Refusal := whenReleased attempt s

/-- ARBITRATION_WON (R26). -/
def execArbitrationWon (s : State) : Host.Outcome State Fault Refusal := whenReleased won s

/-- ARBITRATION_LOST (R27, R178). -/
def execArbitrationLost (s : State) : Host.Outcome State Fault Refusal := whenReleased lost s

/-- FRAME_SENT (R26). -/
def execFrameSent (s : State) : Host.Outcome State Fault Refusal := whenReleased sent s

/-- RESTART_TIMEOUT (R188); the reset reads the straps as they stand now (R192). -/
def execRestartTimeout (s : State) : Host.Outcome State Fault Refusal :=
  whenReleased (fun s => if s.lif.restartLeft.isSome then takeRestart (seeInputs s) else s) s

end Sys2Proof.Machine
end

