-- ==== Sys2Proof/Machine/Dispatch.lean ====
section
/-! DEFINITION. One arm per command, each one direct call of its meaning. -/
namespace Sys2Proof.Machine

def exec (i : Instr) (s : State) : Host.Outcome State Fault Refusal :=
  match i with
  | .abort dest body => Sys2Proof.Machine.execAbort dest body s
  | .find dest body => Sys2Proof.Machine.execFind dest body s
  | .item dest body => Sys2Proof.Machine.execItem dest body s
  | .phases dest body => Sys2Proof.Machine.execPhases dest body s
  | .rdnew dest body => Sys2Proof.Machine.execRdnew dest body s
  | .rdseq dest body => Sys2Proof.Machine.execRdseq dest body s
  | .restart straps dest body => Sys2Proof.Machine.execRestart straps dest body s
  | .start lines dest body => Sys2Proof.Machine.execStart lines dest body s
  | .storeReadServed => Sys2Proof.Machine.execStoreReadServed s
  | .fullPostingReceived event own source payload => Sys2Proof.Machine.execFullPostingReceived event own source payload s
  | .repeatPostingReceived own station => Sys2Proof.Machine.execRepeatPostingReceived own station s
  | .frameEnd => Sys2Proof.Machine.execFrameEnd s
  | .pulseError ns => Sys2Proof.Machine.execPulseError ns s
  | .lineStuck => Sys2Proof.Machine.execLineStuck s
  | .transmitAttempt => Sys2Proof.Machine.execTransmitAttempt s
  | .arbitrationWon => Sys2Proof.Machine.execArbitrationWon s
  | .arbitrationLost => Sys2Proof.Machine.execArbitrationLost s
  | .frameSent => Sys2Proof.Machine.execFrameSent s
  | .restartTimeout => Sys2Proof.Machine.execRestartTimeout s
  | .postingPeriodExpiry ageBeforeLsn ageBeforeLeak => Sys2Proof.Machine.execPostingPeriodExpiry ageBeforeLsn ageBeforeLeak s
  | .rampStep => Sys2Proof.Machine.execRampStep s
  | .indexPulse us => Sys2Proof.Machine.execIndexPulse us s
  | .indexTimeout => Sys2Proof.Machine.execIndexTimeout s
  | .countingPulse => Sys2Proof.Machine.execCountingPulse s
  | .conversionComplete code => Sys2Proof.Machine.execConversionComplete code s
  | .phaseBoundary => Sys2Proof.Machine.execPhaseBoundary s
  | .slowConversionComplete code => Sys2Proof.Machine.execSlowConversionComplete code s
  | .oilHistoryAppend => Sys2Proof.Machine.execOilHistoryAppend s
  | .deferralLimit => Sys2Proof.Machine.execDeferralLimit s
  | .airWaitLimit c => Sys2Proof.Machine.execAirWaitLimit c s
  | .fillTimerExpiry c => Sys2Proof.Machine.execFillTimerExpiry c s
  | .stabiliseTimerExpiry c => Sys2Proof.Machine.execStabiliseTimerExpiry c s
  | .measureTimerExpiry c => Sys2Proof.Machine.execMeasureTimerExpiry c s
  | .ventTimerExpiry c => Sys2Proof.Machine.execVentTimerExpiry c s
  | .swapStepDone verified => Sys2Proof.Machine.execSwapStepDone verified s
  | .swapEnd => Sys2Proof.Machine.execSwapEnd s
  | .driveReadyFall => Sys2Proof.Machine.execDriveReadyFall s
  | .standStopOpen => Sys2Proof.Machine.execStandStopOpen s
  | .axleInputFall which => Sys2Proof.Machine.execAxleInputFall which s
  | .supplyWarningRaised => Sys2Proof.Machine.execSupplyWarningRaised s
  | .supplyWarningCleared => Sys2Proof.Machine.execSupplyWarningCleared s
  | .reset kind => Sys2Proof.Machine.execReset kind s
  | .resetRelease straps supplyLow => Sys2Proof.Machine.execResetRelease straps supplyLow s
  | .imageReadDone image => Sys2Proof.Machine.execImageReadDone image s
  | .storeScanDone => Sys2Proof.Machine.execStoreScanDone s
  | .busIdle => Sys2Proof.Machine.execBusIdle s
  | .startPulse ns => Sys2Proof.Machine.execStartPulse ns s
  | .bitPulse ns => Sys2Proof.Machine.execBitPulse ns s

end Sys2Proof.Machine
end

