-- ==== Sys2Proof/Machine/Tick.lean ====
section
/-! DEFINITION. The timebase (R102, R114 and every rule on the 1 ms timebase). The table has no row for a tick, so a tick of
0.25 ms is what a step does on an empty queue (assumption 5): it moves the block's own timers and puts the commands
that fall due into the queue. -/
namespace Sys2Proof.Machine

/-! ## The order of events that fall at one moment (assumption 6) -/

/-- A command put among others by its free place. -/
def placeEvent (k : Nat) (c : Instr) : List (Nat × Instr) → List (Nat × Instr)
  | [] => [(k, c)]
  | x :: l => if k < x.1 then (k, c) :: x :: l else x :: placeEvent k c l

/-- Commands in the order of their free places, for one draw. -/
def placeEvents (draw : Nat) : Nat → List Instr → List (Nat × Instr)
  | _, [] => []
  | i, c :: l => placeEvent (Config.eventPlace draw i) c (placeEvents draw (i + 1) l)

/-- The order in which the events of one moment are taken: free where there is more than one. -/
def arrange (draw : Nat) : List Instr → List Instr
  | [] => []
  | [c] => [c]
  | l => (placeEvents draw 0 l).map Prod.snd

/-! ## What falls due at a whole millisecond -/

/-- A counter that runs down, and whether it has just reached 0. -/
def runDown (n : Nat) : Nat := n - 1

/-- Whether a counter reaches 0 at this ms. -/
def reaches (n : Nat) : Bool := n == 1

/-- A command, if it is due. -/
def whenDue (due : Bool) (c : Instr) : List Instr := if due then [c] else []

/-- The command of a circuit's phase timer's expiry in a state (R114). -/
def timerEvent (c : CircuitId) : CircuitState → List Instr
  | .fill => [.fillTimerExpiry c]
  | .stabilise => [.stabiliseTimerExpiry c]
  | .measure => [.measureTimerExpiry c]
  | .vent => [.ventTimerExpiry c]
  | .off => []
  | .wait => []
  | .intent => []
  | .done => []

/-- A circuit one ms on: its phase timer, its air-wait time in WAIT and INTENT, and its fill time in FILL (R114, R120,
R122). -/
def tickCircuit (k : Circuit) : Circuit :=
  { k with
    timer := runDown k.timer
    airWaitMs := if seeksAir k.state then k.airWaitMs + 1 else k.airWaitMs
    fillTime := if k.state = .fill then bump 65535 k.fillTime else k.fillTime }

/-- A circuit's timer event at this ms. -/
def circuitDue (c : CircuitId) (k : Circuit) : List Instr := if reaches k.timer then timerEvent c k.state else []

/-- Whether a circuit's air-wait time passes its limit with this ms (R120). -/
def airWaitDue (c : CircuitId) (s : State) : Bool :=
  seeksAir (circuitOf s c).state && !s.leak.airWaitMark
    && decide ((paramsOf s c).airWaitLimit * 1000 < (circuitOf s c).airWaitMs + 1)

/-- The AIR_WAIT event of this ms: circuit 1's where both fall together (R120). -/
def airWaitEvents (s : State) : List Instr :=
  if airWaitDue .one s then [.airWaitLimit .one] else whenDue (airWaitDue .two s) (.airWaitLimit .two)

/-- Whether the deferral time reaches its limit with this ms (R73). -/
def deferralDue (s : State) : Bool :=
  s.lsn.state == .deferring && decide (deferralLimitMs s ≤ s.lsn.deferralMs + 1)

/-- The commands that fall due at this ms. -/
def dueEvents (s : State) : List Instr :=
  whenDue (reaches s.peer.periodLeft) (.postingPeriodExpiry (Config.ageBeforeLsn s.draws) (Config.ageBeforeLeak s.draws))
    ++ whenDue (reaches s.run.rampLeft) .rampStep
    ++ whenDue (s.run.sinceIndex == 1499 && s.run.lastIndex.isSome) .indexTimeout
    ++ whenDue (inCycle s.cyc.station && inRunIn s.run.state && (s.cyc.timerMs + 1) % 1000 == 0) .oilHistoryAppend
    ++ whenDue (deferralDue s) .deferralLimit
    ++ airWaitEvents s
    ++ circuitDue .one s.leak.c1 ++ circuitDue .two s.leak.c2
    ++ whenDue (s.lif.restartLeft == some 1) .restartTimeout

/-- A slow channel one ms on (R109). -/
def tickSlow (x : SlowValue) : SlowValue := if x.sampled then { x with sinceMs := bump 65535 x.sinceMs } else x

/-- The deferral time one ms on: it accumulates in DEFERRING and stops short of its limit, which DEFERRAL_LIMIT
reaches (R68, R73). -/
def tickLsn (limit : Nat) (l : Lsn) : Lsn :=
  if l.state = .deferring ∧ l.deferralMs + 1 < limit then { l with deferralMs := l.deferralMs + 1 } else l

/-- The block's own timers and counts one ms on. -/
def tickTimers (s : State) : State :=
  { s with
    clock := ⟨0, bump (2 ^ 32 - 1) s.clock.ms⟩
    cyc := { s.cyc with timerMs := if inCycle s.cyc.station then s.cyc.timerMs + 1 else s.cyc.timerMs }
    peer := { s.peer with periodLeft := runDown s.peer.periodLeft }
    run := { s.run with rampLeft := runDown s.run.rampLeft, sinceIndex := bump 1500 s.run.sinceIndex }
    lsn := tickLsn (deferralLimitMs s) s.lsn
    sca := { s.sca with
      torq := tickSlow s.sca.torq
      oilt := tickSlow s.sca.oilt
      prs1 := tickSlow s.sca.prs1
      airt1 := tickSlow s.sca.airt1
      prs2 := tickSlow s.sca.prs2
      airt2 := tickSlow s.sca.airt2 }
    leak := { s.leak with c1 := tickCircuit s.leak.c1, c2 := tickCircuit s.leak.c2 }
    lif := { s.lif with restartLeft := s.lif.restartLeft.map runDown } }

/-- A tick's events put into the queue, in their free order. -/
def enqueue (events : List Instr) (s : State) : State :=
  { s with pending := s.pending ++ arrange s.draws events, draws := s.draws + 1 }

/-- The phase boundary every quarter brings once the rota runs (R102). -/
def boundaryEvents (s : State) : List Instr := whenDue s.sca.rota .phaseBoundary

/-- One quarter of a millisecond. A station held in reset has no timer running. -/
def tick (s : State) : State :=
  if s.boot = .held then s
  else if s.clock.quarter < 3 then
    enqueue (boundaryEvents s) { s with clock := { s.clock with quarter := s.clock.quarter + 1 } }
  else enqueue (dueEvents s ++ boundaryEvents s) (tickTimers s)

end Sys2Proof.Machine
end

