-- ==== Sys2Proof/WellFormed.lean ====
section
/-! DEFINITION. Which commands are well formed: the operands a sender outside the block can give. `exec` has a meaning for
every command, well formed or not. -/
namespace Sys2Proof

/-- An order's operands: a destination of the line, and a body that fits a payload of at most 160 bytes with its
code (R176, Layouts: Frames). -/
def orderOk (dest : Byte) (body : List Byte) : Bool :=
  (decide (dest.toNat ≤ 16) || dest == Machine.destAll) && decide (body.length ≤ 159)

/-- A dominant pulse of a start's width (R175). -/
def isStart : Machine.PulseClass → Bool
  | .startFull => true
  | .startRepeat => true
  | .bit _ => false
  | .error => false

/-- A dominant pulse of a bit's width (R175). -/
def isBit : Machine.PulseClass → Bool
  | .bit _ => true
  | .startFull => false
  | .startRepeat => false
  | .error => false

/-- Whether a command is well formed. A pulse error may have any width: a start or a bit in the wrong place is one. -/
def wellFormed : Instr → Bool
  | .abort dest body => orderOk dest body
  | .find dest body => orderOk dest body
  | .item dest body => orderOk dest body
  | .phases dest body => orderOk dest body
  | .rdnew dest body => orderOk dest body
  | .rdseq dest body => orderOk dest body
  | .restart _ dest body => orderOk dest body
  | .start _ dest body => orderOk dest body
  | .storeReadServed => true
  | .fullPostingReceived _ _ _ payload => payload.length == 16
  | .repeatPostingReceived _ _ => true
  | .frameEnd => true
  | .pulseError _ => true
  | .lineStuck => true
  | .transmitAttempt => true
  | .arbitrationWon => true
  | .arbitrationLost => true
  | .frameSent => true
  | .restartTimeout => true
  | .postingPeriodExpiry _ _ => true
  | .rampStep => true
  | .indexPulse _ => true
  | .indexTimeout => true
  | .countingPulse => true
  | .conversionComplete _ => true
  | .phaseBoundary => true
  | .slowConversionComplete _ => true
  | .oilHistoryAppend => true
  | .deferralLimit => true
  | .airWaitLimit _ => true
  | .fillTimerExpiry _ => true
  | .stabiliseTimerExpiry _ => true
  | .measureTimerExpiry _ => true
  | .ventTimerExpiry _ => true
  | .swapStepDone _ => true
  | .swapEnd => true
  | .driveReadyFall => true
  | .standStopOpen => true
  | .axleInputFall _ => true
  | .supplyWarningRaised => true
  | .supplyWarningCleared => true
  | .reset _ => true
  | .resetRelease _ _ => true
  | .imageReadDone image => decide (image.length ≤ 4096)
  | .storeScanDone => true
  | .busIdle => true
  | .startPulse ns => isStart (Machine.classify ns)
  | .bitPulse ns => isBit (Machine.classify ns)

end Sys2Proof
end

