-- ==== Sys2Proof/Safety.lean ====
section
/-! DEFINITION. The laws the manual states for the machine as a whole, block by block: each holds after a reset and every step
keeps it. The claims use them as invariants and as premises. -/
namespace Sys2Proof.Machine

/-! ## The start-up sequence and the store (R1, R159, R164, R169, R195) -/

/-- The station is in STARTING, and STORE in SCANNING, exactly until the start-up sequence ends (R1); a recovery, swapping
or held, belongs to that sequence (R169), and no swap is in flight before it. -/
abbrev bootLaw (s : State) : Prop :=
  (s.boot ≠ .up ↔ s.cyc.station = .starting)
    ∧ (s.boot ≠ .up ↔ s.store.state = .scanning)
    ∧ (∀ w ∈ s.store.swap, w.recovery = true ↔ s.boot = .recover)
    ∧ (s.store.recovery.isSome = true → s.boot = .recover ∧ s.store.swap = none)
    ∧ (s.boot = .held ∨ s.boot = .readImage ∨ s.boot = .scan → s.store.swap = none)

/-- STORE's states (R159, R160, R164): a fault has a cause and posts STORE_FAULT, a swap in flight shows in the state,
an image is pending only behind a swap or behind the supply warning, and the warning is posted. -/
abbrev storeLaw (s : State) : Prop :=
  (s.store.state = .faulted ↔ s.peer.posting.storeFault = true)
    ∧ (s.store.cause.isSome = true ↔ s.store.state = .faulted)
    ∧ (s.store.state = .swapping → s.store.swap.isSome = true)
    ∧ (s.store.swap.isSome = true → s.store.state = .swapping ∨ s.store.state = .scanning)
    ∧ (s.store.pending.isSome = true → s.store.state = .swapping ∨ (s.store.state = .ready ∧ s.supplyWarning = true))
    ∧ s.peer.posting.supplyWarning = s.supplyWarning

/-- The flash is in its canonical form (R155). -/
abbrev flashLaw (s : State) : Prop := flashWf s.store.flash

/-! ## The line interface (R179 to R181) -/

/-- Whether the order decoder is busy with a record read. -/
def Decoder.isReading : Decoder → Bool
  | .reading _ => true
  | .free => false
  | .restarting => false

/-- The receive buffer holds at most two frames and the reply queue at most four replies, with room left for the answer
of a read in hand; and a transmitter in IDLE has nothing to send (R25). -/
abbrev lineLaw (s : State) : Prop :=
  s.lif.buffer.length ≤ 2 ∧ s.lif.replies.length ≤ 4
    ∧ (s.lif.decoder.isReading = true → s.lif.replies.length ≤ 3)
    ∧ (s.lif.tx.state = .idle → s.lif.replies = [] ∧ s.peer.latch = false ∧ s.peer.due = false)

/-! ## Deviations (R144 to R146) -/

/-- The first-deviation pointer is present exactly when the status set holds a class, and names one of them; the multiple
flag needs the pointer; no masked class is in the status set and only masked ones are in the masked-seen set; in STARTING
all is clear. -/
abbrev deviationLaw (s : State) : Prop :=
  (s.dev.first.isSome = true ↔ s.dev.status ≠ 0)
    ∧ (∀ c ∈ s.dev.first, inSet s.dev.status c.num = true)
    ∧ (s.dev.multiple = true → s.dev.first.isSome = true)
    ∧ (∀ c ∈ allClasses, inSet s.dev.status c.num = true → maskedClass s c = false)
    ∧ (∀ c ∈ allClasses, inSet s.dev.maskedSeen c.num = true → maskedClass s c = true)
    ∧ (s.cyc.station = .starting → s.dev = devClear)

/-! ## The peer table and the contamination condition (R31, R64) -/

/-- The peer table: in order of station number, none for the own number or outside 1 to 16, so at most 15 entries, each
with age 0 to 7 (R31); empty while the station number is not yet read. -/
abbrev peerLaw (s : State) : Prop :=
  1 ≤ s.cfg.number ∧ s.cfg.number ≤ 16
    ∧ s.peer.table.Pairwise (fun e f => e.station < f.station)
    ∧ (∀ e ∈ s.peer.table, 1 ≤ e.station ∧ e.station ≤ 16 ∧ e.station ≠ s.cfg.number ∧ e.age ≤ 7)
    ∧ s.peer.table.length ≤ 15
    ∧ (s.boot = .held → s.peer.table = [])

/-- The contamination condition is the one the peer table calls for (R64). -/
abbrev contaminationLaw (s : State) : Prop := s.lsn.contamination = contaminationOf s

/-! ## RUN (R42, R50, R53, R54) -/

/-- The commanded speed is 0 in OFF and COMPLETE, and RUN is in one of these in every station state but TESTING and ABORTING
(R42); the posted class is LOUD exactly above Vq, QUIET otherwise (R53); the posted demand never exceeds the station cap
and is 0 at rest (R50). -/
abbrev speedLaw (s : State) : Prop :=
  (s.run.state = .off ∨ s.run.state = .complete → s.run.cmd = 0)
    ∧ (inCycle s.cyc.station = false → s.run.state = .off ∨ s.run.state = .complete)
    ∧ s.peer.posting.acoustic = (if s.cfg.station.quietLimit < s.run.cmd then .loud else .quiet)
    ∧ s.peer.posting.demand ≤ s.cfg.station.stationCap
    ∧ (s.run.cmd = 0 → s.peer.posting.demand = 0)

/-- The hold set is empty in every state but HELD, where it is not (R42, R48, R60); the posted yielding flag is YIELD's
place in it (R54); under REVERSAL the commanded speed is 0, and under YIELD or DEFER not above Vq (R48). -/
abbrev holdLaw (s : State) : Prop :=
  (s.run.holds.isEmpty = false ↔ s.run.state = .held) ∧ s.peer.posting.yielding = s.run.holds.yields
    ∧ (s.run.holds.reversal = true → s.run.cmd = 0)
    ∧ (s.run.holds.yields = true ∨ s.run.holds.defer = true → s.run.cmd ≤ s.cfg.station.quietLimit)

/-! ## LSN and VIB (R65 to R72, R80) -/

/-- The listen state a state of LSN posts. -/
def listenOf : LsnState → Listen
  | .inactive => .unclaimed
  | .deferring => .unclaimed
  | .claiming => .claim
  | .listening => .listen

/-- What LSN posts is its state and claim age (R66, table of the listen states); a settle count runs in CLAIMING alone
(R69); VIB is SAMPLING exactly while LSN is LISTENING, and between events never in HOLDING (R80). -/
abbrev listenLaw (s : State) : Prop :=
  s.peer.posting.listen = listenOf s.lsn.state
    ∧ s.peer.posting.listenAge = s.lsn.claimAge
    ∧ s.lsn.claimAge ≤ 255
    ∧ (s.lsn.state = .inactive → s.lsn.claimAge = 0)
    ∧ (s.lsn.state = .claiming → 1 ≤ s.lsn.settle ∧ s.lsn.settle ≤ 2)
    ∧ (s.lsn.state ≠ .claiming → s.lsn.settle = 0)
    ∧ (s.vib.state = .sampling ↔ s.lsn.state = .listening)
    ∧ s.vib.state ≠ .holding

/-! ## LEAK (R113, R116, R118, R132) -/

/-- A circuit's valves as its state has them; the vent valve of an OFF circuit is open in STARTING (R113, R132). -/
abbrev valvesKept (st : StationState) (k : Circuit) : Prop :=
  k.fillValve = (valvesOf k.state).1 ∧ k.isolateValve = (valvesOf k.state).2.1
    ∧ k.ventValve = ((valvesOf k.state).2.2 || (st == .starting))

/-- A circuit has no leak rate, and D8 reads 0, before it has been judged (R115, R126, R128). -/
abbrev rateKept (k : Circuit) : Prop := k.state ≠ .vent → k.state ≠ .done → k.leakRate = none ∧ k.d8 = 0

/-- Each circuit's valves and posted air state are those of its state; the posted claim age is the greater of those of the
circuits in WAIT or INTENT; both circuits are OFF in STARTING; the own circuits in FILL never exceed the header limit
(R113, R116, R118, R132); and neither has a leak rate before it has been judged. -/
abbrev airLaw (s : State) : Prop :=
  valvesKept s.cyc.station s.leak.c1 ∧ valvesKept s.cyc.station s.leak.c2
    ∧ s.peer.posting.air1 = airOf s.leak.c1.state ∧ s.peer.posting.air2 = airOf s.leak.c2.state
    ∧ s.peer.posting.airAge = max (postedAge s.leak.c1) (postedAge s.leak.c2)
    ∧ (s.cyc.station = .starting → s.leak.c1.state = .off ∧ s.leak.c2.state = .off)
    ∧ ownFills s ≤ min 2 s.cfg.station.headerLimit
    ∧ rateKept s.leak.c1 ∧ rateKept s.leak.c2

/-! ## SCA (R101, R102, R105, R108) -/

/-- A phase table: 32 codes, each 0 to 6. -/
abbrev tableKept (t : List Nat) : Prop := t.length = 32 ∧ ∀ code ∈ t, code ≤ 6

/-- A slow channel's latest value: a code of 12 bits, and a time that saturates; a channel not yet sampled reads 0 and 65 535
(R103, R109). -/
abbrev slowKept (x : SlowValue) : Prop :=
  x.value ≤ 4095 ∧ x.sinceMs ≤ 65535 ∧ (x.sampled = false → x.value = 0 ∧ x.sinceMs = 65535)

/-- Both phase tables are tables of R101, the pointer is one of the 32 phases, and every slow channel holds a code or has not
been sampled. -/
abbrev phaseLaw (s : State) : Prop :=
  tableKept s.sca.active ∧ tableKept s.sca.pending ∧ s.sca.pointer ≤ 31
    ∧ ∀ x ∈ [s.sca.torq, s.sca.oilt, s.sca.prs1, s.sca.airt1, s.sca.prs2, s.sca.airt2], slowKept x

/-! ## The cycle and its record (R18, R6, R10) -/

/-- The station states in which a record's sequence is posted as open (R18). -/
def showsOpen (st : StationState) : Bool := inCycle st || st == .closing || st == .done

/-- What CYC posts is its own state (R18): the cycle state, the programme in force and, while the station shows an open
record, that record's sequence; the record is FINAL exactly from CLOSING on, and OPEN is the verdict until then. -/
abbrev cycleLaw (s : State) : Prop :=
  s.peer.posting.cycleState = s.cyc.station
    ∧ s.peer.posting.programme = s.cyc.programme
    ∧ s.peer.posting.openSeq = (if showsOpen s.cyc.station then (s.cyc.record.map OpenRecord.seq).getD 0 else 0)
    ∧ (showsOpen s.cyc.station = true → s.cyc.record.isSome = true)
    ∧ (∀ r ∈ s.cyc.record, (r.final = true ↔ inCycle s.cyc.station = false) ∧ (r.verdict = .opened ↔ r.final = false))

/-! ## Ranges of the loaded configuration (R40, R112, R143, R194) -/

/-- The station section's fields in their ranges, STAND_STOP and ABORTED unmasked and of severity RETEST. -/
abbrev stationInRange (x : StationSection) : Prop :=
  1 ≤ x.headerLimit ∧ x.headerLimit ≤ 8 ∧ x.floorShare ≤ 255 ∧ x.lineBudget ≤ 4095 ∧ 1 ≤ x.stationCap ∧ x.stationCap ≤ 255
    ∧ x.eCode ≤ 3 ∧ x.speedLimit ≤ 4000 ∧ x.quietLimit ≤ x.speedLimit ∧ 50 ≤ x.period ∧ x.period ≤ 500 ∧ x.yieldBudget ≤ 6000
    ∧ 10 ≤ x.deferralMax ∧ x.deferralMax ≤ 6000
    ∧ inSet x.mask 14 = false ∧ inSet x.mask 15 = false
    ∧ x.severity.length = 16 ∧ (∀ v ∈ x.severity, v ≤ 2) ∧ x.severity.getD 14 0 = 1 ∧ x.severity.getD 15 0 = 1
    ∧ tableKept x.table

/-- A segment's fields in their ranges under a top speed. -/
abbrev segmentInRange (top : Nat) (g : Segment) : Prop :=
  g.kindCode ≤ 3 ∧ g.dirCode ≤ 1 ∧ g.target ≤ top ∧ g.startSpeed ≤ top ∧ g.endSpeed ≤ top ∧ 25 ≤ g.rate ∧ g.rate ≤ 2000
    ∧ 1 ≤ g.duration ∧ g.duration ≤ 65535 ∧ g.torqueLimit ≤ 4096 ∧ (2 ≤ g.kindCode → g.yieldable = false)

/-- A circuit's parameters in their ranges. -/
abbrev paramsInRange (p : CircuitParams) : Prop :=
  1 ≤ p.volume ∧ p.volume ≤ 65535 ∧ 1 ≤ p.testPressure ∧ p.testPressure ≤ 4095 ∧ p.grossFloor < p.testPressure
    ∧ 100 ≤ p.fillMs ∧ p.fillMs ≤ 60000 ∧ 100 ≤ p.stabiliseMs ∧ p.stabiliseMs ≤ 60000 ∧ 10 ≤ p.measureTenths
    ∧ p.measureTenths ≤ 6000 ∧ 100 ≤ p.ventMs ∧ p.ventMs ≤ 60000 ∧ p.drift ≤ 4095 ∧ p.leakLimit ≤ 65535
    ∧ p.riseTolerance ≤ 10000 ∧ 1 ≤ p.airWaitLimit ∧ p.airWaitLimit ≤ 65535

/-- A programme's fields in their ranges under a stand speed limit. -/
abbrev programmeInRange (limit : Nat) (p : Programme) : Prop :=
  1 ≤ p.segCount ∧ p.segCount ≤ 16 ∧ p.segments.length = 16 ∧ p.maxSpeed ≤ limit ∧ 25 ≤ p.abortRate ∧ p.abortRate ≤ 2000
    ∧ p.oilLimit ≤ 4095 ∧ p.oilRiseLimit ≤ 4095 ∧ p.trackTolerance ≤ 4000
    ∧ 1 ≤ p.powerWaitLimit ∧ p.powerWaitLimit ≤ 65535
    ∧ p.noiseBase ≤ 4000 ∧ 1 ≤ p.bandWidth ∧ p.bandWidth ≤ 500 ∧ p.lo ≤ p.hi ∧ p.hi ≤ 31 ∧ 1 ≤ p.nmin ∧ p.nmin ≤ 15
    ∧ p.rmax ≤ 3 ∧ p.curve1.length = 32 ∧ p.curve2.length = 32 ∧ (∀ x ∈ p.curve1, x ≤ 2048) ∧ (∀ x ∈ p.curve2, x ≤ 2048)
    ∧ (∀ g ∈ p.segments.take p.segCount, segmentInRange p.maxSpeed g)
    ∧ paramsInRange p.params1 ∧ paramsInRange p.params2

/-- The configuration in force is in its ranges: the station section, and every programme that is defined (R194; R193 for a
FAILED load). -/
abbrev configLaw (s : State) : Prop :=
  stationInRange s.cfg.station
    ∧ ∀ p ∈ s.cfg.programmes, p.definedFlag = true → programmeInRange s.cfg.station.speedLimit p

/-- The commanded speed is bounded by the lesser of the programme maximum speed and the stand speed limit (R42); RUN executes
a segment of a programme that is defined, and one of those that its profile uses (R3, R46). -/
abbrev boundLaw (s : State) : Prop :=
  s.run.cmd ≤ min (progOf s).maxSpeed s.cfg.station.speedLimit
    ∧ (inSegment s.run.state = true → (progOf s).definedFlag = true ∧ s.run.seg < (progOf s).segCount)

/-! ## Premises and forms of the claims -/

/-- The station is not held in reset, nothing waits in the receive buffer and the order decoder is free: an order that
completes now is taken at once (R179, R180). -/
abbrev orderHeard (s : State) : Prop := s.boot ≠ .held ∧ s.lif.buffer = [] ∧ s.lif.decoder = .free

/-- An order is taken at once and finds room in the reply queue (R180, step 1). -/
abbrev takesOrders (s : State) : Prop := orderHeard s ∧ s.lif.replies.length < 4

/-- The destination is the own station number, and not all stations. -/
abbrev addressed (s : State) (dest : Byte) : Prop := dest.toNat = s.cfg.number ∧ dest ≠ destAll

/-- A reply has joined the reply queue, and an idle transmitter has chosen what to send (R25, R181). -/
def answered (r : Reply) (s : State) : State := leaveIdle (queueReply r s)

/-- An order's code, destination and body, of the commands that are orders. -/
def orderOf : Instr → Option (Byte × Byte × List Byte)
  | .abort dest body => some (codeAbort, dest, body)
  | .find dest body => some (codeFind, dest, body)
  | .item dest body => some (codeItem, dest, body)
  | .phases dest body => some (codePhases, dest, body)
  | .rdnew dest body => some (codeRdnew, dest, body)
  | .rdseq dest body => some (codeRdseq, dest, body)
  | .restart _ dest body => some (codeRestart, dest, body)
  | .start _ dest body => some (codeStart, dest, body)
  | _ => none

/-- The state with the input levels an order's command carries (assumption 3). -/
def withInputs (c : Instr) (s : State) : State :=
  match c with
  | .restart straps _ _ => withPins (setStraps straps) s
  | .start lines _ _ => withPins (setLines lines) s
  | _ => s

/-- R3's table: each reason with its condition, in the order of test. -/
def startConditions (programme : Nat) (s : State) : List (Reason × Bool) :=
  [(.starting, s.cyc.station == .starting),
   (.notConfigured, s.cyc.station == .unconfigured),
   (.busy, s.cyc.station == .testing || s.cyc.station == .aborting || s.cyc.station == .closing),
   (.badProgramme, !(s.cfg.programmes.getD programme programmeZero).definedFlag),
   (.noAxle, !s.pins.axlePresent || !s.pins.clampClosed),
   (.standStopped, s.pins.standStopOpen),
   (.driveNotReady, !s.pins.driveReady),
   (.storeFault, s.store.state == .faulted),
   (.dupStation, s.peer.posting.dupStation),
   (.supplyWarning, s.supplyWarning)]

/-- The first reason of R3 that applies to a START, if any does. -/
def firstReason (programme : Nat) (s : State) : Option Reason :=
  ((startConditions programme s).find? (fun x => x.2)).map Prod.fst

/-- From one state to the next, a change of a posted field that R20 marks has set the event-posting latch (R20, R21). -/
def latchedOn (s t : State) : Prop :=
  t.peer.posting.cycleState ≠ s.peer.posting.cycleState ∨ t.peer.posting.acoustic ≠ s.peer.posting.acoustic
      ∨ t.peer.posting.listen ≠ s.peer.posting.listen ∨ t.peer.posting.air1 ≠ s.peer.posting.air1
      ∨ t.peer.posting.air2 ≠ s.peer.posting.air2 ∨ t.peer.posting.yielding ≠ s.peer.posting.yielding →
    t.peer.latch = true

/-- The air state posted of a circuit (R20). -/
def airPosted (s : State) : CircuitId → AirState
  | .one => s.peer.posting.air1
  | .two => s.peer.posting.air2

/-- The FINAL of a closed cycle's record in STORE's hands (R10, R11, R160): its swap begins, or it becomes the pending image,
with the station CLOSING; in FAULTED it fails at once, which ends CLOSING in DONE. -/
structure finalHandedOver (s t : State) (r : OpenRecord) : Prop where
  begins : s.store.state = .ready → s.supplyWarning = false →
    (swapOf s.store false (requestOf .final r)).gen < spentSeq →
    t.cyc.station = .closing ∧ t.store.swap = some (swapOf s.store false (requestOf .final r))
  waits : s.store.state = .swapping ∨ s.store.state = .ready ∧ s.supplyWarning = true →
    t.cyc.station = .closing ∧ t.store = { s.store with pending := some (requestOf .final r) }
  fails : s.store.state = .faulted →
    t.store = s.store ∧ t.cyc.station = .done ∧ t.peer.posting.lastVerdict = r.verdict

/-- What an abort cause taken in TESTING leaves (R13): DEV has taken the cause's event, RUN is stopping for the cause, VIB and
LSN are at rest, and each circuit that was under test is venting with outcome ABORTED. With RUN in COMPLETE and no enabled
circuit left to vent the cycle closes at once, with the verdict of DEV's status set after the event (R17). -/
structure stoppedFor (e : DevEvent) (why : EndReason) (s t : State) : Prop where
  dev : t.dev = (takeDev e s).dev
  run : inRunIn s.run.state = true → t.run.state = .stopping ∧ t.run.endReason = why ∧ t.run.holds = noHolds
    ∧ t.run.cmd = (if why = .standStop then 0 else s.run.cmd)
  vib : t.vib.state = .idle
  lsn : t.lsn.state = .inactive
  circuits : ∀ c, (circuitOf s c).state ∈ [.wait, .intent, .fill, .stabilise, .measure] →
    (circuitOf t c).state = .vent ∧ (circuitOf t c).outcome = .aborted ∧ (circuitOf t c).ventValve = true
  venting : ∀ c, (circuitOf s c).state = .vent → circuitOf t c = circuitOf s c
  unarmed : ∀ c, (circuitOf s c).state = .off → enabledOf s c = true → s.leak.armed = false →
    (circuitOf t c).state = .off ∧ (circuitOf t c).outcome = .aborted
  station : t.cyc.station ≠ .testing
    ∧ (s.run.state ≠ .complete ∨ (∃ c, enabledOf s c = true ∧ (circuitOf s c).state ∉ [.off, .done]) →
        t.cyc.station = .aborting)
  closes : s.run.state = .complete → (∀ c, enabledOf s c = true → (circuitOf s c).state ∈ [.off, .done]) →
    ∀ r, s.cyc.record = some r → ∃ r', t.cyc.record = some r' ∧ r'.seq = r.seq ∧ r'.final = true
      ∧ r'.verdict = verdictOf s.cfg.station.severity t.dev.status ∧ r'.cycleTime = cycleTime s ∧ r'.dev = devCopy t.dev
      ∧ finalHandedOver s t r'
  posted : t.peer.posting.cycleState = t.cyc.station ∧ latchedOn s t

/-- The contamination condition derived afresh from one state to the next, and what a change to true does to VIB (R64, R85). -/
structure contaminationDerived (s t : State) : Prop where
  condition : t.lsn = { s.lsn with contamination := contaminationOf t }
  marks : ∀ r, s.vib.state = .sampling → s.vib.openRev = some r → s.lsn.contamination = false → contaminationOf t = true →
    t.vib = { s.vib with openRev := some { r with contaminated := true } }
  still : s.vib.state ≠ .sampling ∨ s.vib.openRev = none ∨ s.lsn.contamination = true ∨ contaminationOf t = false →
    t.vib = s.vib

/-- The segment at the pointer has ended (R46): the count of completed segments has risen, and the next segment of the profile
is entered, or RUN is stopping for the profile's end. -/
structure segmentEnded (s t : State) : Prop where
  count : t.run.segsDone = s.run.segsDone + 1
  next : s.run.seg + 1 < (progOf s).segCount →
    t.run.seg = s.run.seg + 1 ∧ inSegment t.run.state = true ∧ t.run.dwellMs = 0 ∧ t.run.trackCount = 0
      ∧ t.run.stage = .deferred
  last : (progOf s).segCount ≤ s.run.seg + 1 →
    t.run.seg = s.run.seg ∧ t.run.state = .stopping ∧ t.run.endReason = .profileEnd ∧ t.run.holds = noHolds

/-- No hold stands against a move at the next ramp step, but for a POWER of the step before, which the step takes afresh (R45). -/
abbrev freeToMove (s : State) : Prop :=
  inSegment s.run.state = true ∧ s.run.holds.yields = false ∧ s.run.holds.defer = false ∧ s.run.holds.reversal = false
    ∧ yieldCondition s = false

/-- RUN has told LEAK to arm (R115): where LEAK takes the report, the armed mark is set and each enabled circuit has left OFF
to seek air; where it does not, nothing of LEAK has changed. -/
structure armingTold (s t : State) : Prop where
  taken : s.leak.armed = false → s.leak.armRefused = false → t.leak.armed = true
    ∧ ∀ c, (circuitOf s c).state = .off →
        (enabledOf s c = true → seeksAir (circuitOf t c).state = true ∧ (circuitOf t c).claimAge = 0
          ∧ (circuitOf t c).airWaitMs = 0)
        ∧ (enabledOf s c = false → circuitOf t c = circuitOf s c)
  refused : s.leak.armed = true ∨ s.leak.armRefused = true → t.leak = s.leak

/-- What the noise summary says of a channel (R98): the worst band has the least margin among the bands whose cell holds a
revolution and whose limit is below 2048, the lowest such band where margins are equal; with no such band it is absent. -/
def worstNamed (cells : List NoiseCell) (curve : List Nat) (band : Option Nat) (margin : Int) : Prop :=
  let tested (b : Nat) : Prop := b < 32 ∧ 1 ≤ (cells.getD b cellZero).count ∧ curve.getD b 0 < 2048
  let marginAt (b : Nat) : Int := (curve.getD b 0 : Int) - ((cells.getD b cellZero).peak : Int)
  (∀ b, band = some b → tested b ∧ margin = marginAt b
    ∧ ∀ d, tested d → margin < marginAt d ∨ margin = marginAt d ∧ b ≤ d)
  ∧ (band = none → margin = 0 ∧ ∀ d, ¬ tested d)

/-- A closed revolution judged (R86 to R89): each failed test raises its pass and cycle count; a revolution that fails none is
kept, which both kept counts show; in band it raises both cells of its band, whose peaks become the greater of peak and RMS
level, and out of band it raises the two out-of-band counts and enters no cell. -/
structure revJudged (s : State) (r : Rev) (period : Nat) (v : Vib) : Prop where
  slipped : v.pass.slipped = (if r.pulses ≠ pulsesPerRev s then min (s.vib.pass.slipped + 1) 65535 else s.vib.pass.slipped)
    ∧ v.cycle.slipped = (if r.pulses ≠ pulsesPerRev s then min (s.vib.cycle.slipped + 1) 65535 else s.vib.cycle.slipped)
  skipped : v.pass.skipped = (if r.skipped then min (s.vib.pass.skipped + 1) 65535 else s.vib.pass.skipped)
    ∧ v.cycle.skipped = (if r.skipped then min (s.vib.cycle.skipped + 1) 65535 else s.vib.cycle.skipped)
  contaminated : v.pass.contaminated
      = (if r.contaminated then min (s.vib.pass.contaminated + 1) 65535 else s.vib.pass.contaminated)
    ∧ v.cycle.contaminated
      = (if r.contaminated then min (s.vib.cycle.contaminated + 1) 65535 else s.vib.cycle.contaminated)
  tests : revFails (pulsesPerRev s) r = true ↔ r.pulses ≠ pulsesPerRev s ∨ r.skipped = true ∨ r.contaminated = true
  failed : revFails (pulsesPerRev s) r = true → v.pass.kept = s.vib.pass.kept ∧ v.cycle.kept = s.vib.cycle.kept
    ∧ v.pass.outOfBand = s.vib.pass.outOfBand ∧ v.cycle.outOfBand = s.vib.cycle.outOfBand
    ∧ v.cells1 = s.vib.cells1 ∧ v.cells2 = s.vib.cells2
  kept : revFails (pulsesPerRev s) r = false → v.pass.kept = min (s.vib.pass.kept + 1) 65535
    ∧ v.cycle.kept = min (s.vib.cycle.kept + 1) 65535
  outOfBand : revFails (pulsesPerRev s) r = false →
    60000000 / period < (progOf s).noiseBase
      ∨ (progOf s).noiseBase + 32 * (progOf s).bandWidth ≤ 60000000 / period →
    v.pass.outOfBand = min (s.vib.pass.outOfBand + 1) 65535 ∧ v.cycle.outOfBand = min (s.vib.cycle.outOfBand + 1) 65535
    ∧ v.cells1 = s.vib.cells1 ∧ v.cells2 = s.vib.cells2
  inBand : ∀ b, revFails (pulsesPerRev s) r = false → b < 32 →
    (progOf s).noiseBase + b * (progOf s).bandWidth ≤ 60000000 / period →
    60000000 / period < (progOf s).noiseBase + (b + 1) * (progOf s).bandWidth →
    (v.cells1.getD b cellZero).peak = max (s.vib.cells1.getD b cellZero).peak (isqrt (r.sum1 / (pulsesPerRev s / 2)))
    ∧ (v.cells2.getD b cellZero).peak = max (s.vib.cells2.getD b cellZero).peak (isqrt (r.sum2 / (pulsesPerRev s / 2)))
    ∧ (v.cells1.getD b cellZero).count = min ((s.vib.cells1.getD b cellZero).count + 1) 255
    ∧ (v.cells2.getD b cellZero).count = min ((s.vib.cells2.getD b cellZero).count + 1) 255
    ∧ v.pass.outOfBand = s.vib.pass.outOfBand ∧ v.cycle.outOfBand = s.vib.cycle.outOfBand
    ∧ (∀ d, d ≠ b → v.cells1.getD d cellZero = s.vib.cells1.getD d cellZero
        ∧ v.cells2.getD d cellZero = s.vib.cells2.getD d cellZero)

/-- What a step that is cut off by a reset, or that fails its verify, leaves of the flash (R155, R163, R166): nothing outside
its swap page has moved, and that page does not count as CURRENT. Over a status word as the steps before left it, a program
step has set no bit, the bytes it does not program are as they were, and of the others only bits that it clears have been
cleared; an erase has cleared no bit, which is the model's choice (assumption 8). -/
structure stepCutOff (w : Swap) (current : Option Side) (m m' : List Host.Cell) : Prop where
  outside : ∀ a, (a < pageBase w.pair w.side ∨ pageBase w.pair w.side + pageSize ≤ a) → readByte m' a = readByte m a
  notCurrent : w.pair ≤ 11 → headerCurrent w.pair (readBytes m' (pageBase w.pair w.side) 16) = false
  programmed : 3 ≤ w.step →
    readBytes m (pageBase w.pair w.side) 4 = (if w.step = 3 then [0xFF, 0xFF, 0xFF, 0xFF] else [0x00, 0x00, 0xFF, 0xFF]) →
    ∀ a, readByte m a &&& readByte m' a = readByte m' a
      ∧ readByte m a &&& readByte (stepTarget w current m) a &&& readByte m' a
        = readByte m a &&& readByte (stepTarget w current m) a
      ∧ (readByte (stepTarget w current m) a = readByte m a → readByte m' a = readByte m a)
  erased : w.step = 2 → ∀ a, readByte m a &&& readByte m' a = readByte m a

/-- A record read answered from the current pages as they stand (R165, R170 to R172): RDSEQ with the record of its sequence,
NOT_HELD or DAMAGED by the slot's condition, RDNEW with the valid record of the highest sequence, and FIND with that of the
valid records bearing its serial. -/
def servedBy (st : Store) (read : StoreRead) (answer : Reply) : Prop :=
  answer.reason = none ∧ answer.qualifier = 0
  ∧ match read with
    | .seq q => answer.order = codeRdseq
      ∧ (q = 0 ∨ 2 ^ 32 - 1 ≤ q → answer.outcome = .notHeld ∧ answer.data = [])
      ∧ (q ≠ 0 → q < 2 ^ 32 - 1 →
        (∀ rec, slotNow st ((q - 1) % 84) = .valid q rec → answer.outcome = .data ∧ answer.data = rec)
        ∧ (∀ q' rec, slotNow st ((q - 1) % 84) = .valid q' rec → q' ≠ q → answer.outcome = .notHeld ∧ answer.data = [])
        ∧ (slotNow st ((q - 1) % 84) = .empty → answer.outcome = .notHeld ∧ answer.data = [])
        ∧ (slotNow st ((q - 1) % 84) = .damaged → answer.outcome = .damaged ∧ answer.data = []))
    | .newest => answer.order = codeRdnew
      ∧ (validRecords st = [] → answer.outcome = .notHeld ∧ answer.data = [])
      ∧ (validRecords st ≠ [] → answer.outcome = .data
        ∧ ∃ q, (q, answer.data) ∈ validRecords st ∧ ∀ x ∈ validRecords st, x.1 ≤ q)
    | .serial chars => answer.order = codeFind
      ∧ ((∀ x ∈ validRecords st, recordSerial x.2 ≠ chars) → answer.outcome = .notHeld ∧ answer.data = [])
      ∧ ((∃ x ∈ validRecords st, recordSerial x.2 = chars) → answer.outcome = .data
        ∧ ∃ q, (q, answer.data) ∈ validRecords st ∧ recordSerial answer.data = chars
          ∧ ∀ x ∈ validRecords st, recordSerial x.2 = chars → x.1 ≤ q)

/-- A quantity of up to 65 535 in two bytes, most significant first (R184). -/
def twoBytes (n : Nat) : List Byte := [BitVec.ofNat 8 (n / 256), BitVec.ofNat 8 n]

/-- The peer table as a reader of an expiry that takes the ageing first, or last, finds it (R66, R119). -/
def tableSeen (ageFirst : Bool) (s : State) : State :=
  if ageFirst then { s with peer := { s.peer with table := ageTable s.peer.table } } else s

end Sys2Proof.Machine
end

