-- ==== Sys2Proof/Certificates/Slice0/Obligations.lean ====
section
/-! DEFINITION. The statements for the provers, chapter by chapter. Each says which rule of the manual it formalises, or that
it rests on a choice of the model's and which. Two choices stand behind many of them: a transmitter in IDLE makes its choice
at the end of the whole event, which is `leaveIdle` (assumption 12), and an order or posting command is its frame routed and
taken at once (assumption 2). -/

open Sys2Proof Sys2Proof.Machine

/-! ## The queue of commands -/

/-- A step takes the command at the front of the queue and runs it with the queue's rest. -/
def Obligations.StepRunsFront : Prop :=
  ∀ (c : Instr) (rest : List Instr) (s : State), s.pending = c :: rest → step s = exec c { s with pending := rest }

/-- On an empty queue a quarter of a millisecond passes: the model's own choice (assumption 5). A station held in reset has
no timer running. Every quarter brings a phase boundary once the rota runs (R102). At a whole millisecond the timers run
down and the queue takes, each exactly when it is due, the expiry of the posting period (R22), the ramp step (R45), each
circuit's phase timer in its state (R114), the RESTART wait (R188), the index timeout 1.5 s after the last index pulse
(R41), the oil append at every whole second of the cycle timer in a run-in (R57), the deferral limit (R68, R73) and the
air-wait limit of the first circuit to pass its own, circuit 1 where both do (R120); the deferral time, the air-wait time in
WAIT and INTENT and the fill time in FILL (R122) count on. -/
def Obligations.StepTicksWhenIdle : Prop :=
  ∀ s : State, s.pending = [] →
    (s.boot = .held → step s = .next s)
    ∧ (s.boot ≠ .held → s.clock.quarter < 3 →
        step s = .next { s with
          clock := { s.clock with quarter := s.clock.quarter + 1 }
          pending := if s.sca.rota then [.phaseBoundary] else []
          draws := s.draws + 1 })
    ∧ (s.boot ≠ .held → 3 ≤ s.clock.quarter → ∃ t, step s = .next t
        ∧ t.clock = ⟨0, min (s.clock.ms + 1) (2 ^ 32 - 1)⟩
        ∧ t.peer.periodLeft = s.peer.periodLeft - 1
        ∧ t.run.rampLeft = s.run.rampLeft - 1
        ∧ t.cyc.timerMs = (if inCycle s.cyc.station then s.cyc.timerMs + 1 else s.cyc.timerMs)
        ∧ t.run.sinceIndex = min (s.run.sinceIndex + 1) 1500
        ∧ ((∃ a b, Instr.postingPeriodExpiry a b ∈ t.pending) ↔ s.peer.periodLeft = 1)
        ∧ (Instr.rampStep ∈ t.pending ↔ s.run.rampLeft = 1)
        ∧ (Instr.phaseBoundary ∈ t.pending ↔ s.sca.rota = true)
        ∧ (Instr.indexTimeout ∈ t.pending ↔ s.run.sinceIndex = 1499 ∧ s.run.lastIndex.isSome = true)
        ∧ (Instr.oilHistoryAppend ∈ t.pending ↔
            inCycle s.cyc.station = true ∧ inRunIn s.run.state = true ∧ (s.cyc.timerMs + 1) % 1000 = 0)
        ∧ (Instr.deferralLimit ∈ t.pending ↔
            s.lsn.state = .deferring ∧ s.cfg.station.deferralMax * 100 ≤ s.lsn.deferralMs + 1)
        ∧ t.lsn = (if s.lsn.state = .deferring ∧ s.lsn.deferralMs + 1 < s.cfg.station.deferralMax * 100 then
            { s.lsn with deferralMs := s.lsn.deferralMs + 1 } else s.lsn)
        ∧ (∀ c due, due = (fun d => seeksAir (circuitOf s d).state = true ∧ s.leak.airWaitMark = false
              ∧ (paramsOf s d).airWaitLimit * 1000 < (circuitOf s d).airWaitMs + 1) →
            (Instr.airWaitLimit c ∈ t.pending ↔ due c ∧ (c = .two → ¬ due .one)))
        ∧ (∀ c, (circuitOf t c).timer = (circuitOf s c).timer - 1
          ∧ (Instr.fillTimerExpiry c ∈ t.pending ↔ (circuitOf s c).timer = 1 ∧ (circuitOf s c).state = .fill)
          ∧ (Instr.stabiliseTimerExpiry c ∈ t.pending ↔ (circuitOf s c).timer = 1 ∧ (circuitOf s c).state = .stabilise)
          ∧ (Instr.measureTimerExpiry c ∈ t.pending ↔ (circuitOf s c).timer = 1 ∧ (circuitOf s c).state = .measure)
          ∧ (Instr.ventTimerExpiry c ∈ t.pending ↔ (circuitOf s c).timer = 1 ∧ (circuitOf s c).state = .vent)
          ∧ (circuitOf t c).airWaitMs
            = (if seeksAir (circuitOf s c).state then (circuitOf s c).airWaitMs + 1 else (circuitOf s c).airWaitMs)
          ∧ (circuitOf t c).fillTime
            = (if (circuitOf s c).state = .fill then min ((circuitOf s c).fillTime + 1) 65535 else (circuitOf s c).fillTime))
        ∧ (Instr.restartTimeout ∈ t.pending ↔ s.lif.restartLeft = some 1))

/-- No command stops the block, and none touches the queue of the commands behind it. -/
def Obligations.EveryCommandCompletes : Prop :=
  ∀ (c : Instr) (s : State), ∃ t, exec c s = .next t ∧ t.pending = s.pending

/-! ## Resets and STARTING (R192 to R196) -/

/-- A station held in reset takes nothing but the end of its reset: any other command leaves all of its state as it is, but
for the input levels that the command shows. This is the model's choice, read from R196 (assumption 11): the rule says what
holds a station in reset, and not what becomes of a command that meets one held. -/
def Obligations.HeldStationTakesNothing : Prop :=
  ∀ (c : Instr) (s : State), s.boot = .held → (∀ straps low, c ≠ .resetRelease straps low) →
    ∃ t, exec c s = .next t ∧ { t with pins := s.pins } = s

/-- A RESET of a running station sets every block to its reset values and holds the station in reset; the flash is as it
was, but for the page that a swap in flight was writing: that page does not count as CURRENT, no bit that a program step
cleared is set again, and of the step that was cut off a part is done (R155, R166, R196; which part is assumption 8). The
registers for which the manual states no reset value take the model's (assumption 30), and the count of free values is the
model's own (assumption 6). -/
def Obligations.ResetClearsEveryBlock : Prop :=
  ∀ (k : HardReset) (s : State), s.boot ≠ .held → ∃ flash draws,
    exec (.reset k) s = .next { s with
      cyc := cycReset
      peer := peerReset (hardCause k)
      run := runReset
      lsn := lsnReset
      vib := vibReset
      sca := scaReset idleTable false
      leak := leakReset
      dev := devClear
      store := storeReset flash
      lif := lifReset
      cfg := cfgDefault s.cfg.number
      boot := .held
      supplyWarning := false
      clock := ⟨0, 0⟩
      draws := draws }
    ∧ (s.store.swap = none → flash = s.store.flash ∧ draws = s.draws)
    ∧ (∀ w, s.store.swap = some w → w.pos ≤ 6 → flashLaw s →
        stepCutOff w (pairOf s.store w.pair).current s.store.flash flash)

/-- RESET_RELEASE reads the straps and enters STARTING (R192, R195): the station number is the value plus 1, and the
classifier, the posting timer and the first posting are started, with the warning raised if the supply is low (R197).
IMAGE_READ_DONE puts the image in force if it passes R193's tests and a FAILED load's values if not, starts the rota on the
table so given, derives the contamination condition afresh, which marks the open revolution at a change to true (R64, R85),
and leads on to the store scan (R108, R193, R195). -/
def Obligations.ReleaseStartsTheStation : Prop :=
  (∀ (straps : BitVec 4) (low : Bool) (s : State), s.boot = .held → ∃ peer,
    exec (.resetRelease straps low) s = .next (leaveIdle { s with
      pins := { s.pins with straps := straps, supplyLow := low }
      cfg := { s.cfg with number := straps.toNat + 1 }
      lif := { s.lif with classifier := .waitIdle false }
      peer := peer
      supplyWarning := s.supplyWarning || low
      boot := .readImage })
    ∧ peer = { s.peer with
        latch := true
        period := s.cfg.station.period
        periodLeft := s.cfg.station.period
        posting := { s.peer.posting with supplyWarning := s.peer.posting.supplyWarning || low } })
  ∧ ∀ (image : List Byte) (s : State), s.boot = .readImage → ∃ t,
    exec (.imageReadDone image) s = .next (leaveIdle t)
    ∧ t = { s with
        cfg := if imagePasses image then loadImage s.cfg.number image else cfgDefault s.cfg.number
        sca := { s.sca with
          active := (if imagePasses image then loadImage s.cfg.number image else cfgDefault s.cfg.number).station.table
          pointer := 0
          rota := true }
        vib := t.vib
        lsn := t.lsn
        boot := .scan }
    ∧ contaminationDerived s t

/-- Every field of a loaded image is in its range: the station section's, and those of every programme that is defined (R40,
R112, R143, R194). -/
def Obligations.LoadedImageIsInRange : Prop :=
  ∀ (number : Nat) (image : List Byte),
    stationInRange (loadImage number image).station
    ∧ (loadImage number image).programmes.length = 8
    ∧ ∀ p ∈ (loadImage number image).programmes, p.definedFlag = true →
        programmeInRange (loadImage number image).station.speedLimit p

/-- The scan's choice of a current page (R167) is a page whose header is sound and CURRENT, of the higher generation where
both are, page A where the generations are equal, and none where neither is. STORE_SCAN_DONE (R167 to R169, R1): the current
pages, the highest sequence and the next sequence number are fixed; with no newest PROVISIONAL record the station leaves
STARTING, by the load outcome, which sets the event-posting latch (R20, R21), with STORE in READY; with one, the recovery's
swap begins, or waits while the supply warning is present, or ends the scan WORN where its generation cannot rise. The
recovery is of the valid record with the highest sequence, if that is PROVISIONAL, and its image is the record, without its
closing word, with the record state FINAL, the verdict INCOMPLETE and the reset-interrupted flag set (R169; that no other
byte moves is assumption 28). -/
def Obligations.ScanEndsStarting : Prop :=
  (∀ (m : List Host.Cell) (pair : Nat),
    (∀ side, (scanPair m pair).current = some side →
      headerCurrent pair (readBytes m (pageBase pair side) 16) = true
      ∧ (scanPair m pair).gen = field (readBytes m (pageBase pair side) 16) 4 4
      ∧ (headerCurrent pair (readBytes m (pageBase pair side.other) 16) = true →
          field (readBytes m (pageBase pair side.other) 16) 4 4 ≤ (scanPair m pair).gen
          ∧ (side = .b → field (readBytes m (pageBase pair .a) 16) 4 4 < (scanPair m pair).gen)))
    ∧ ((scanPair m pair).current = none →
      headerCurrent pair (readBytes m (pageBase pair .a) 16) = false
      ∧ headerCurrent pair (readBytes m (pageBase pair .b) 16) = false ∧ (scanPair m pair).gen = 0))
  ∧ (∀ st : Store,
    (validRecords st = [] → recoveryOf st = none)
    ∧ (∀ q rec, (q, rec) ∈ validRecords st → (∀ x ∈ validRecords st, x.1 < q ∨ x = (q, rec)) →
        (field rec 4 1 ≠ 1 → recoveryOf st = none)
        ∧ (field rec 4 1 = 1 → recoveryOf st = some ⟨.final, q, recoveryImage rec⟩
          ∧ (recoveryImage rec).length = rec.length - 4
          ∧ byteAt (recoveryImage rec) 4 = 2 ∧ byteAt (recoveryImage rec) 5 = 6
          ∧ byteAt (recoveryImage rec) 10 = byteAt rec 10 ||| 1
          ∧ ∀ i, i < rec.length - 4 → i ≠ 4 → i ≠ 5 → i ≠ 10 → byteAt (recoveryImage rec) i = byteAt rec i)))
  ∧ ∀ s : State, s.boot = .scan → ∃ t, exec .storeScanDone s = .next t
    ∧ t.store.pairs = (List.range 12).map (scanPair s.store.flash)
    ∧ t.store.flash = s.store.flash
    ∧ t.store.highest = ((newestOf (validRecords (scanned s.store))).map Prod.fst).getD 0
    ∧ t.store.nextSeq = t.store.highest + 1
    ∧ latchedOn s t
    ∧ (recoveryOf (scanned s.store) = none →
        t.boot = .up ∧ t.cyc.station = (if s.cfg.passed then .idle else .unconfigured)
        ∧ t.peer.posting.unconfigured = !s.cfg.passed ∧ t.peer.posting.cycleState = t.cyc.station
        ∧ t.leak.c1.ventValve = false ∧ t.leak.c2.ventValve = false
        ∧ t.store.state = (if t.store.nextSeq = spentSeq then .faulted else .ready))
    ∧ (∀ req, recoveryOf (scanned s.store) = some req → s.supplyWarning = true →
        t.boot = .recover ∧ t.store.recovery = some req ∧ t.store.swap = s.store.swap ∧ t.cyc = s.cyc)
    ∧ (∀ req, recoveryOf (scanned s.store) = some req → s.supplyWarning = false →
        (swapOf (scanned s.store) true req).gen < spentSeq →
        t.boot = .recover ∧ t.store.swap = some (swapOf (scanned s.store) true req) ∧ t.store.state = .scanning
        ∧ t.cyc = s.cyc)
    ∧ (∀ req, recoveryOf (scanned s.store) = some req → s.supplyWarning = false →
        spentSeq ≤ (swapOf (scanned s.store) true req).gen →
        t.boot = .up ∧ t.store.state = .faulted ∧ t.store.cause = some .worn ∧ t.peer.posting.storeFault = true
        ∧ t.store.swap = s.store.swap ∧ t.cyc.station = (if s.cfg.passed then .idle else .unconfigured))

/-! ## The axle cycle (R3 to R17) -/

/-- A START that the station cannot take is refused with the first reason of the table that applies, and changes no state of
CYC, DEV, STORE or any job (R3). -/
def Obligations.StartIsRefused : Prop :=
  ∀ (lines : StandLines) (dest : Byte) (body : List Byte) (why : Reason) (s : State),
    takesOrders s → addressed s dest → wellFormedBody codeStart body = true →
    firstReason (field body 0 1) (withInputs (.start lines dest body) s) = some why →
    exec (.start lines dest body) s = .next (answered (refusal codeStart why) (withInputs (.start lines dest body) s))

/-- An accepted START (R4): the sequence number is consumed, the record opened PROVISIONAL and OPEN, DEV, LEAK and the noise
table cleared, the cycle timer at 0, RUN started at segment 0, the programme in force and the open sequence posted, the
station TESTING, and ACCEPTED answered with the sequence. Every circuit's context is cleared, and so are the armed and
AIR_WAIT marks (R115); where segment 0 carries the leak-start flag the enabled circuits are armed at this START, which is
the model's reading of a conflict between R4's order and R44, R115 (assumption 10). -/
def Obligations.StartIsAccepted : Prop :=
  ∀ (lines : StandLines) (dest : Byte) (body : List Byte) (s : State),
    takesOrders s → addressed s dest → wellFormedBody codeStart body = true → cycleLaw s →
    firstReason (field body 0 1) (withInputs (.start lines dest body) s) = none →
    ∃ t, exec (.start lines dest body) s = .next t
      ∧ t.store = { s.store with nextSeq := s.store.nextSeq + 1 }
      ∧ t.cyc = { s.cyc with
          station := .testing
          programme := field body 0 1
          timerMs := 0
          record := some (openedRecord s.store.nextSeq (field body 0 1) s.cfg.number
            (s.cfg.programmes.getD (field body 0 1) programmeZero) (body.drop 6) ((body.drop 2).take 4)) }
      ∧ t.dev = devClear
      ∧ inSegment t.run.state = true ∧ t.run.seg = 0 ∧ t.run.rampLeft = 20 ∧ t.run.endReason = .profileEnd
      ∧ t.run.powerMs = 0 ∧ t.run.yieldMs = 0 ∧ t.run.torqueMarks = 0 ∧ t.run.trackMarks = 0 ∧ t.run.segsDone = 0
      ∧ t.lsn.totalDeferralMs = 0 ∧ t.lsn.forcedCount = 0
      ∧ t.vib.cells1 = List.replicate 32 cellZero ∧ t.vib.cells2 = List.replicate 32 cellZero ∧ t.vib.cycle = noCounts
      ∧ (∀ c, enabledOf t c = false → circuitOf t c = circuitClear false)
      ∧ (∀ c, (circuitOf t c).outcome = .absent ∧ (circuitOf t c).leakRate = none ∧ (circuitOf t c).d8 = 0
          ∧ (circuitOf t c).startPrs = [] ∧ (circuitOf t c).startAirt = [] ∧ (circuitOf t c).endPrs = []
          ∧ (circuitOf t c).endAirt = [] ∧ (circuitOf t c).backoff = 0 ∧ (circuitOf t c).claimAge = 0
          ∧ (circuitOf t c).airWaitMs = 0 ∧ (circuitOf t c).extended = false ∧ (circuitOf t c).fillTime = 0)
      ∧ t.leak.airWaitMark = false ∧ t.leak.armed = (segOf t).leakStart ∧ t.leak.armRefused = false
      ∧ (∀ c, ((circuitOf t c).state = .off ↔ enabledOf t c = false ∨ (segOf t).leakStart = false))
      ∧ (∀ c, (circuitOf t c).state = .off ∨ (circuitOf t c).state = .wait ∨ (circuitOf t c).state = .intent)
      ∧ t.peer.posting.cycleState = .testing ∧ t.peer.posting.programme = field body 0 1
      ∧ t.peer.posting.openSeq = s.store.nextSeq ∧ t.peer.posting.lastVerdict = s.peer.posting.lastVerdict
      ∧ t.peer.latch = true ∧ t.peer.table = s.peer.table
      ∧ t.sca = s.sca ∧ t.cfg = s.cfg
      ∧ t.lif.replies = s.lif.replies ++ [⟨codeStart, .accepted, none, 0, be 4 s.store.nextSeq⟩]

/-- ABORT by station state (R14): refused outside TESTING, ABORTING and CLOSING with the state's reason, refused CLOSING in
CLOSING, ACCEPTED with the abort in TESTING and with no further effect in ABORTING; a broadcast one acts as an addressed one
in TESTING and ABORTING, is ignored in every other state and is never answered. -/
def Obligations.AbortByStationState : Prop :=
  (∀ (dest : Byte) (s : State), takesOrders s → addressed s dest →
    (s.cyc.station = .starting → exec (.abort dest []) s = .next (answered (refusal codeAbort .starting) s))
    ∧ (s.cyc.station = .unconfigured → exec (.abort dest []) s = .next (answered (refusal codeAbort .notConfigured) s))
    ∧ (s.cyc.station = .idle ∨ s.cyc.station = .done →
        exec (.abort dest []) s = .next (answered (refusal codeAbort .notTesting) s))
    ∧ (s.cyc.station = .testing → exec (.abort dest []) s = .next (answered (plainReply codeAbort .accepted)
        (abortCycle ⟨.aborted, s.run.seg, 0, 0⟩ stopForAbort s)))
    ∧ (s.cyc.station = .aborting → exec (.abort dest []) s = .next (answered (plainReply codeAbort .accepted) s))
    ∧ (s.cyc.station = .closing → exec (.abort dest []) s = .next (answered (refusal codeAbort .closing) s)))
  ∧ ∀ s : State, orderHeard s →
    (s.cyc.station = .testing → exec (.abort destAll []) s = .next (leaveIdle
        (abortCycle ⟨.aborted, s.run.seg, 1, 0⟩ stopForAbort s)))
    ∧ (s.cyc.station ≠ .testing → exec (.abort destAll []) s = .next (leaveIdle s))

/-- What an abort cause taken in TESTING does to the jobs (R13), for each of the three commands that bring one, with the
close at once of a cycle caught in its last step (R17). -/
def Obligations.AbortCauseStopsTheJobs : Prop :=
  ∀ s : State, s.cyc.station = .testing → holdLaw s →
    (∀ dest, takesOrders s → addressed s dest →
      ∃ t, exec (.abort dest []) s = .next t ∧ stoppedFor ⟨.aborted, s.run.seg, 0, 0⟩ .abort s t)
    ∧ (s.boot ≠ .held →
      ∃ t, exec .standStopOpen s = .next t ∧ stoppedFor ⟨.standStop, s.run.seg, 1, 0⟩ .standStop s t)
    ∧ (s.boot ≠ .held → ∀ which, ∃ t, exec (.axleInputFall which) s = .next t
      ∧ stoppedFor ⟨.standStop, s.run.seg, axleInputNum which, 0⟩ .standStop s t)

/-- The stand's inputs outside TESTING (R12, R15, R16): in ABORTING each zeroes the commanded speed at once and sends
STAND_STOP; in DONE a falling axle-present input brings IDLE with no open sequence, and the change of the posted cycle state
sets the event-posting latch (R20, R21); else there is no effect on CYC. -/
def Obligations.StandInputsByStationState : Prop :=
  ∀ s : State, s.boot ≠ .held →
    (s.cyc.station = .aborting → ∃ t, exec .standStopOpen s = .next t ∧ t.cyc = s.cyc
      ∧ t.dev = (takeDev ⟨.standStop, s.run.seg, 1, 0⟩ s).dev ∧ (inRunIn s.run.state = true → t.run.cmd = 0))
    ∧ (s.cyc.station = .aborting → ∀ which, ∃ t, exec (.axleInputFall which) s = .next t ∧ t.cyc = s.cyc
      ∧ t.dev = (takeDev ⟨.standStop, s.run.seg, axleInputNum which, 0⟩ s).dev
      ∧ (inRunIn s.run.state = true → t.run.cmd = 0))
    ∧ (s.cyc.station ≠ .testing → s.cyc.station ≠ .aborting →
      exec .standStopOpen s = .next (leaveIdle { s with pins := { s.pins with standStopOpen := true } })
      ∧ exec (.axleInputFall .clampClosed) s = .next (leaveIdle { s with pins := { s.pins with clampClosed := false } })
      ∧ (s.cyc.station ≠ .done → exec (.axleInputFall .axlePresent) s = .next (leaveIdle { s with
          pins := { s.pins with axlePresent := false } })))
    ∧ (s.cyc.station = .done → exec (.axleInputFall .axlePresent) s = .next (leaveIdle { s with
          pins := { s.pins with axlePresent := false }
          cyc := { s.cyc with station := .idle }
          peer := { s.peer with
            latch := s.peer.latch || decide (s.peer.posting.cycleState ≠ .idle)
            posting := { s.peer.posting with cycleState := .idle, openSeq := 0 } } }))

/-- VENT_TIMER_EXPIRY brings a circuit to DONE with its valves closed and its section written (R127, R130); if every job is
then at rest the cycle closes with the verdict of DEV's status set and the FINAL record goes to STORE, which begins its swap
(R10, R17), and if not a checkpoint is requested (R8). A request taken in SWAPPING, or in READY under the supply warning,
becomes the pending image; one taken in FAULTED fails at once, and a FINAL so failed ends CLOSING (R11, R160). A change of
the station state is posted and sets the event-posting latch (R20, R21). -/
def Obligations.VentExpiryEndsTheCircuit : Prop :=
  ∀ (c : CircuitId) (s : State), s.boot ≠ .held → (circuitOf s c).state = .vent →
    ∃ t, exec (.ventTimerExpiry c) s = .next t
      ∧ (circuitOf t c).state = .done ∧ (circuitOf t c).outcome = (circuitOf s c).outcome
      ∧ (circuitOf t c).fillValve = false ∧ (circuitOf t c).isolateValve = false ∧ (circuitOf t c).ventValve = false
      ∧ t.run = s.run ∧ t.dev = s.dev ∧ t.vib = s.vib ∧ t.lsn = s.lsn
      ∧ (∀ d, d ≠ c → circuitOf t d = circuitOf s d)
      ∧ latchedOn s t ∧ (t.cyc.station ≠ s.cyc.station → t.peer.posting.cycleState = t.cyc.station)
      ∧ (∀ r, s.cyc.record = some r → inCycle s.cyc.station = true → ∃ r', t.cyc.record = some r'
          ∧ (match c with
              | .one => r'.circuit1
              | .two => r'.circuit2) = circuitSection (circuitOf t c)
          ∧ r'.dev = devCopy s.dev ∧ r'.cycleTime = cycleTime s
          ∧ (jobsAtRest (withCircuit c enterDone s) = true →
              r'.final = true ∧ r'.verdict = verdictOf s.cfg.station.severity s.dev.status
              ∧ finalHandedOver s t r')
          ∧ (jobsAtRest (withCircuit c enterDone s) = false →
              t.cyc.station = s.cyc.station ∧ r'.final = r.final
              ∧ (s.store.state = .ready → s.supplyWarning = false →
                  (swapOf s.store false (requestOf .checkpoint r')).gen < spentSeq →
                  t.store.swap = some (swapOf s.store false (requestOf .checkpoint r')))
              ∧ (s.store.state = .swapping ∨ s.store.state = .ready ∧ s.supplyWarning = true →
                  t.store = { s.store with pending := replacePending s.store.pending (requestOf .checkpoint r') })
              ∧ (s.store.state = .faulted → t.store = s.store)))

/-! ## Orders (R105, R165, R170 to R172, R179 to R189) -/

/-- How an order that completes is routed and judged before its owner sees it (R179, R180): another station's is discarded;
at a full receive buffer it is an overrun; behind a busy decoder it waits; at a full reply queue it is dropped; one that may
not be broadcast, or of the wrong form, is answered BAD_ORDER. -/
def Obligations.OrderIsRoutedAndJudged : Prop :=
  ∀ (c : Instr) (order dest : Byte) (body : List Byte) (s : State), orderOf c = some (order, dest, body) → s.boot ≠ .held →
    (dest.toNat ≠ s.cfg.number → dest ≠ destAll → exec c s = .next (leaveIdle (withInputs c s)))
    ∧ (addressed s dest ∨ dest = destAll → 2 ≤ s.lif.buffer.length →
        exec c s = .next (leaveIdle (withCounters (fun k => { k with overruns := min (k.overruns + 1) 65535 })
          (withInputs c s))))
    ∧ (addressed s dest ∨ dest = destAll → s.lif.buffer = [] → s.lif.decoder ≠ .free →
        exec c s = .next (leaveIdle (withLif (fun l => { l with buffer := [⟨orderFrame dest order body, false⟩] })
          (withInputs c s))))
    ∧ (orderHeard s → 4 ≤ s.lif.replies.length →
        (addressed s dest ∨ dest = destAll ∧ order ≠ codeAbort ∧ order ≠ codeRestart) →
        exec c s = .next (leaveIdle (withCounters (fun k => { k with repliesDropped := min (k.repliesDropped + 1) 65535 })
          (withInputs c s))))
    ∧ (takesOrders s → (addressed s dest ∧ wellFormedBody order body = false
          ∨ dest = destAll ∧ order ≠ codeAbort ∧ order ≠ codeRestart) →
        exec c s = .next (answered (badOrder order body) (withInputs c s)))

/-- PHASES (R105): refused in STARTING with nothing loaded; with a code above 6 the whole order is BAD_ORDER and nothing is
loaded; otherwise the 32 codes become the pending table, the pending flag is set and the reply is ACCEPTED. -/
def Obligations.PhasesLoadsThePendingTable : Prop :=
  ∀ (dest : Byte) (codes : List Byte) (s : State), takesOrders s → addressed s dest → codes.length = 32 →
    (s.cyc.station = .starting → exec (.phases dest codes) s = .next (answered (refusal codePhases .starting) s))
    ∧ (s.cyc.station ≠ .starting → (∃ x ∈ codes, 6 < x.toNat) →
        exec (.phases dest codes) s = .next (answered (badOrder codePhases codes) s))
    ∧ (s.cyc.station ≠ .starting → (∀ x ∈ codes, x.toNat ≤ 6) →
        exec (.phases dest codes) s = .next (answered (plainReply codePhases .accepted)
          { s with sca := { s.sca with pending := codes.map BitVec.toNat, pendingFlag := true } }))

/-- RESTART (R188): in STARTING an addressed one is refused and a broadcast one ignored; in any other state an addressed one
is ACCEPTED and holds the decoder until its reply is sent or 100 ms have passed, at which the reset is taken, and a
broadcast one is taken at once with no reply, a full reply queue included. The reset keeps the configuration, the active
phase table and the flash, reads the straps again, and enters STARTING at the store scan with the rota running (R108, R192,
R195). The straps that the order's command carries, or that are free at the other two events, are the model's choice
(assumption 3), and so are the reset values that the manual leaves open (assumption 30). -/
def Obligations.RestartIsAnsweredAndTaken : Prop :=
  (∀ (straps : BitVec 4) (dest : Byte) (s : State), takesOrders s → addressed s dest →
    (s.cyc.station = .starting → exec (.restart straps dest []) s
        = .next (answered (refusal codeRestart .starting) (withInputs (.restart straps dest []) s)))
    ∧ (s.cyc.station ≠ .starting → exec (.restart straps dest []) s
        = .next (leaveIdle (withLif (fun l => { l with
            replies := l.replies ++ [plainReply codeRestart .accepted]
            decoder := .restarting
            restartLeft := some 100 }) (withInputs (.restart straps dest []) s)))))
  ∧ (∀ (straps : BitVec 4) (s : State), orderHeard s →
    (s.cyc.station = .starting → exec (.restart straps destAll []) s
        = .next (leaveIdle (withInputs (.restart straps destAll []) s)))
    ∧ (s.cyc.station ≠ .starting → exec (.restart straps destAll []) s
        = .next (leaveIdle (takeRestart (withInputs (.restart straps destAll []) s)))))
  ∧ (∀ s : State, s.boot ≠ .held → s.lif.restartLeft.isSome = true →
      exec .restartTimeout s = .next (leaveIdle (takeRestart (seeInputs s))))
  ∧ (∀ (s : State) (rest : List Reply), s.boot ≠ .held → s.lif.tx.state = .sending → s.lif.tx.choice = some .reply →
      s.lif.decoder = .restarting → s.lif.replies = plainReply codeRestart .accepted :: rest →
      exec .frameSent s = .next (leaveIdle (takeRestart (seeInputs s))))
  ∧ ∀ s : State, s.store.swap = none →
    (takeRestart s).cfg = { s.cfg with number := s.pins.straps.toNat + 1 }
    ∧ (takeRestart s).sca = scaReset s.sca.active true
    ∧ (takeRestart s).store = storeReset s.store.flash
    ∧ (takeRestart s).boot = .scan
    ∧ (takeRestart s).cyc = cycReset ∧ (takeRestart s).run = runReset ∧ (takeRestart s).lsn = lsnReset
    ∧ (takeRestart s).vib = vibReset ∧ (takeRestart s).leak = leakReset ∧ (takeRestart s).dev = devClear
    ∧ (takeRestart s).lif = { lifReset with classifier := .waitIdle false }
    ∧ (takeRestart s).peer = { peerReset .restart with
        latch := true
        period := s.cfg.station.period
        periodLeft := s.cfg.station.period
        posting := { postingReset .restart with supplyWarning := s.pins.supplyLow } }
    ∧ (takeRestart s).supplyWarning = s.pins.supplyLow

/-- ITEM is answered in every station state, from the state at the read, with the item's data or NOT_HELD and the item's
number in the qualifier; an item above 10 or an index outside the item's range is NOT_HELD (R18, R34, R99, R109, R131,
R184). The bytes of ITEM 2 (R109; a mark as one byte is assumption 13), of ITEMs 3 and 4 (R110), of ITEM 5, which is the
open record in its stored layout with its header's fields in their places (R18), and of ITEM 10 (R190) are stated one by
one. -/
def Obligations.ItemShowsLiveState : Prop :=
  ∀ (dest item index : Byte) (s : State), takesOrders s → addressed s dest →
    exec (.item dest [item, index]) s = .next (answered (itemReply item index s) s)
    ∧ (itemReply item index s).order = codeItem ∧ (itemReply item index s).qualifier = item
    ∧ ((itemReply item index s).outcome = .data ∧ itemData item.toNat index.toNat s = some (itemReply item index s).data
      ∨ (itemReply item index s).outcome = .notHeld ∧ itemData item.toNat index.toNat s = none
        ∧ (itemReply item index s).data = [])
    ∧ (10 < item.toNat → (itemReply item index s).outcome = .notHeld)
    ∧ (item ∈ [0, 3, 4, 5, 6, 9, 10] → index ≠ 0 → (itemReply item index s).outcome = .notHeld)
    ∧ (item ∈ [0, 3, 4, 6, 9, 10] → index = 0 → (itemReply item index s).outcome = .data)
    ∧ (item = 5 → index = 0 → ((itemReply item index s).outcome = .data ↔ s.cyc.record.isSome = true))
    ∧ (item = 1 → ((itemReply item index s).outcome = .data ↔
        1 ≤ index.toNat ∧ index.toNat ≤ 16 ∧ index.toNat ≠ s.cfg.number ∧ (entryOf s index.toNat).isSome = true))
    ∧ (item = 2 → ((itemReply item index s).outcome = .data ↔ 1 ≤ index.toNat ∧ index.toNat ≤ 6))
    ∧ (item = 7 → ((itemReply item index s).outcome = .data ↔ index.toNat ≤ 31))
    ∧ (item = 8 → ((itemReply item index s).outcome = .data ↔ index.toNat = 1 ∨ index.toNat = 2))
    ∧ (∀ ch, item = 2 → slowOfCode index.toNat = some ch → (itemReply item index s).data
        = twoBytes (slowOf s.sca ch).value ++ [if (slowOf s.sca ch).sampled then 1 else 0]
          ++ twoBytes (slowOf s.sca ch).sinceMs
          ++ [BitVec.ofNat 8 (s.sca.active.filter (fun code => code == index.toNat)).length])
    ∧ (item = 3 → index = 0 → (itemReply item index s).data
        = s.sca.active.map (BitVec.ofNat 8) ++ [BitVec.ofNat 8 s.sca.pointer])
    ∧ (item = 4 → index = 0 → (itemReply item index s).data
        = (if s.sca.pendingFlag then 1 else 0) :: s.sca.pending.map (BitVec.ofNat 8))
    ∧ (∀ r, item = 5 → index = 0 → s.cyc.record = some r → ∃ image, image = recordImage r
        ∧ (itemReply item index s).data
          = image ++ [BitVec.ofNat 8 ((crc16 image).toNat / 256), BitVec.ofNat 8 (crc16 image).toNat, 0, 0]
        ∧ image.length = 76 + (if r.hasNoise then 16 else 0) + (if r.has1 then 24 else 0) + (if r.has2 then 24 else 0)
            + ((r.stamp.length - 4) + (r.serial.length - 20))
        ∧ field image 0 4 = r.seq % 2 ^ 32 ∧ byteAt image 4 = (if r.final then 2 else 1)
        ∧ byteAt image 5 = BitVec.ofNat 8 r.verdict.code ∧ byteAt image 6 = BitVec.ofNat 8 r.programme
        ∧ byteAt image 7 = BitVec.ofNat 8 r.station ∧ byteAt image 8 = BitVec.ofNat 8 (presenceOf r)
        ∧ byteAt image 9 = BitVec.ofNat 8 r.serial.length ∧ byteAt image 10 = (if r.resetInterrupted then 1 else 0)
        ∧ (r.stamp.length = 4 → (image.drop 12).take 4 = r.stamp ∧ field image 16 4 = r.cycleTime % 2 ^ 32
            ∧ (image.drop 20).take r.serial.length = r.serial))
    ∧ (item = 10 → index = 0 → (itemReply item index s).data
        = twoBytes s.lif.counters.pulseErrors ++ twoBytes s.lif.counters.lineStuck ++ twoBytes s.lif.counters.lengthErrors
          ++ twoBytes s.lif.counters.crcErrors ++ twoBytes s.lif.counters.overruns ++ twoBytes s.lif.counters.arbLosses
          ++ twoBytes s.lif.counters.repliesDropped)

/-- FIND, RDNEW and RDSEQ (R165, R180, R183, R186, R187) are refused in STARTING; otherwise taken by STORE, with the decoder
busy until the read is served. STORE_READ_SERVED answers the read in hand from the current pages as they stand, and frees
the decoder: RDSEQ with the record of its sequence, NOT_HELD or DAMAGED by the slot's condition (R170), RDNEW with the valid
record of the highest sequence (R171), and FIND with that of the valid records bearing its serial (R172). An order that
waited behind the read is then judged, on the input levels as they stand at that moment (R3, R180), which are free values
(assumption 3). -/
def Obligations.ReadsAreTakenAndServed : Prop :=
  (∀ (dest : Byte) (s : State), takesOrders s → addressed s dest →
    (∀ seq : List Byte, seq.length = 4 →
      (s.cyc.station = .starting → exec (.rdseq dest seq) s = .next (answered (refusal codeRdseq .starting) s))
      ∧ (s.cyc.station ≠ .starting → exec (.rdseq dest seq) s = .next (leaveIdle
          { s with lif := { s.lif with decoder := .reading (.seq (fromBe seq)) } })))
    ∧ (s.cyc.station = .starting → exec (.rdnew dest []) s = .next (answered (refusal codeRdnew .starting) s))
    ∧ (s.cyc.station ≠ .starting → exec (.rdnew dest []) s = .next (leaveIdle
          { s with lif := { s.lif with decoder := .reading .newest } }))
    ∧ (∀ serial : List Byte, 1 ≤ serial.length → serial.length ≤ 20 → (∀ b ∈ serial, 0x20 ≤ b.toNat ∧ b.toNat ≤ 0x7E) →
      (s.cyc.station = .starting →
        exec (.find dest (BitVec.ofNat 8 serial.length :: serial)) s = .next (answered (refusal codeFind .starting) s))
      ∧ (s.cyc.station ≠ .starting → exec (.find dest (BitVec.ofNat 8 serial.length :: serial)) s = .next (leaveIdle
          { s with lif := { s.lif with decoder := .reading (.serial serial) } }))))
  ∧ ∀ (r : StoreRead) (s : State), s.boot ≠ .held → s.lif.decoder = .reading r → ∃ answer, servedBy s.store r answer
    ∧ (s.lif.buffer = [] →
      exec .storeReadServed s = .next (answered answer { s with lif := { s.lif with decoder := .free } }))
    ∧ ∀ (dest order : Byte) (body : List Byte) (own : Bool), s.lif.buffer = [⟨.full kindOrder 0 dest (order :: body), own⟩] →
      exec .storeReadServed s = .next (leaveIdle (judgeOrder (dest == destAll) order body
        (seeInputs { s with lif := { s.lif with buffer := [], decoder := .free, replies := s.lif.replies ++ [answer] } })))

/-! ## Postings and the peer table (R22 to R36) -/

/-- A full posting from another station is entered whole, at age 0 and heard now, over any entry of that station; every
other station's entry is as it was (R29), and of the rest only the contamination condition can move, a change of it to true
marking the open revolution (R64, R85). What R28 does with the other postings: sources 0 and above 16 are discarded, and so
are the own transmitter's own and a full posting with a field out of range; a posting bearing the own number that another
station sent sets the duplicate-station condition with a clearance count of 8, and is not entered (R35). -/
def Obligations.FullPostingIsEntered : Prop :=
  (∀ (event own : Bool) (src : Byte) (payload : List Byte) (p : Posting) (s : State),
    s.boot ≠ .held → s.lif.buffer = [] → payload.length = 16 → postingOf payload = some p →
    1 ≤ src.toNat → src.toNat ≤ 16 → src.toNat ≠ s.cfg.number →
    ∃ t, exec (.fullPostingReceived event own src payload) s = .next (leaveIdle t)
      ∧ t = { s with peer := { s.peer with table := t.peer.table }, vib := t.vib, lsn := t.lsn }
      ∧ entryOf t src.toNat = some ⟨src.toNat, p, 0, s.clock.ms⟩
      ∧ (∀ n, n ≠ src.toNat → entryOf t n = entryOf s n)
      ∧ contaminationDerived s t)
  ∧ ∀ (event own : Bool) (src : Byte) (payload : List Byte) (s : State),
    s.boot ≠ .held → s.lif.buffer = [] → payload.length = 16 →
    (src.toNat = 0 ∨ 16 < src.toNat →
      exec (.fullPostingReceived event own src payload) s = .next (leaveIdle s)
      ∧ exec (.repeatPostingReceived own src) s = .next (leaveIdle s))
    ∧ (1 ≤ src.toNat → src.toNat ≤ 16 → src.toNat = s.cfg.number →
      exec (.fullPostingReceived event true src payload) s = .next (leaveIdle s)
      ∧ exec (.repeatPostingReceived true src) s = .next (leaveIdle s)
      ∧ exec (.fullPostingReceived event false src payload) s = .next (leaveIdle { s with
          peer := { s.peer with dupCount := 8, posting := { s.peer.posting with dupStation := true } } })
      ∧ exec (.repeatPostingReceived false src) s = .next (leaveIdle { s with
          peer := { s.peer with dupCount := 8, posting := { s.peer.posting with dupStation := true } } }))
    ∧ (1 ≤ src.toNat → src.toNat ≤ 16 → src.toNat ≠ s.cfg.number → postingOf payload = none →
      exec (.fullPostingReceived event own src payload) s = .next (leaveIdle s))

/-- A repeat posting sets the age of its station's entry to 0 and its time heard to now, and leaves the posted fields and
every other entry; with no entry for the station it changes nothing (R30). -/
def Obligations.RepeatPostingRefreshesTheEntry : Prop :=
  ∀ (own : Bool) (src : Byte) (s : State), s.boot ≠ .held → s.lif.buffer = [] →
    1 ≤ src.toNat → src.toNat ≤ 16 → src.toNat ≠ s.cfg.number →
    ∃ table, exec (.repeatPostingReceived own src) s
        = .next (leaveIdle { s with peer := { s.peer with table := table } })
      ∧ table.find? (fun e => e.station == src.toNat)
          = (entryOf s src.toNat).map (fun e => { e with age := 0, heard := s.clock.ms })
      ∧ (∀ n, n ≠ src.toNat → table.find? (fun e => e.station == n) = entryOf s n)
      ∧ (entryOf s src.toNat = none → table = s.peer.table)

/-- POSTING_PERIOD_EXPIRY at PEER, whichever order it is taken in (R22, R23, R31, R36): the periodic-due flag is set and the
timer reloaded, every entry ages by one and an entry at 8 is removed, and the duplicate-station count falls, the condition
clearing at 0. -/
def Obligations.PeriodExpiryAgesThePeerTable : Prop :=
  ∀ (a b : Bool) (s : State), s.boot ≠ .held → ∃ t, exec (.postingPeriodExpiry a b) s = .next t
    ∧ t.peer.due = true ∧ t.peer.period = s.cfg.station.period ∧ t.peer.periodLeft = s.cfg.station.period
    ∧ t.peer.table = (s.peer.table.map (fun e => { e with age := e.age + 1 })).filter (fun e => decide (e.age < 8))
    ∧ (s.peer.posting.dupStation = false → t.peer.posting.dupStation = false ∧ t.peer.dupCount = s.peer.dupCount)
    ∧ (s.peer.posting.dupStation = true → t.peer.dupCount = s.peer.dupCount - 1
        ∧ t.peer.posting.dupStation = decide (1 < s.peer.dupCount))
    ∧ t.peer.repeats = s.peer.repeats ∧ t.peer.lastFull = s.peer.lastFull
    ∧ t.cyc = s.cyc ∧ t.dev = s.dev ∧ t.sca = s.sca ∧ t.store = s.store ∧ t.cfg = s.cfg

/-! ## Quiet windows (R66 to R73) -/

/-- POSTING_PERIOD_EXPIRY at LSN (R66, R68 to R71), on the peer table before or after its ageing: the claim age rises and is
posted; DEFERRING goes to CLAIMING where no neighbour claims or listens; the settle count falls in CLAIMING, and at 0 the
precedence test takes LSN to DEFERRING or LISTENING; NONE and LISTENING stay. At LISTENING VIB opens its pass, and RUN takes
DEFER out of its hold set and its deferred SWEEP to APPROACH (R67; under a REVERSAL still held that is assumption 48). A
change of the posted listen state sets the event-posting latch (R20, R21). -/
def Obligations.PeriodExpiryMovesTheListenState : Prop :=
  ∀ (a b : Bool) (s : State), s.boot ≠ .held → ∃ t, exec (.postingPeriodExpiry a b) s = .next t
    ∧ (s.lsn.state = .inactive → t.lsn.state = .inactive ∧ t.lsn.claimAge = s.lsn.claimAge)
    ∧ (s.lsn.state ≠ .inactive → t.lsn.claimAge = min (s.lsn.claimAge + 1) 255
        ∧ t.peer.posting.listenAge = min (s.lsn.claimAge + 1) 255)
    ∧ (s.lsn.state = .listening → t.lsn.state = .listening)
    ∧ (s.lsn.state = .deferring → neighbourClaims (tableSeen a s) = true → t.lsn.state = .deferring)
    ∧ (s.lsn.state = .deferring → neighbourClaims (tableSeen a s) = false →
        t.lsn.state = .claiming ∧ t.lsn.settle = 2 ∧ t.peer.posting.listen = .claim ∧ t.lsn.deferralMs = s.lsn.deferralMs)
    ∧ (s.lsn.state = .claiming → 2 ≤ s.lsn.settle → t.lsn.state = .claiming ∧ t.lsn.settle = s.lsn.settle - 1)
    ∧ (s.lsn.state = .claiming → s.lsn.settle = 1 →
        (acousticPeers (tableSeen a s)).any (hasPrecedence (min (s.lsn.claimAge + 1) 255) s.cfg.number) = true →
        t.lsn.state = .deferring ∧ t.peer.posting.listen = .unclaimed)
    ∧ (s.lsn.state = .claiming → s.lsn.settle = 1 →
        (acousticPeers (tableSeen a s)).any (hasPrecedence (min (s.lsn.claimAge + 1) 255) s.cfg.number) = false →
        t.lsn.state = .listening ∧ t.peer.posting.listen = .listen ∧ t.vib.state = .sampling ∧ t.vib.pass = noCounts
        ∧ (inSegment s.run.state = true → segKind s = .sweep → s.run.stage = .deferred →
            t.run = { s.run with
              stage := .approach
              holds := { s.run.holds with defer := false }
              state := if s.run.holds.power || s.run.holds.yields || s.run.holds.reversal then .held else .segment }))
    ∧ (t.lsn.state ≠ .listening ∨ s.lsn.state = .listening ∨ inSegment s.run.state = false ∨ segKind s ≠ .sweep
        ∨ s.run.stage ≠ .deferred → t.run = s.run)
    ∧ latchedOn s t

/-- The two time limits. DEFERRAL_LIMIT in DEFERRING is a forced listen (R73, R71): LISTENING at once with the forced
mark, RUN's DEFER lifted and a pass opened; in any other state it changes nothing. AIR_WAIT_LIMIT of a circuit whose
air-wait time has passed its limit, the mark clear, sets the mark and sends DEV AIR_WAIT with the time in whole seconds,
in whatever state but DONE (R127) an event of the same ms has left the circuit; with the mark set, of a circuit in DONE,
or of one that neither seeks air nor has passed its limit, it changes nothing (R120). What a report of LISTENING does
under a REVERSAL still held is assumption 48, what AIR_WAIT_LIMIT does in WAIT or INTENT before the limit is passed is
assumption 50, and that either command changes nothing where its limit cannot be reached is assumption 1. -/
def Obligations.WaitsReachTheirLimits : Prop :=
  (∀ s : State, s.boot ≠ .held → s.lsn.state ≠ .deferring → exec .deferralLimit s = .next (leaveIdle s))
  ∧ (∀ s : State, s.boot ≠ .held → s.lsn.state = .deferring → ∃ peer run vib,
      exec .deferralLimit s = .next (leaveIdle { s with
        lsn := { s.lsn with state := .listening, forced := true, deferralMs := s.cfg.station.deferralMax * 100 }
        peer := peer, run := run, vib := vib })
      ∧ peer.posting = { s.peer.posting with listen := .listen }
      ∧ (s.peer.posting.listen ≠ .listen → peer.latch = true)
      ∧ vib.state = .sampling ∧ vib.pass = noCounts ∧ vib.openRev = none ∧ vib.shadow = .v1
      ∧ (inSegment s.run.state = true → segKind s = .sweep → s.run.stage = .deferred →
          run.stage = .approach ∧ run.holds = { s.run.holds with defer := false }
          ∧ run.state = (if run.holds.isEmpty then .segment else .held)))
  ∧ (∀ (c : CircuitId) (s : State), s.boot ≠ .held → (circuitOf s c).state ≠ .done → s.leak.airWaitMark = false →
      (paramsOf s c).airWaitLimit * 1000 < (circuitOf s c).airWaitMs → ∃ leak,
      exec (.airWaitLimit c) s = .next (leaveIdle { s with
        leak := leak
        dev := (takeDev ⟨.airWait, circuitNum c, (circuitOf s c).airWaitMs / 1000, (paramsOf s c).airWaitLimit⟩ s).dev })
      ∧ leak = { s.leak with airWaitMark := true })
  ∧ (∀ (c : CircuitId) (s : State), s.boot ≠ .held → seeksAir (circuitOf s c).state = true → s.leak.airWaitMark = false →
      (circuitOf s c).airWaitMs ≤ (paramsOf s c).airWaitLimit * 1000 → ∃ t,
      exec (.airWaitLimit c) s = .next (leaveIdle { s with leak := t.leak, dev := t.dev })
      ∧ t = takeDev ⟨.airWait, circuitNum c, (paramsOf s c).airWaitLimit, (paramsOf s c).airWaitLimit⟩
          { s with leak := { s.leak.set c { circuitOf s c with airWaitMs := (paramsOf s c).airWaitLimit * 1000 + 1 } with
            airWaitMark := true } })
  ∧ (∀ (c : CircuitId) (s : State), s.boot ≠ .held →
      s.leak.airWaitMark = true ∨ (circuitOf s c).state = .done ∨ (seeksAir (circuitOf s c).state = false
        ∧ (circuitOf s c).airWaitMs ≤ (paramsOf s c).airWaitLimit * 1000) →
      exec (.airWaitLimit c) s = .next (leaveIdle s))

/-! ## The leak test (R113 to R139) -/

/-- POSTING_PERIOD_EXPIRY at each circuit (R116 to R119), on the peer table before or after its ageing, circuit 2 seeing
circuit 1 as circuit 1's own steps left it: the claim age rises in WAIT and INTENT; the settle expiry admits the circuit to
FILL exactly when peer fills, own fills and preceding intents, own circuit 1's INTENT among those of circuit 2, are below
the header limit, and withdraws it to WAIT with a backoff of 2 if not; WAIT with no backoff left enters INTENT exactly when
the fills are below the limit; a circuit in any other state stays as it is. A change of a posted air state sets the
event-posting latch (R20, R21). -/
def Obligations.PeriodExpiryDecidesAirAdmission : Prop :=
  ∀ (a b : Bool) (s : State), s.boot ≠ .held → ∃ t, exec (.postingPeriodExpiry a b) s = .next t ∧ latchedOn s t
    ∧ ∀ c, ∃ v air,
    v = (match c with
      | .one => tableSeen b s
      | .two => { tableSeen b s with leak := { s.leak with c1 := t.leak.c1 } })
    ∧ air = airPosted t c
    ∧ ((circuitOf s c).state = .intent → (circuitOf s c).settle = 1 →
        ∃ u, u = { v with leak := v.leak.set c { circuitOf s c with
            claimAge := min ((circuitOf s c).claimAge + 1) 255, settle := 0 } }
          ∧ precedingIntents c u = (((airPeers u).filter (fun e =>
                decide (min ((circuitOf s c).claimAge + 1) 255 < effAirAge e)
                  || decide (effAirAge e = min ((circuitOf s c).claimAge + 1) 255) && decide (e.station < s.cfg.number))).map
                (entryAir .intent)).sum
              + (if c = .two ∧ t.leak.c1.state = .intent then 1 else 0)
          ∧ (peerFills u + ownFills u + precedingIntents c u < s.cfg.station.headerLimit →
              (circuitOf t c).state = .fill ∧ (circuitOf t c).claimAge = 0
              ∧ (circuitOf t c).timer = (paramsOf s c).fillMs ∧ (circuitOf t c).fillTime = 0
              ∧ (circuitOf t c).fillValve = true ∧ (circuitOf t c).isolateValve = true ∧ (circuitOf t c).ventValve = false
              ∧ air = .fill)
          ∧ (s.cfg.station.headerLimit ≤ peerFills u + ownFills u + precedingIntents c u →
              (circuitOf t c).state = .wait ∧ (circuitOf t c).backoff = 2
              ∧ (circuitOf t c).claimAge = min ((circuitOf s c).claimAge + 1) 255 ∧ air = .wait))
    ∧ ((circuitOf s c).state = .intent → 2 ≤ (circuitOf s c).settle →
        (circuitOf t c).state = .intent ∧ (circuitOf t c).settle = (circuitOf s c).settle - 1
        ∧ (circuitOf t c).claimAge = min ((circuitOf s c).claimAge + 1) 255)
    ∧ ((circuitOf s c).state = .wait → (circuitOf t c).claimAge = min ((circuitOf s c).claimAge + 1) 255)
    ∧ ((circuitOf s c).state = .wait → (circuitOf s c).backoff ≤ 1 →
        (peerFills v + ownFills v < s.cfg.station.headerLimit →
          (circuitOf t c).state = .intent ∧ (circuitOf t c).settle = 2 ∧ air = .intent)
        ∧ (s.cfg.station.headerLimit ≤ peerFills v + ownFills v →
          (circuitOf t c).state = .wait ∧ (circuitOf t c).backoff = 0))
    ∧ ((circuitOf s c).state = .wait → 2 ≤ (circuitOf s c).backoff →
        (circuitOf t c).state = .wait ∧ (circuitOf t c).backoff = (circuitOf s c).backoff - 1)
    ∧ (seeksAir (circuitOf s c).state = false → circuitOf t c = circuitOf s c)

/-- The fill and stabilise timers (R122, R123): the fill timer's expiry in FILL is a gross leak, with the circuit
vented and no claim posted, which sets the event-posting latch (R20, R21); the stabilise timer's expiry extends once
on a drift above the threshold, and otherwise leads to MEASURE with empty windows. An expiry that meets another state
changes nothing (R129). -/
def Obligations.FillAndStabiliseTimersExpire : Prop :=
  ∀ (c : CircuitId) (s : State), s.boot ≠ .held →
    ((circuitOf s c).state = .fill → ∃ t, exec (.fillTimerExpiry c) s = .next t
      ∧ t.dev = (takeDev ⟨.grossLeak, circuitNum c, latest s (prsOf c), (paramsOf s c).testPressure⟩ s).dev
      ∧ (circuitOf t c).state = .vent ∧ (circuitOf t c).outcome = .gross
      ∧ (circuitOf t c).fillTime = (paramsOf s c).fillMs ∧ (circuitOf t c).timer = (paramsOf s c).ventMs
      ∧ (circuitOf t c).fillValve = false ∧ (circuitOf t c).ventValve = true
      ∧ airPosted t c = .unclaimed ∧ latchedOn s t
      ∧ (∀ d, d ≠ c → circuitOf t d = circuitOf s d) ∧ t.run = s.run ∧ t.cyc = s.cyc)
    ∧ ((circuitOf s c).state ≠ .fill → exec (.fillTimerExpiry c) s = .next (leaveIdle s))
    ∧ ((circuitOf s c).state = .stabilise → ∃ t, exec (.stabiliseTimerExpiry c) s = .next t
      ∧ (driftHigh (paramsOf s c) (latest s (airtOf c)) (circuitOf s c) = true →
          circuitOf t c = { circuitOf s c with extended := true, timer := (paramsOf s c).stabiliseMs })
      ∧ (driftHigh (paramsOf s c) (latest s (airtOf c)) (circuitOf s c) = false →
          (circuitOf t c).state = .measure ∧ (circuitOf t c).timer = (paramsOf s c).measureTenths * 100
          ∧ (circuitOf t c).startPrs = [] ∧ (circuitOf t c).startAirt = [] ∧ (circuitOf t c).endPrs = []
          ∧ (circuitOf t c).endAirt = [])
      ∧ latchedOn s t
      ∧ (∀ d, d ≠ c → circuitOf t d = circuitOf s d) ∧ t.run = s.run ∧ t.cyc = s.cyc ∧ t.dev = s.dev)
    ∧ ((circuitOf s c).state ≠ .stabilise → exec (.stabiliseTimerExpiry c) s = .next (leaveIdle s))

/-- MEASURE_TIMER_EXPIRY in MEASURE (R126): with fewer than 8 samples in a window the circuit is STARVED, with
SAMPLE_STARVED, and its leak rate stays absent and D8 0, as every circuit not yet judged has them (the law of
StepsKeepTheAirLaws); with four full windows the leak rate and D8 are the computation's, with its outcome, and DEV takes the
class that the computation raised, with its measured and limit values; the circuit vents either way. -/
def Obligations.MeasureExpiryJudgesTheWindows : Prop :=
  ∀ (c : CircuitId) (s : State), s.boot ≠ .held → (circuitOf s c).state = .measure →
    ∃ t, exec (.measureTimerExpiry c) s = .next t
      ∧ (circuitOf t c).state = .vent ∧ (circuitOf t c).timer = (paramsOf s c).ventMs
      ∧ (circuitOf t c).avgStartPrs = (circuitOf s c).startPrs.sum / (circuitOf s c).startPrs.length
      ∧ (circuitOf t c).avgStartAirt = (circuitOf s c).startAirt.sum / (circuitOf s c).startAirt.length
      ∧ (circuitOf t c).avgEndPrs = (circuitOf s c).endPrs.sum / (circuitOf s c).endPrs.length
      ∧ (circuitOf t c).avgEndAirt = (circuitOf s c).endAirt.sum / (circuitOf s c).endAirt.length
      ∧ (smallestWindow (circuitOf s c) < 8 →
          (circuitOf t c).outcome = .starved
          ∧ ((circuitOf s c).leakRate = none → (circuitOf s c).d8 = 0 →
              (circuitOf t c).leakRate = none ∧ (circuitOf t c).d8 = 0)
          ∧ t.dev = (takeDev ⟨.sampleStarved, circuitNum c, smallestWindow (circuitOf s c), 8⟩ s).dev)
      ∧ (8 ≤ smallestWindow (circuitOf s c) →
          (circuitOf t c).outcome = (judgeLeak (windowSums (circuitOf s c)) (paramsOf s c)).outcome
          ∧ (circuitOf t c).leakRate = some (judgeLeak (windowSums (circuitOf s c)) (paramsOf s c)).rate
          ∧ (circuitOf t c).d8 = leakDrop8 (windowSums (circuitOf s c))
          ∧ ((judgeLeak (windowSums (circuitOf s c)) (paramsOf s c)).raised = none → t.dev = s.dev)
          ∧ (∀ cls measured limit,
              (judgeLeak (windowSums (circuitOf s c)) (paramsOf s c)).raised = some (cls, measured, limit) →
              t.dev = (takeDev ⟨cls, circuitNum c, measured, limit⟩ s).dev))
      ∧ (∀ d, d ≠ c → circuitOf t d = circuitOf s d) ∧ t.run = s.run ∧ t.cyc = s.cyc

/-- The leak-rate computation on window sums of 8 codes (R134 to R139): the expected pressure is the start pressure scaled
by the ratio of end to start temperature, rounded half up, and D8 is what it leaves above the end pressure; both lie in the
ranges the manual gives, the rate is at most 65 535, D8 alone decides the branch, LEAK_RATE is raised exactly when the held
rate exceeds the limit, with measured value the rate, PRESSURE_RISE exactly when the rise exceeds the tolerance, with
measured value the rise in whole pascals, and never both; the rate of a positive drop is R138's quotient rounded half up,
held at 65 535. -/
def Obligations.LeakRateStaysInItsRanges : Prop :=
  ∀ (w : WindowSums) (p : CircuitParams),
    w.startPrs ≤ 32760 → w.endPrs ≤ 32760 → w.startAirt ≤ 32760 → w.endAirt ≤ 32760 →
    448140 ≤ expectedPressure8 w ∧ expectedPressure8 w ≤ 2947635
    ∧ -1181460 ≤ leakDrop8 w ∧ leakDrop8 w ≤ 2137035
    ∧ absPressure8 w.startPrs = 25 * w.startPrs + 810600 ∧ absPressure8 w.endPrs = 25 * w.endPrs + 810600
    ∧ expectedPressure8 w
      = ((25 * w.startPrs + 810600) * (w.endAirt + 40504) + (w.startAirt + 40504) / 2) / (w.startAirt + 40504)
    ∧ leakDrop8 w = (expectedPressure8 w : Int) - ((25 * w.endPrs + 810600 : Nat) : Int)
    ∧ (w.startAirt = w.endAirt → expectedPressure8 w = absPressure8 w.startPrs)
    ∧ (judgeLeak w p).rate ≤ 65535 ∧ (judgeLeak w p).d8 = leakDrop8 w
    ∧ (leakDrop8 w ≤ 0 → (judgeLeak w p).rate = 0)
    ∧ ((judgeLeak w p).outcome = .leakHigh ↔ 0 < leakDrop8 w ∧ p.leakLimit < (judgeLeak w p).rate)
    ∧ ((judgeLeak w p).outcome = .rise ↔ leakDrop8 w < 0 ∧ (8 * p.riseTolerance : Int) < -leakDrop8 w)
    ∧ (0 < leakDrop8 w → (judgeLeak w p).rate
        = min (((leakDrop8 w).toNat * p.volume * 7500 + 101325 * p.measureTenths / 2) / (101325 * p.measureTenths)) 65535)
    ∧ ((judgeLeak w p).raised = none ↔ (judgeLeak w p).outcome = .passed)
    ∧ ((judgeLeak w p).outcome = .leakHigh → (judgeLeak w p).raised = some (.leakRate, (judgeLeak w p).rate, p.leakLimit))
    ∧ ((judgeLeak w p).outcome = .rise → (judgeLeak w p).raised
        = some (.pressureRise, min ((-leakDrop8 w).toNat / 8) 65535, p.riseTolerance))

/-! ## The line (R25 to R27, R174 to R178) -/

/-- The receive classifier (R174 to R176): what a start, a bit, a pulse of no valid width, an idle bus and a stuck line do
to it, and how the gap that ends a frame has the frame judged. Every dominant pulse leaves the bus idle no longer, and 8u
recessive leave it idle (R174; when the model holds it so is assumption 42). Two clauses are the model's choice: that
LINE_STUCK changes nothing of the classifier but its count (assumption 24), and that a frame that passes leaves the
classifier waiting for a start (assumption 36). An order that a gap completes is judged on input levels that are free
(assumption 3). -/
def Obligations.ClassifierTakesPulsesAndGaps : Prop :=
  ∀ s : State, s.boot ≠ .held →
    (s.lif.classifier = .waitStart → ∀ ns, 10000 ≤ ns → ns < 15000 → exec (.startPulse ns) s = .next (leaveIdle
        { s with lif := { s.lif with busIdle := false, classifier := .inFrame ⟨false, [], [], false⟩ } }))
    ∧ (s.lif.classifier = .waitStart → ∀ ns, 5000 ≤ ns → ns < 8000 → exec (.startPulse ns) s = .next (leaveIdle
        { s with lif := { s.lif with busIdle := false, classifier := .inFrame ⟨true, [], [], false⟩ } }))
    ∧ (∀ p bit ns, s.lif.classifier = .inFrame p → isComplete p = false →
        (bit = false ∧ 500 ≤ ns ∧ ns < 1500 ∨ bit = true ∧ 1500 ≤ ns ∧ ns < 3000) →
        (p.bits.length < 7 → tooLong { p with bits := p.bits ++ [bit] } = false → exec (.bitPulse ns) s = .next (leaveIdle
          { s with lif := { s.lif with busIdle := false, classifier := .inFrame { p with bits := p.bits ++ [bit] } } }))
        ∧ (∀ byte, p.bits.length = 7 → byteBits byte = p.bits ++ [bit] →
          (tooLong { p with bytes := p.bytes ++ [byte], bits := [] } = false →
            exec (.bitPulse ns) s = .next (leaveIdle { s with lif := { s.lif with
              busIdle := false
              classifier := .inFrame { p with bytes := p.bytes ++ [byte], bits := [] } } }))
          ∧ (p.isRepeat = false → p.bytes.length = 3 → 160 < byte.toNat →
            exec (.bitPulse ns) s = .next (leaveIdle { s with lif := { s.lif with
              busIdle := false
              classifier := .waitIdle true
              counters := { s.lif.counters with lengthErrors := min (s.lif.counters.lengthErrors + 1) 65535 } } }))))
    ∧ (∀ p ns, s.lif.classifier = .inFrame p → isComplete p = true → 500 ≤ ns → ns < 3000 →
        exec (.bitPulse ns) s = .next (leaveIdle { s with lif := { s.lif with
          busIdle := false
          classifier := .waitIdle true
          counters := { s.lif.counters with lengthErrors := min (s.lif.counters.lengthErrors + 1) 65535 } } }))
    ∧ (∀ ns, (∃ p, s.lif.classifier = .inFrame p ∧ (5000 ≤ ns ∧ ns < 8000 ∨ 10000 ≤ ns ∧ ns < 15000))
          ∨ s.lif.classifier = .waitStart ∧ 500 ≤ ns ∧ ns < 3000
          ∨ ((∃ p, s.lif.classifier = .inFrame p) ∨ s.lif.classifier = .waitStart)
            ∧ (ns < 500 ∨ 3000 ≤ ns ∧ ns < 5000 ∨ 8000 ≤ ns ∧ ns < 10000 ∨ 15000 ≤ ns) →
        ∀ c, c = Instr.startPulse ns ∨ c = .bitPulse ns ∨ c = .pulseError ns →
        exec c s = .next (leaveIdle { s with lif := { s.lif with
          busIdle := false
          classifier := .waitIdle false
          counters := { s.lif.counters with pulseErrors := min (s.lif.counters.pulseErrors + 1) 65535 } } }))
    ∧ (∀ quiet, s.lif.classifier = .waitIdle quiet →
        exec .busIdle s = .next (leaveIdle { s with lif := { s.lif with busIdle := true, classifier := .waitStart } }))
    ∧ (s.lif.classifier = .waitStart ∨ (∃ p, s.lif.classifier = .inFrame p) →
        exec .busIdle s = .next (leaveIdle { s with lif := { s.lif with busIdle := true } }))
    ∧ (s.lif.classifier ≠ .stopped → exec .lineStuck s = .next (leaveIdle { s with lif := { s.lif with
        busIdle := false
        counters := { s.lif.counters with lineStuck := min (s.lif.counters.lineStuck + 1) 65535 } } }))
    ∧ (∀ p, s.lif.classifier = .inFrame p →
        (isComplete p = false → exec .frameEnd s = .next (leaveIdle { s with lif := { s.lif with
          classifier := .waitIdle true
          counters := { s.lif.counters with lengthErrors := min (s.lif.counters.lengthErrors + 1) 65535 } } }))
        ∧ (isComplete p = true → frameOf p = none → exec .frameEnd s = .next (leaveIdle { s with lif := { s.lif with
          classifier := .waitIdle true
          counters := { s.lif.counters with crcErrors := min (s.lif.counters.crcErrors + 1) 65535 } } }))
        ∧ (∀ f, isComplete p = true → frameOf p = some f → exec .frameEnd s = .next (leaveIdle
          (receive f p.own (seeInputs { s with lif := { s.lif with classifier := .waitStart } })))))

/-- The own transmitter (R25 to R27, R178): in IDLE with a reply queued, the latch set or the due flag set it goes to
WAITING with its choice, in the order reply, event posting, periodic posting, and with none of them, or outside IDLE, it
stays as it is (R25; at the end of every event, assumption 12); an attempt at a bus that is not idle leaves the transmitter
WAITING (R174; when the model holds the bus idle is assumption 42); one at an idle bus begins the frame, with the choice
that stands, or after a loss with a new one in the order reply, event posting, periodic posting, and the bus is idle no
longer; a loss is counted and leaves latch, due flag and repeat counter; a win fixes a full posting's content and clears
latch and due flag, and a repeat's clears the due flag; a frame sent sets the repeat counter to 0 after a full posting, or
raises it by one after a repeat, takes a sent reply from the queue, and has the transmitter choose again in that order, or
return to IDLE. -/
def Obligations.TransmitterSendsAndCounts : Prop :=
  (∀ (s : State) (c : TxChoice), s.lif.tx.state = .idle →
    (s.lif.replies ≠ [] ∧ c = .reply
      ∨ s.lif.replies = [] ∧ s.peer.latch = true ∧ c = .full true
      ∨ s.lif.replies = [] ∧ s.peer.latch = false ∧ s.peer.due = true
        ∧ c = (if s.peer.lastFull ≠ some s.peer.posting ∨ 9 ≤ s.peer.repeats then .full false else .short)) →
    leaveIdle s = { s with lif := { s.lif with tx := ⟨.waiting, some c, false, s.lif.tx.frame⟩ } })
  ∧ (∀ s : State, s.lif.tx.state ≠ .idle ∨ s.lif.replies = [] ∧ s.peer.latch = false ∧ s.peer.due = false → leaveIdle s = s)
  ∧ ∀ s : State, s.boot ≠ .held →
    (s.lif.tx.state = .waiting → s.lif.busIdle = false → exec .transmitAttempt s = .next s)
    ∧ (∀ c, s.lif.tx.state = .waiting → s.lif.busIdle = true → s.lif.tx.choice = some c →
        exec .transmitAttempt s = .next { s with lif := { s.lif with
          busIdle := false, tx := ⟨.waiting, some c, true, none⟩ } })
    ∧ (s.lif.tx.state = .waiting → s.lif.busIdle = true → s.lif.tx.choice = none →
        ∀ c, (s.lif.replies ≠ [] ∧ c = .reply
            ∨ s.lif.replies = [] ∧ s.peer.latch = true ∧ c = .full true
            ∨ s.lif.replies = [] ∧ s.peer.latch = false ∧ s.peer.due = true
              ∧ c = (if s.peer.lastFull ≠ some s.peer.posting ∨ 9 ≤ s.peer.repeats then .full false else .short)) →
        exec .transmitAttempt s = .next { s with lif := { s.lif with
          busIdle := false, tx := ⟨.waiting, some c, true, none⟩ } })
    ∧ (s.lif.tx.state = .waiting → s.lif.tx.attempting = true →
        exec .arbitrationLost s = .next { s with lif := { s.lif with
          tx := ⟨.waiting, none, false, none⟩
          counters := { s.lif.counters with arbLosses := min (s.lif.counters.arbLosses + 1) 65535 } } })
    ∧ (∀ event, s.lif.tx.state = .waiting → s.lif.tx.attempting = true → s.lif.tx.choice = some (.full event) →
        exec .arbitrationWon s = .next { s with
          peer := { s.peer with lastFull := some s.peer.posting, latch := false, due := false }
          lif := { s.lif with
            classifier := markOwn s.lif.classifier
            tx := ⟨.sending, some (.full event), false, some (.full (if event then kindEvent else kindPeriodic)
              (BitVec.ofNat 8 s.cfg.number) destAll (postingBytes s.peer.posting))⟩ } })
    ∧ (s.lif.tx.state = .waiting → s.lif.tx.attempting = true → s.lif.tx.choice = some .short →
        exec .arbitrationWon s = .next { s with
          peer := { s.peer with due := false }
          lif := { s.lif with
            classifier := markOwn s.lif.classifier
            tx := ⟨.sending, some .short, false, some (.short (BitVec.ofNat 8 s.cfg.number))⟩ } })
    ∧ (∀ r rest, s.lif.tx.state = .waiting → s.lif.tx.attempting = true → s.lif.tx.choice = some .reply →
        s.lif.replies = r :: rest → exec .arbitrationWon s = .next { s with lif := { s.lif with
            classifier := markOwn s.lif.classifier
            tx := ⟨.sending, some .reply, false, some (.full kindReply (BitVec.ofNat 8 s.cfg.number) 0 (replyPayload r))⟩ } })
    ∧ (s.lif.tx.state = .sending → (s.lif.tx.choice = some .reply → s.lif.decoder ≠ .restarting) → ∃ t,
        exec .frameSent s = .next t
        ∧ t = { s with peer := t.peer, lif := { s.lif with replies := t.lif.replies, tx := t.lif.tx } }
        ∧ (∀ event, s.lif.tx.choice = some (.full event) →
            t.peer = { s.peer with repeats := 0 } ∧ t.lif.replies = s.lif.replies)
        ∧ (s.lif.tx.choice = some .short →
            t.peer = { s.peer with repeats := min (s.peer.repeats + 1) 9 } ∧ t.lif.replies = s.lif.replies)
        ∧ (∀ r rest, s.lif.tx.choice = some .reply → s.lif.replies = r :: rest →
            t.peer = s.peer ∧ t.lif.replies = rest)
        ∧ (t.lif.replies ≠ [] → t.lif.tx = ⟨.waiting, some .reply, false, none⟩)
        ∧ (t.lif.replies = [] → t.peer.latch = true → t.lif.tx = ⟨.waiting, some (.full true), false, none⟩)
        ∧ (t.lif.replies = [] → t.peer.latch = false → t.peer.due = true → t.lif.tx = ⟨.waiting,
            some (if t.peer.lastFull ≠ some t.peer.posting ∨ 9 ≤ t.peer.repeats then .full false else .short), false, none⟩)
        ∧ (t.lif.replies = [] → t.peer.latch = false → t.peer.due = false → t.lif.tx = ⟨.idle, none, false, none⟩))

/-- Every frame is received as it was sent: the bits of a frame's bytes, taken one by one by a classifier in the frame that
its start opened, leave the frame complete, and judged the frame sent (R174 to R177). -/
def Obligations.FrameIsReceivedAsSent : Prop :=
  (∀ (kind source dest : Byte) (payload : List Byte), payload.length ≤ 160 → ∃ p,
    ((frameBytes (.full kind source dest payload)).flatMap byteBits).foldl (fun q b => addBit b q) (openFrame false) = p
    ∧ isComplete p = true ∧ frameOf p = some (.full kind source dest payload))
  ∧ ∀ n : Byte, ∃ p,
    ((frameBytes (.short n)).flatMap byteBits).foldl (fun q b => addBit b q) (openFrame true) = p
    ∧ isComplete p = true ∧ frameOf p = some (.short n)

/-- A posting in its ranges, spelled in its 16 bytes, is read back as it was (R20, R28, Layouts: Posting payload). -/
def Obligations.PostingIsReadAsWritten : Prop :=
  ∀ p : Posting, p.programme ≤ 7 → p.openSeq < 2 ^ 32 → p.lastVerdict.code ≤ 4 →
    (∀ b : Byte, p.acoustic = .other b → 2 ≤ b.toNat) →
    p.listenAge ≤ 255 → p.airAge ≤ 255 → p.demand ≤ 255 →
    (postingBytes p).length = 16 ∧ postingOf (postingBytes p) = some p

/-- A record image closed by its CRC word and written into its slot is a valid record of its sequence, as long as its
presence set makes it (R156, R157, Layouts: Record header and Closing word). -/
def Obligations.StoredRecordIsValid : Prop :=
  ∀ r : OpenRecord, 1 ≤ r.seq → r.seq < 2 ^ 32 - 1 → r.serial.length ≤ 20 → r.stamp.length = 4 →
    (closeRecord (recordImage r)).length = recordLength (presenceOf r)
    ∧ recordLength (presenceOf r) ≤ 144
    ∧ slotCond (slotOf r.seq)
        (closeRecord (recordImage r) ++ List.replicate (144 - recordLength (presenceOf r)) 0xFF)
      = .valid r.seq (closeRecord (recordImage r))

/-! ## Running in (R41 to R60) -/

/-- RAMP_STEP in a RAMP, STOP or DWELL segment with no hold but a POWER of the step before (R45, R46, R50 to R53, R58). A
RAMP moves toward its target, a STOP toward 0, and a DWELL away from its target toward it: the setpoint moves one step size
and never past the target; an increase that the power check withholds leaves it, adds POWER, counts 20 ms of power-hold time
and raises POWER_WAIT once in the cycle past the power-wait limit; a RAMP or STOP ends at the step where the commanded speed
is the target. A DWELL at its target counts 20 ms, checks the tracking, which at the hundredth count raises SPEED_TRACK once
in the segment and stops the run-in where the class is unmasked (R59), and ends at its duration (the check comes before the
end: assumption 18). The class and demand posted are those of the speed commanded after the step (assumption 38), and S and
allowed are noted at every step (R51, R62; assumption 23). A change of the posted class sets the event-posting latch (R20,
R21). -/
def Obligations.RampStepMovesTheSetpoint : Prop :=
  (∀ (s : State) (target : Nat), s.boot ≠ .held → freeToMove s →
    (segKind s = .ramp ∧ target = (segOf s).target ∨ segKind s = .stop ∧ target = 0
      ∨ segKind s = .dwell ∧ target = (segOf s).target ∧ s.run.cmd ≠ target) →
    ∃ t next, exec .rampStep s = .next t
      ∧ next = (if s.run.cmd < target then min (s.run.cmd + ((segOf s).rate + 25) / 50) target
          else max (s.run.cmd - ((segOf s).rate + 25) / 50) target)
      ∧ (withheld s next = true → s.run.cmd < target →
          t.run.cmd = s.run.cmd ∧ t.run.state = .held ∧ t.run.holds = ⟨true, false, false, false⟩
          ∧ t.run.powerMs = s.run.powerMs + 20 ∧ t.run.seg = s.run.seg ∧ t.run.dwellMs = s.run.dwellMs
          ∧ t.run.trackCount = 0
          ∧ ((progOf s).powerWaitLimit * 100 < s.run.powerMs + 20 → s.run.powerWaitMark = false →
              t.run.powerWaitMark = true ∧ t.dev = (takeDev ⟨.powerWait, s.run.seg,
                min ((s.run.powerMs + 20) / 100) 65535, (progOf s).powerWaitLimit⟩ s).dev)
          ∧ (s.run.powerMs + 20 ≤ (progOf s).powerWaitLimit * 100 ∨ s.run.powerWaitMark = true →
              t.run.powerWaitMark = s.run.powerWaitMark ∧ t.dev = s.dev))
      ∧ (withheld s next = false ∨ target ≤ s.run.cmd → t.run.powerMs = s.run.powerMs ∧ t.dev = s.dev
          ∧ (next ≠ target ∨ segKind s = .dwell →
              t.run.cmd = next ∧ t.run.state = .segment ∧ t.run.holds = noHolds ∧ t.run.seg = s.run.seg
              ∧ t.run.dwellMs = s.run.dwellMs ∧ t.run.trackCount = 0 ∧ t.run.segsDone = s.run.segsDone)
          ∧ (next = target → segKind s ≠ .dwell → segmentEnded s t))
      ∧ t.peer.posting.acoustic = (if s.cfg.station.quietLimit < t.run.cmd then .loud else .quiet)
      ∧ t.peer.posting.demand = demandOf s.run.torque t.run.cmd s.cfg.station.stationCap
      ∧ t.run.lastSum = demandSum s ∧ t.run.lastAllowed = allowedPower s ∧ latchedOn s t
      ∧ t.sca = s.sca ∧ t.store = s.store ∧ t.cfg = s.cfg ∧ t.peer.table = s.peer.table)
  ∧ ∀ (s : State) (diff : Nat), s.boot ≠ .held → freeToMove s → segKind s = .dwell → s.run.cmd = (segOf s).target →
    diff = ((s.run.measured : Int) - (s.run.cmd : Int)).natAbs → ∃ t trips, exec .rampStep s = .next t
      ∧ trips = ((progOf s).trackTolerance < diff ∧ 99 ≤ s.run.trackCount ∧ inSet s.run.trackMarks s.run.seg = false)
      ∧ t.run.lastSum = demandSum s ∧ t.run.lastAllowed = allowedPower s ∧ latchedOn s t
      ∧ (trips → t.dev = (takeDev ⟨.speedTrack, s.run.seg, diff, (progOf s).trackTolerance⟩ s).dev
          ∧ t.run.trackMarks = addTo s.run.trackMarks s.run.seg
          ∧ (maskedClass s .speedTrack = false → t.run.state = .stopping ∧ t.run.endReason = .trackStop
              ∧ t.run.seg = s.run.seg ∧ t.run.segsDone = s.run.segsDone ∧ t.run.holds = noHolds))
      ∧ (¬ trips → t.dev = s.dev ∧ t.run.trackMarks = s.run.trackMarks)
      ∧ (¬ trips ∨ maskedClass s .speedTrack = true →
          ((segOf s).duration * 100 ≤ s.run.dwellMs + 20 → segmentEnded s t)
          ∧ (s.run.dwellMs + 20 < (segOf s).duration * 100 →
              t.run.state = .segment ∧ t.run.holds = noHolds ∧ t.run.cmd = s.run.cmd ∧ t.run.seg = s.run.seg
              ∧ t.run.segsDone = s.run.segsDone ∧ t.run.dwellMs = s.run.dwellMs + 20
              ∧ t.run.trackCount
                = (if (progOf s).trackTolerance < diff then min (s.run.trackCount + 1) 100 else 0)))

/-- The next segment entered at the ramp step at which a RAMP that stands at its target ends (R44, R49): the pointer, dwell
time, track count and stage at their starting values; a segment of the other direction under REVERSAL with the commanded
speed 0 and the direction kept, or turned at once where both speeds are 0; LEAK told to arm at the first segment with the
leak-start flag (R115); a SWEEP deferred, at Vq at most, with LSN claiming or deferring (R65). Then the holds of a ramp step
(R48, R49, R54, R55): under REVERSAL the pinion must stand before the segment goes on; under DEFER a SWEEP stays where it
is; YIELD comes with the yield condition, cuts the speed to Vq and is posted, and goes when the condition fails or the yield
budget is used up. With a yield budget of 0 the station never yields (03_running_in.md, before R54). A change of the posted
class, listen state or yielding flag sets the event-posting latch (R20, R21). -/
def Obligations.SegmentsAreEnteredAndHeld : Prop :=
  (∀ s : State, s.boot ≠ .held → freeToMove s → segKind s = .ramp → s.run.cmd = (segOf s).target →
    s.run.seg + 1 < (progOf s).segCount → ∃ t g, exec .rampStep s = .next t
      ∧ g = (progOf s).segments.getD (s.run.seg + 1) segmentZero
      ∧ t.run.seg = s.run.seg + 1 ∧ t.run.dwellMs = 0 ∧ t.run.trackCount = 0 ∧ t.run.stage = .deferred
      ∧ (t.run.state = .held ↔ t.run.holds ≠ noHolds) ∧ inSegment t.run.state = true
      ∧ t.run.holds.power = false ∧ t.run.holds.yields = false
      ∧ (t.run.holds.reversal = true ↔ directionOfCode g.dirCode ≠ s.run.dir ∧ ¬ (s.run.cmd = 0 ∧ s.run.measured = 0))
      ∧ t.run.dir = (if s.run.cmd = 0 ∧ s.run.measured = 0 then directionOfCode g.dirCode else s.run.dir)
      ∧ (t.run.holds.defer = true ↔ kindOfCode g.kindCode = .sweep)
      ∧ t.run.cmd = (if t.run.holds.reversal then 0
          else if kindOfCode g.kindCode = .sweep then min s.run.cmd s.cfg.station.quietLimit else s.run.cmd)
      ∧ (g.leakStart = true → s.run.leakTold = false → t.run.leakTold = true ∧ armingTold s t)
      ∧ (g.leakStart = false ∨ s.run.leakTold = true → t.leak = s.leak ∧ t.run.leakTold = s.run.leakTold)
      ∧ (kindOfCode g.kindCode = .sweep → s.lsn.state = .inactive →
          t.lsn.state = (if neighbourClaims s then .deferring else .claiming)
          ∧ t.lsn.claimAge = 0 ∧ t.lsn.deferralMs = 0 ∧ t.lsn.forced = false)
      ∧ (kindOfCode g.kindCode ≠ .sweep → t.lsn = s.lsn)
      ∧ t.cyc = s.cyc ∧ t.vib = s.vib ∧ t.sca = s.sca ∧ t.store = s.store ∧ t.dev = s.dev ∧ latchedOn s t)
  ∧ (∀ s : State, yieldCondition s = true ↔
      (segKind s = .ramp ∨ segKind s = .dwell) ∧ (segOf s).yieldable = true
      ∧ s.cfg.station.quietLimit < (segOf s).target ∧ (∃ e ∈ acousticPeers s, e.post.listen = .listen)
      ∧ s.run.yieldExhausted = false ∧ 0 < s.cfg.station.yieldBudget)
  ∧ ∀ s : State, s.boot ≠ .held → inSegment s.run.state = true → holdLaw s → ∃ t, exec .rampStep s = .next t
    ∧ latchedOn s t
    ∧ (s.run.holds.reversal = true → s.run.measured ≠ 0 →
        t.run.state = .held ∧ t.run.holds.reversal = true ∧ t.run.cmd = 0 ∧ t.run.dir = s.run.dir ∧ t.run.seg = s.run.seg
        ∧ t.run.dwellMs = s.run.dwellMs ∧ t.run.stage = s.run.stage ∧ t.run.trackCount = 0)
    ∧ (s.run.holds.reversal = true → s.run.measured = 0 → s.run.holds.defer = true →
        t.run.holds.reversal = false ∧ t.run.dir = segDir s ∧ t.run.cmd = 0 ∧ t.run.state = .held ∧ t.run.seg = s.run.seg)
    ∧ (s.run.holds.reversal = true → s.run.measured = 0 → s.run.holds.defer = false → s.run.holds.yields = false →
        yieldCondition s = false → segKind s = .ramp → ((segOf s).rate + 25) / 50 < (segOf s).target →
        withheld s (((segOf s).rate + 25) / 50) = false → 0 < ((segOf s).rate + 25) / 50 →
        t.run.holds = noHolds ∧ t.run.dir = segDir s ∧ t.run.cmd = ((segOf s).rate + 25) / 50 ∧ t.run.state = .segment)
    ∧ (s.run.holds.defer = true → s.run.holds.reversal = false → segKind s = .sweep →
        t.run.state = .held ∧ t.run.holds.defer = true ∧ t.run.cmd = s.run.cmd ∧ t.run.stage = s.run.stage
        ∧ t.run.seg = s.run.seg ∧ t.run.dir = s.run.dir)
    ∧ (yieldCondition s = true → s.run.yieldMs + 20 < s.cfg.station.yieldBudget * 100 →
        t.run.state = .held ∧ t.run.holds.yields = true ∧ t.peer.posting.yielding = true
        ∧ t.run.cmd = min s.run.cmd s.cfg.station.quietLimit ∧ t.peer.posting.acoustic = .quiet
        ∧ t.run.yieldMs = s.run.yieldMs + 20 ∧ t.run.seg = s.run.seg ∧ t.run.dwellMs = s.run.dwellMs
        ∧ (s.run.holds.yields = false → t.peer.latch = true))
    ∧ (yieldCondition s = true → s.cfg.station.yieldBudget * 100 ≤ s.run.yieldMs + 20 →
        t.run.yieldExhausted = true ∧ t.run.holds.yields = false ∧ t.peer.posting.yielding = false
        ∧ t.run.yieldMs = s.run.yieldMs + 20 ∧ t.run.seg = s.run.seg ∧ t.dev = s.dev)
    ∧ (yieldCondition s = false → t.run.holds.yields = false ∧ t.peer.posting.yielding = false
        ∧ t.run.yieldMs = s.run.yieldMs ∧ (s.run.holds.yields = true → t.peer.latch = true))

/-- RAMP_STEP in a SWEEP segment with no hold but a POWER of the step before (R47): APPROACH moves toward the start speed
and becomes SWEEPING where it is reached; SWEEPING moves toward the end speed; a withheld increase leaves the stage. At the
end speed LSN returns to NONE, VIB assesses at once, a REPEAT re-enters the SWEEP deferred and at Vq at most, and a DONE
ends the segment (R46, R93, R95); the noise summary and the deviation section go into the open record, and a checkpoint is
requested (R8, R95). A change of the posted class or listen state sets the event-posting latch (R20, R21). -/
def Obligations.SweepRunsByStages : Prop :=
  ∀ s : State, s.boot ≠ .held → freeToMove s → segKind s = .sweep →
    ∃ t, exec .rampStep s = .next t ∧ latchedOn s t
      ∧ (s.run.stage = .deferred ∨ s.run.stage = .assessing → t.run.cmd = s.run.cmd ∧ t.run.stage = s.run.stage
          ∧ t.run.seg = s.run.seg ∧ t.lsn = s.lsn ∧ t.vib = s.vib)
      ∧ ∀ target next, (s.run.stage = .approach ∧ target = (segOf s).startSpeed
            ∨ s.run.stage = .sweeping ∧ target = (segOf s).endSpeed) →
          next = (if s.run.cmd < target then min (s.run.cmd + ((segOf s).rate + 25) / 50) target
            else max (s.run.cmd - ((segOf s).rate + 25) / 50) target) →
          (withheld s next = true → s.run.cmd < target →
            t.run.cmd = s.run.cmd ∧ t.run.stage = s.run.stage ∧ t.run.holds = ⟨true, false, false, false⟩
            ∧ t.run.state = .held ∧ t.run.seg = s.run.seg ∧ t.lsn = s.lsn ∧ t.vib = s.vib)
          ∧ (withheld s next = false ∨ target ≤ s.run.cmd →
            (s.run.stage = .approach ∨ next ≠ target →
              t.run.cmd = next ∧ t.run.state = .segment ∧ t.run.seg = s.run.seg
              ∧ t.run.stage = (if next = target then .sweeping else s.run.stage)
              ∧ t.lsn = s.lsn ∧ t.vib = s.vib ∧ t.dev = s.dev ∧ t.cyc = s.cyc ∧ t.store = s.store)
            ∧ (s.run.stage = .sweeping → next = target → listenLaw s → s.lsn.state = .listening → ∃ u again,
              assessSweep s = some (u, again) ∧ t.vib = u.vib ∧ t.dev = u.dev
              ∧ t.lsn.totalDeferralMs = s.lsn.totalDeferralMs + s.lsn.deferralMs
              ∧ (again = false → segmentEnded s t)
              ∧ (again = true → s.run.dir = segDir s →
                  t.run.seg = s.run.seg ∧ t.run.segsDone = s.run.segsDone ∧ t.run.stage = .deferred
                  ∧ t.run.state = .held ∧ t.run.holds = ⟨false, false, true, false⟩
                  ∧ t.run.cmd = min target s.cfg.station.quietLimit
                  ∧ t.lsn.state = (if neighbourClaims s then .deferring else .claiming) ∧ t.lsn.claimAge = 0)
              ∧ (∀ r, s.cyc.record = some r → inCycle s.cyc.station = true → ∃ r', t.cyc.record = some r'
                  ∧ r'.noise = u.vib.summary ∧ r'.dev = devCopy u.dev ∧ r'.cycleTime = cycleTime s ∧ r'.final = r.final
                  ∧ (s.store.state = .ready → s.supplyWarning = false →
                      (swapOf s.store false (requestOf .checkpoint r')).gen < spentSeq →
                      t.store.swap = some (swapOf s.store false (requestOf .checkpoint r'))))))

/-- RAMP_STEP in STOPPING (R60): the setpoint falls by the step size of the abort ramp rate, without a power check; of
the rest only the posted demand and class follow it, and S and allowed are noted, as at every ramp step (R62,
assumption 23). The step that finds both the commanded and the measured speed at 0 takes RUN to COMPLETE with its
section written (R61), CYC told, which closes the cycle where every job is at rest and otherwise requests a checkpoint
(R8, R10), and LEAK told to arm if it is still to be and the end reason is one of a run-in that ended by itself. That
the test for COMPLETE is made at the start of the step is the model's choice (assumption 22). A change of a posted
state sets the event-posting latch (R20, R21). -/
def Obligations.StoppingStepFallsToComplete : Prop :=
  ∀ s : State, s.boot ≠ .held → s.run.state = .stopping →
    (0 < s.run.cmd ∨ 0 < s.run.measured → ∃ cmd acoustic,
      cmd = s.run.cmd - ((progOf s).abortRate + 25) / 50
      ∧ acoustic = (if s.cfg.station.quietLimit < cmd then Acoustic.loud else .quiet)
      ∧ exec .rampStep s = .next (leaveIdle { s with
          run := { s.run with
            cmd := cmd, trackCount := 0, rampLeft := 20, lastSum := demandSum s, lastAllowed := allowedPower s }
          peer := { s.peer with
            latch := s.peer.latch || decide (s.peer.posting.acoustic ≠ acoustic)
            posting := { s.peer.posting with
              demand := demandOf s.run.torque cmd s.cfg.station.stationCap
              acoustic := acoustic } } }))
    ∧ (s.run.cmd = 0 → s.run.measured = 0 → ∃ t, exec .rampStep s = .next t
      ∧ latchedOn s t
      ∧ t.run.state = .complete ∧ t.run.cmd = 0 ∧ t.run.rampLeft = 0 ∧ t.run.endReason = s.run.endReason
      ∧ t.run.lastSum = demandSum s ∧ t.run.lastAllowed = allowedPower s
      ∧ (∀ r, s.cyc.record = some r → ∃ r', t.cyc.record = some r' ∧ r'.seq = r.seq
          ∧ r'.runIn.endReason = s.run.endReason ∧ r'.runIn.segsDone = s.run.segsDone
          ∧ r'.runIn.maxTorque = s.run.maxTorque ∧ r'.runIn.time = min (cycleTime s) 65535
          ∧ (inCycle s.cyc.station = true → jobsAtRest { s with run := { s.run with state := .complete } } = true →
              r'.final = true ∧ r'.verdict = verdictOf s.cfg.station.severity s.dev.status
              ∧ (s.store.state ≠ .faulted → (swapOf s.store false (requestOf .final r')).gen < spentSeq →
                  t.cyc.station = .closing)
              ∧ (s.store.state = .ready → s.supplyWarning = false →
                  (swapOf s.store false (requestOf .final r')).gen < spentSeq →
                  t.store.swap = some (swapOf s.store false (requestOf .final r'))))
          ∧ (inCycle s.cyc.station = true → jobsAtRest { s with run := { s.run with state := .complete } } = false →
              r'.final = r.final ∧ t.cyc.station = s.cyc.station ∧ r'.dev = devCopy s.dev
              ∧ (s.store.state = .ready → s.supplyWarning = false →
                  (swapOf s.store false (requestOf .checkpoint r')).gen < spentSeq →
                  t.store.swap = some (swapOf s.store false (requestOf .checkpoint r')))))
      ∧ (s.run.leakTold = false → s.run.endReason ∈ [.profileEnd, .fatalStop, .trackStop] →
          t.run.leakTold = true ∧ armingTold s t)
      ∧ (s.run.leakTold = true ∨ s.run.endReason ∈ [.abort, .standStop] → t.leak = s.leak))

/-- The measured speed (R41): an index pulse sets it to floor(60 000 000 / period), saturating at 65 535, or starts a period
where no index pulse stands before it; after 1.5 s without one it is 0 and the next pulse starts a period. -/
def Obligations.IndexPulseGivesTheMeasuredSpeed : Prop :=
  ∀ s : State, s.boot ≠ .held →
    (∀ us t, s.run.lastIndex = some t → t < us → ∃ vib,
      exec (.indexPulse us) s = .next (leaveIdle { s with
        run := { s.run with measured := min (60000000 / (us - t)) 65535, lastIndex := some us, sinceIndex := 0 }
        vib := vib })
      ∧ (s.vib.state ≠ .sampling → vib = s.vib))
    ∧ (∀ us, s.run.lastIndex = none → ∃ vib,
      exec (.indexPulse us) s = .next (leaveIdle { s with
        run := { s.run with measured := 0, lastIndex := some us, sinceIndex := 0 }
        vib := vib })
      ∧ (s.vib.state ≠ .sampling → vib = s.vib))
    ∧ exec .indexTimeout s = .next (leaveIdle { s with run := { s.run with measured := 0, lastIndex := none } })

/-- A fall of the drive-ready input (R58, R59): in SEGMENT or HELD it sends SPEED_TRACK with the measured speed, and where
the class is unmasked it zeroes the commanded speed at once and takes RUN to STOPPING with end reason TRACK_STOP; in any
other state it changes the input alone. A change of a posted state sets the event-posting latch (R20, R21). -/
def Obligations.DriveReadyFallStopsTheRunIn : Prop :=
  ∀ s : State, s.boot ≠ .held →
    (inSegment s.run.state = false →
      exec .driveReadyFall s = .next (leaveIdle { s with pins := { s.pins with driveReady := false } }))
    ∧ (inSegment s.run.state = true → ∃ t, exec .driveReadyFall s = .next t
      ∧ t.dev = (takeDev ⟨.speedTrack, s.run.seg, s.run.measured, 0⟩ s).dev ∧ t.run.driveLost = true
      ∧ t.cyc = s.cyc ∧ t.leak = s.leak ∧ t.store = s.store
      ∧ (maskedClass s .speedTrack = true → t.run = { s.run with driveLost := true } ∧ t.lsn = s.lsn ∧ t.vib = s.vib)
      ∧ (maskedClass s .speedTrack = false → t.run.state = .stopping ∧ t.run.endReason = .trackStop ∧ t.run.cmd = 0
          ∧ t.run.holds = noHolds ∧ t.lsn.state = .inactive ∧ t.vib.state = .idle
          ∧ t.peer.posting.demand = 0 ∧ t.peer.posting.acoustic = .quiet ∧ t.peer.posting.yielding = false ∧ latchedOn s t))

/-- OIL_HISTORY_APPEND (R57): the latest OILT code joins the ring of 11, the oldest leaving a full one; an append that
leaves 11 entries, the first to do so among them, is judged: a rise above the limit sends OIL_RISE_RATE once in the cycle.
Outside a run-in, or before any OILT sample, it changes nothing. -/
def Obligations.OilHistoryTakesTheLatestCode : Prop :=
  ∀ s : State, s.boot ≠ .held →
    (inRunIn s.run.state = false → exec .oilHistoryAppend s = .next (leaveIdle s))
    ∧ (s.run.oilCode = none → exec .oilHistoryAppend s = .next (leaveIdle s))
    ∧ (∀ code, inRunIn s.run.state = true → s.run.oilCode = some code →
        (s.run.oilHistory.length < 10 → exec .oilHistoryAppend s
          = .next (leaveIdle { s with run := { s.run with oilHistory := s.run.oilHistory ++ [code] } }))
        ∧ (∀ oldest rest, s.run.oilHistory = oldest :: rest → rest.length = 9 →
            (code ≤ oldest + (progOf s).oilRiseLimit ∨ s.run.oilRiseMark = true → exec .oilHistoryAppend s
              = .next (leaveIdle { s with run := { s.run with oilHistory := s.run.oilHistory ++ [code] } }))
            ∧ (oldest + (progOf s).oilRiseLimit < code → s.run.oilRiseMark = false → exec .oilHistoryAppend s
              = .next (leaveIdle { s with
                  run := { s.run with oilHistory := s.run.oilHistory ++ [code], oilRiseMark := true }
                  dev := (takeDev ⟨.oilRiseRate, s.run.seg, code - oldest, (progOf s).oilRiseLimit⟩ s).dev })))
        ∧ (∀ oldest rest, s.run.oilHistory = oldest :: rest → rest.length = 10 →
            (code ≤ rest.getD 0 0 + (progOf s).oilRiseLimit ∨ s.run.oilRiseMark = true → exec .oilHistoryAppend s
              = .next (leaveIdle { s with run := { s.run with oilHistory := rest ++ [code] } }))
            ∧ (rest.getD 0 0 + (progOf s).oilRiseLimit < code → s.run.oilRiseMark = false → exec .oilHistoryAppend s
              = .next (leaveIdle { s with
                  run := { s.run with oilHistory := rest ++ [code], oilRiseMark := true }
                  dev := (takeDev ⟨.oilRiseRate, s.run.seg, code - rest.getD 0 0, (progOf s).oilRiseLimit⟩ s).dev }))))

/-! ## The noise check and the slow converter (R81 to R106) -/

/-- COUNTING_PULSE and CONVERSION_COMPLETE (R82, R83): a pulse in SAMPLING with a revolution open raises its count and kicks
a conversion of the shadow channel, or sets the skip mark where the converter is busy; a conversion of the open revolution
adds x² to its channel's sum, saturating, and the shadow channel becomes the other; one of a discarded revolution is
dropped. That a CONVERSION_COMPLETE with no conversion in flight changes nothing is the model's choice (assumption 1). -/
def Obligations.CountingPulseKicksAConversion : Prop :=
  ∀ s : State, s.boot ≠ .held →
    (s.vib.state ≠ .sampling ∨ s.vib.openRev = none → exec .countingPulse s = .next (leaveIdle s))
    ∧ (∀ r, s.vib.state = .sampling → s.vib.openRev = some r →
        (s.vib.conv = none → exec .countingPulse s = .next (leaveIdle { s with vib := { s.vib with
          openRev := some { r with pulses := min (r.pulses + 1) 65535 }
          conv := some ⟨s.vib.shadow, .opened⟩ } }))
        ∧ (s.vib.conv ≠ none → exec .countingPulse s = .next (leaveIdle { s with vib := { s.vib with
          openRev := some { r with pulses := min (r.pulses + 1) 65535, skipped := true } } })))
    ∧ (∀ code : BitVec 12, s.vib.conv = none → exec (.conversionComplete code) s = .next (leaveIdle s))
    ∧ (∀ (code : BitVec 12) ch, s.vib.conv = some ⟨ch, .discarded⟩ →
        exec (.conversionComplete code) s = .next (leaveIdle { s with vib := { s.vib with conv := none } }))
    ∧ (∀ (code : BitVec 12) r, s.vib.openRev = some r →
        (s.vib.conv = some ⟨.v1, .opened⟩ → exec (.conversionComplete code) s = .next (leaveIdle { s with vib := { s.vib with
          conv := none
          openRev := some { r with sum1 := min (r.sum1 + ((code.toNat : Int) - 2048).natAbs ^ 2) (2 ^ 32 - 1) }
          shadow := .v2 } }))
        ∧ (s.vib.conv = some ⟨.v2, .opened⟩ → exec (.conversionComplete code) s = .next (leaveIdle { s with vib := { s.vib with
          conv := none
          openRev := some { r with sum2 := min (r.sum2 + ((code.toNat : Int) - 2048).natAbs ^ 2) (2 ^ 32 - 1) }
          shadow := .v1 } })))

/-- An index pulse in SAMPLING closes the open revolution and opens a new one, with the shadow channel at V1 (R84). With no
conversion of the open revolution in flight it is judged at once; with one in flight it waits, and is judged when that
conversion completes, whose square is first added to its channel's sum, with the shadow channel left as the index pulse set
it (R83). Judged (R86 to R89), each failed test raises its pass and cycle count; a revolution that fails none is kept, which
both kept counts show; in band it raises both cells of its band, whose peaks become the greater of peak and RMS level, and
out of band it raises the two out-of-band counts and enters no cell. The square root in the RMS level is the greatest
integer whose square does not exceed its argument, for every sum of squares that 32 bits hold (R87). -/
def Obligations.IndexPulseJudgesTheRevolution : Prop :=
  (∀ n : Nat, n < 2 ^ 32 → isqrt n * isqrt n ≤ n ∧ n < (isqrt n + 1) * (isqrt n + 1))
  ∧ (∀ (us : Nat) (r : Rev) (s : State), s.boot ≠ .held → s.vib.state = .sampling → s.vib.openRev = some r →
    s.vib.conv.map Conv.owner ≠ some .opened →
    s.vib.cells1.length = 32 → s.vib.cells2.length = 32 → r.openedAt < us → us - r.openedAt < 2 ^ 32 →
    ∃ t, exec (.indexPulse us) s = .next t
      ∧ t.vib.openRev = some ⟨0, 0, 0, false, s.lsn.contamination, us⟩ ∧ t.vib.shadow = .v1 ∧ t.vib.state = .sampling
      ∧ t.vib.conv = s.vib.conv ∧ t.vib.closedRev = s.vib.closedRev
      ∧ revJudged s r (us - r.openedAt) t.vib)
  ∧ (∀ (us : Nat) (r : Rev) (ch : FastChannel) (s : State), s.boot ≠ .held → s.vib.state = .sampling →
    s.vib.openRev = some r → s.vib.conv = some ⟨ch, .opened⟩ → r.openedAt ≤ us → ∃ run,
      exec (.indexPulse us) s = .next (leaveIdle { s with
        run := run
        vib := { s.vib with
          openRev := some ⟨0, 0, 0, false, s.lsn.contamination, us⟩
          closedRev := some (r, min (us - r.openedAt) (2 ^ 32 - 1))
          conv := some ⟨ch, .closed⟩
          shadow := .v1 } }))
  ∧ ∀ (code : BitVec 12) (ch : FastChannel) (r : Rev) (period : Nat) (s : State), s.boot ≠ .held →
    s.vib.conv = some ⟨ch, .closed⟩ → s.vib.closedRev = some (r, period) → 0 < period →
    s.vib.cells1.length = 32 → s.vib.cells2.length = 32 →
    ∃ vib, exec (.conversionComplete code) s = .next (leaveIdle { s with vib := vib })
      ∧ vib.conv = none ∧ vib.closedRev = none ∧ vib.openRev = s.vib.openRev ∧ vib.shadow = s.vib.shadow
      ∧ vib.state = s.vib.state
      ∧ (ch = .v1 → revJudged s
          { r with sum1 := min (r.sum1 + ((code.toNat : Int) - 2048).natAbs ^ 2) (2 ^ 32 - 1) } period vib)
      ∧ (ch = .v2 → revJudged s
          { r with sum2 := min (r.sum2 + ((code.toNat : Int) - 2048).natAbs ^ 2) (2 ^ 32 - 1) } period vib)

/-- VIB's assessment at the end of a sweep (R91 to R95, R98). DEV takes, in this order, the noise class of each cell whose
peak exceeds its limit with its mark clear, V1's cells before V2's and lower bands first, NOISE_COVERAGE where coverage
fails with no repeat left, and CONTAMINATED where the pass has more contaminated than kept revolutions, once in the cycle.
The outcome is REPEAT where coverage fails with a repeat left and DONE otherwise. The summary holds the worst band of each
channel with its margin, the covered bands and the counts of the cycle, and goes into the open record; VIB is in IDLE with
every revolution discarded. -/
def Obligations.SweepIsAssessed : Prop :=
  ∀ s : State, s.vib.state ≠ .idle → s.vib.cells1.length = 32 → s.vib.cells2.length = 32 →
    ∃ t again p uncovered over1 over2, assessSweep s = some (t, again)
      ∧ p = progOf s
      ∧ uncovered = ((List.range 32).filter (fun b => decide (p.lo ≤ b ∧ b ≤ p.hi
          ∧ ((s.vib.cells1.getD b cellZero).count < p.nmin ∨ (s.vib.cells2.getD b cellZero).count < p.nmin)))).length
      ∧ over1 = (List.range 32).filter (fun b => decide (p.curve1.getD b 0 < (s.vib.cells1.getD b cellZero).peak
          ∧ (s.vib.cells1.getD b cellZero).raised = false))
      ∧ over2 = (List.range 32).filter (fun b => decide (p.curve2.getD b 0 < (s.vib.cells2.getD b cellZero).peak
          ∧ (s.vib.cells2.getD b cellZero).raised = false))
      ∧ t.dev = ((over1.map (fun b => (⟨.noiseV1, 256 + b, (s.vib.cells1.getD b cellZero).peak, p.curve1.getD b 0⟩ : DevEvent))
            ++ over2.map (fun b => (⟨.noiseV2, 512 + b, (s.vib.cells2.getD b cellZero).peak, p.curve2.getD b 0⟩ : DevEvent))
            ++ (if 0 < uncovered ∧ p.rmax ≤ s.vib.repeatCount then
                  [(⟨.noiseCoverage, s.run.seg, uncovered, p.nmin⟩ : DevEvent)] else [])
            ++ (if s.vib.pass.kept < s.vib.pass.contaminated ∧ s.vib.contaminatedMark = false then
                  [(⟨.contaminated, s.run.seg, s.vib.pass.contaminated, s.vib.pass.kept⟩ : DevEvent)] else [])).foldl
          (fun u e => takeDev e u) s).dev
      ∧ (again = true ↔ 0 < uncovered ∧ s.vib.repeatCount < p.rmax)
      ∧ (again = true → t.vib.repeatCount = s.vib.repeatCount + 1
          ∧ t.vib.sweepRepeats = min (s.vib.sweepRepeats + 1) 255 ∧ t.vib.listenDone = s.vib.listenDone)
      ∧ (again = false → t.vib.repeatCount = 0 ∧ t.vib.sweepRepeats = s.vib.sweepRepeats
          ∧ t.vib.listenDone = min (s.vib.listenDone + 1) 16)
      ∧ t.vib.contaminatedMark = (s.vib.contaminatedMark || decide (s.vib.pass.kept < s.vib.pass.contaminated))
      ∧ t.vib.state = .idle ∧ t.vib.openRev = none ∧ t.vib.closedRev = none
      ∧ t.vib.pass = s.vib.pass ∧ t.vib.cycle = s.vib.cycle
      ∧ (∀ b, b < 32 →
          t.vib.cells1.getD b cellZero = { s.vib.cells1.getD b cellZero with
            raised := (s.vib.cells1.getD b cellZero).raised
              || decide (p.curve1.getD b 0 < (s.vib.cells1.getD b cellZero).peak) }
          ∧ t.vib.cells2.getD b cellZero = { s.vib.cells2.getD b cellZero with
            raised := (s.vib.cells2.getD b cellZero).raised
              || decide (p.curve2.getD b 0 < (s.vib.cells2.getD b cellZero).peak) })
      ∧ worstNamed s.vib.cells1 p.curve1 t.vib.summary.worstBand1 t.vib.summary.worstMargin1
      ∧ worstNamed s.vib.cells2 p.curve2 t.vib.summary.worstBand2 t.vib.summary.worstMargin2
      ∧ t.vib.summary.covered + uncovered = ((List.range 32).filter (fun b => decide (p.lo ≤ b ∧ b ≤ p.hi))).length
      ∧ t.vib.summary.contaminated = s.vib.cycle.contaminated ∧ t.vib.summary.slipped = s.vib.cycle.slipped
      ∧ t.vib.summary.skipped = s.vib.cycle.skipped ∧ t.vib.summary.sweepRepeats = t.vib.sweepRepeats
      ∧ t.vib.summary.listenDone = t.vib.listenDone
      ∧ t.cyc = { s.cyc with record := s.cyc.record.map (fun r => { r with noise := t.vib.summary }) }
      ∧ t.run = s.run ∧ t.lsn = s.lsn ∧ t.sca = s.sca ∧ t.leak = s.leak ∧ t.store = s.store ∧ t.peer = s.peer

/-- PHASE_BOUNDARY (R102, R106, R107): the pointer rises by one, or wraps from 31 to 0; a wrap with the flag set copies the
pending table into the active one before the entry is read; the entry's channel is converted, or nothing for IDLE. Two clauses are the
model's choice: that until the rota starts a boundary does nothing (assumption 1), and that a conversion still in flight at a
boundary is dropped (assumption 52). -/
def Obligations.PhaseBoundaryServesTheTable : Prop :=
  ∀ s : State, s.boot ≠ .held →
    (s.sca.rota = false → exec .phaseBoundary s = .next (leaveIdle s))
    ∧ (s.sca.rota = true → s.sca.pointer ≠ 31 → exec .phaseBoundary s = .next (leaveIdle { s with sca := { s.sca with
        pointer := s.sca.pointer + 1
        inFlight := slowOfCode (s.sca.active.getD (s.sca.pointer + 1) 0) } }))
    ∧ (s.sca.rota = true → s.sca.pointer = 31 → s.sca.pendingFlag = false →
        exec .phaseBoundary s = .next (leaveIdle { s with sca := { s.sca with
          pointer := 0
          inFlight := slowOfCode (s.sca.active.getD 0 0) } }))
    ∧ (s.sca.rota = true → s.sca.pointer = 31 → s.sca.pendingFlag = true → ∃ leak,
        exec .phaseBoundary s = .next (leaveIdle { s with
          sca := { s.sca with
            active := s.sca.pending
            pendingFlag := false
            pointer := 0
            inFlight := slowOfCode (s.sca.pending.getD 0 0) }
          leak := leak })
        ∧ (∀ c, (s.leak.circuit c).state ≠ .measure → leak.circuit c = s.leak.circuit c)
        ∧ (∀ c, (s.leak.circuit c).state = .measure →
            (leak.circuit c).startPrs = (s.leak.circuit c).startPrs
            ∧ (leak.circuit c).endPrs = (if droppedBy s.sca.active s.sca.pending (prsOf c) then []
                else (s.leak.circuit c).endPrs)
            ∧ (leak.circuit c).endAirt = (if droppedBy s.sca.active s.sca.pending (airtOf c) then []
                else (s.leak.circuit c).endAirt)))

/-- SLOW_CONVERSION_COMPLETE writes the channel's latest value and mark, and delivers the sample (R103, R104): a PRS sample
to its circuit, which in FILL goes to STABILISE at the test pressure (R122), in STABILISE and MEASURE is a gross leak below
the floor (R124), and in MEASURE enters the windows (R125); an AIRT sample to its circuit's windows in MEASURE (R125); a
TORQ sample to RUN, which keeps it and in a run-in raises TORQUE_HIGH once in a segment above its limit (R56), and an OILT
sample to RUN, which raises OIL_TEMP_HIGH once in a cycle (R57); either stops the run-in where its class is unmasked and
FATAL (R59). A circuit that leaves FILL posts no claim, which sets the event-posting latch (R20, R21). That the command
changes nothing where no conversion is in flight is the model's choice (assumption 1). -/
def Obligations.SlowSampleIsDelivered : Prop :=
  ∀ (code : BitVec 12) (s : State), s.boot ≠ .held →
    (s.sca.inFlight = none → exec (.slowConversionComplete code) s = .next (leaveIdle s))
    ∧ (∀ ch, s.sca.inFlight = some ch → ∃ t, exec (.slowConversionComplete code) s = .next t
        ∧ slowOf t.sca ch = ⟨code.toNat, true, 0⟩ ∧ t.sca.inFlight = none ∧ latchedOn s t
        ∧ (∀ d, d ≠ ch → slowOf t.sca d = slowOf s.sca d) ∧ t.sca.active = s.sca.active ∧ t.sca.pointer = s.sca.pointer
        ∧ (∀ c, ch ≠ prsOf c → ch ≠ airtOf c → circuitOf t c = circuitOf s c)
        ∧ (ch ≠ .torq → ch ≠ .oilt → t.run = s.run)
        ∧ (ch = .torq → ∃ torque, torque = ((code.toNat : Int) - 2048) * 2 ∧ t.run.torque = torque
          ∧ t.run.maxTorque = (if inRunIn s.run.state then max s.run.maxTorque torque.natAbs else s.run.maxTorque)
          ∧ (inRunIn s.run.state = true → (segOf s).torqueLimit < torque.natAbs →
              inSet s.run.torqueMarks s.run.seg = false →
              t.run.torqueMarks = addTo s.run.torqueMarks s.run.seg
              ∧ t.dev = (takeDev ⟨.torqueHigh, s.run.seg, torque.natAbs, (segOf s).torqueLimit⟩ s).dev
              ∧ (inSegment s.run.state = true → maskedClass s .torqueHigh = false → severityOf s .torqueHigh = .fatal →
                  t.run.state = .stopping ∧ t.run.endReason = .fatalStop ∧ t.run.holds = noHolds)
              ∧ (s.run.state = .stopping ∨ maskedClass s .torqueHigh = true ∨ severityOf s .torqueHigh ≠ .fatal →
                  t.run.state = s.run.state ∧ t.run.endReason = s.run.endReason ∧ t.run.holds = s.run.holds))
          ∧ (inRunIn s.run.state = false ∨ torque.natAbs ≤ (segOf s).torqueLimit
              ∨ inSet s.run.torqueMarks s.run.seg = true →
              t.dev = s.dev ∧ t.run.torqueMarks = s.run.torqueMarks ∧ t.run.state = s.run.state))
        ∧ (ch = .oilt → t.run.oilCode = some code.toNat
          ∧ t.run.maxOil = (if inRunIn s.run.state then max s.run.maxOil code.toNat else s.run.maxOil)
          ∧ (inRunIn s.run.state = true → (progOf s).oilLimit < code.toNat → s.run.oilTempMark = false →
              t.run.oilTempMark = true
              ∧ t.dev = (takeDev ⟨.oilTempHigh, s.run.seg, code.toNat, (progOf s).oilLimit⟩ s).dev
              ∧ (inSegment s.run.state = true → maskedClass s .oilTempHigh = false → severityOf s .oilTempHigh = .fatal →
                  t.run.state = .stopping ∧ t.run.endReason = .fatalStop ∧ t.run.holds = noHolds)
              ∧ (s.run.state = .stopping ∨ maskedClass s .oilTempHigh = true ∨ severityOf s .oilTempHigh ≠ .fatal →
                  t.run.state = s.run.state ∧ t.run.endReason = s.run.endReason ∧ t.run.holds = s.run.holds))
          ∧ (inRunIn s.run.state = false ∨ code.toNat ≤ (progOf s).oilLimit ∨ s.run.oilTempMark = true →
              t.dev = s.dev ∧ t.run.oilTempMark = s.run.oilTempMark ∧ t.run.state = s.run.state))
        ∧ (∀ c, ch = prsOf c → (circuitOf s c).state = .fill →
            ((paramsOf s c).testPressure ≤ code.toNat → (circuitOf t c).state = .stabilise
              ∧ (circuitOf t c).timer = (paramsOf s c).stabiliseMs ∧ (circuitOf t c).fillValve = false
              ∧ (circuitOf t c).noted = latest s (airtOf c)
              ∧ airPosted t c = .unclaimed
              ∧ (circuitOf t c).fillTime = (circuitOf s c).fillTime)
            ∧ (code.toNat < (paramsOf s c).testPressure → circuitOf t c = circuitOf s c))
        ∧ (∀ c, ch = prsOf c → (circuitOf s c).state = .stabilise ∨ (circuitOf s c).state = .measure →
            code.toNat < (paramsOf s c).grossFloor →
            (circuitOf t c).state = .vent ∧ (circuitOf t c).outcome = .gross
            ∧ (circuitOf t c).leakRate = (circuitOf s c).leakRate ∧ (circuitOf t c).timer = (paramsOf s c).ventMs
            ∧ t.dev = (takeDev ⟨.grossLeak, circuitNum c, code.toNat, (paramsOf s c).grossFloor⟩ s).dev)
        ∧ (∀ c, ch = prsOf c → (circuitOf s c).state = .stabilise → (paramsOf s c).grossFloor ≤ code.toNat →
            circuitOf t c = circuitOf s c ∧ t.dev = s.dev)
        ∧ (∀ c, ch = prsOf c → (circuitOf s c).state = .measure → (paramsOf s c).grossFloor ≤ code.toNat →
            (circuitOf t c).state = .measure ∧ t.dev = s.dev
            ∧ (circuitOf t c).startPrs = ((circuitOf s c).startPrs ++ [code.toNat]).take (max 8 (circuitOf s c).startPrs.length)
            ∧ ((circuitOf s c).endPrs.length = 8 → (circuitOf t c).endPrs = (circuitOf s c).endPrs.tail ++ [code.toNat])
            ∧ ((circuitOf s c).endPrs.length < 8 → (circuitOf t c).endPrs = (circuitOf s c).endPrs ++ [code.toNat]))
        ∧ (∀ c, ch = airtOf c → (circuitOf s c).state ≠ .measure → circuitOf t c = circuitOf s c)
        ∧ (∀ c, ch = airtOf c → (circuitOf s c).state = .measure → t.dev = s.dev
            ∧ (circuitOf t c).state = .measure ∧ (circuitOf t c).startPrs = (circuitOf s c).startPrs
            ∧ ((circuitOf s c).startAirt.length < 8 →
                (circuitOf t c).startAirt = (circuitOf s c).startAirt ++ [code.toNat])
            ∧ (8 ≤ (circuitOf s c).startAirt.length → (circuitOf t c).startAirt = (circuitOf s c).startAirt)
            ∧ ((circuitOf s c).endAirt.length = 8 →
                (circuitOf t c).endAirt = (circuitOf s c).endAirt.tail ++ [code.toNat])
            ∧ ((circuitOf s c).endAirt.length < 8 →
                (circuitOf t c).endAirt = (circuitOf s c).endAirt ++ [code.toNat])))

/-! ## The result store (R159 to R166, R197) -/

/-- SWAP_STEP_DONE and SWAP_END (R161 to R163). A verified step leads to the next, with its bytes on the swap page alone:
step 2 leaves the page erased, step 3 its header, steps 4 and 6 each slot of the current page below and above the position
copied byte for byte, an empty one not at all, and step 5 the image closed by its CRC word. A failed verify abandons the
swap, with a part of the failed step done and the swap page not current (which part is assumption 8), discards the pending
image and faults STORE with cause VERIFY; of the recovery swap it ends the scan (R169). The end
of a swap makes the swap page the current page of its pair, and of a FINAL it brings DONE with the verdict posted (R11); a
pending image's swap begins then, or waits for the supply warning to clear; the FINAL of sequence 2^32 - 2 ends in SPENT;
and the end of the recovery swap ends the scan. A change of the posted cycle state sets the event-posting latch (R20,
R21). -/
def Obligations.SwapRunsStepByStep : Prop :=
  ∀ (w : Swap) (s : State), s.boot ≠ .held → s.store.swap = some w → w.pos ≤ 6 →
    (w.step < 7 → (2 ≤ w.step) → ∃ flash, exec (.swapStepDone true) s = .next (leaveIdle { s with
        store := { s.store with flash := flash, swap := some { w with step := w.step + 1 } } })
      ∧ (∀ a, (a < pageBase w.pair w.side ∨ pageBase w.pair w.side + pageSize ≤ a) →
          readByte flash a = readByte s.store.flash a)
      ∧ (flashLaw s → w.pair ≤ 11 →
          (w.step = 2 → ∀ i, i < pageSize → readByte flash (pageBase w.pair w.side + i) = 0xFF)
          ∧ (w.step = 3 → readBytes flash (pageBase w.pair w.side) 16
              = be 4 0x0000FFFF ++ be 4 w.gen ++ be 1 w.pair ++ be 3 0 ++ crcBytes (be 4 w.gen ++ be 1 w.pair) ++ be 2 0)
          ∧ (w.step = 5 → (closeRecord w.req.image).length ≤ 144 →
              readBytes flash (slotAddr w.pair w.side w.pos) (closeRecord w.req.image).length = closeRecord w.req.image)
          ∧ ((∀ i, i < 1024 → w.step = 3 ∧ 16 ≤ i ∨ w.step = 4 ∧ (i < 16 ∨ 16 + 144 * w.pos ≤ i)
                ∨ w.step = 5 ∧ (i < 16 + 144 * w.pos ∨ 16 + 144 * (w.pos + 1) ≤ i)
                ∨ w.step = 6 ∧ i < 16 + 144 * (w.pos + 1) →
              readByte flash (pageBase w.pair w.side + i) = readByte s.store.flash (pageBase w.pair w.side + i)))
          ∧ (∀ src pos, (pairOf s.store w.pair).current = some src → w.side = src.other →
              w.step = 4 ∧ pos < w.pos ∨ w.step = 6 ∧ w.pos < pos ∧ pos ≤ 6 →
              readBytes flash (slotAddr w.pair w.side pos) 144
                = (if readBytes s.store.flash (slotAddr w.pair src pos) 4 = [0xFF, 0xFF, 0xFF, 0xFF] then
                    readBytes s.store.flash (slotAddr w.pair w.side pos) 144
                  else readBytes s.store.flash (slotAddr w.pair src pos) 144))
          ∧ ((pairOf s.store w.pair).current = none → w.step = 4 ∨ w.step = 6 → flash = s.store.flash)))
    ∧ (w.recovery = false → ∃ t, exec (.swapStepDone false) s = .next t
      ∧ t.store.swap = none ∧ t.store.pending = none ∧ t.store.state = .faulted ∧ t.store.cause = some .verify
      ∧ t.peer.posting.storeFault = true ∧ t.store.pairs = s.store.pairs
      ∧ latchedOn s t
      ∧ (lostFinal w s.store.pending = true → s.cyc.station = .closing → t.cyc.station = .done
          ∧ t.peer.posting.cycleState = .done
          ∧ t.peer.posting.lastVerdict = (s.cyc.record.map OpenRecord.verdict).getD .unset)
      ∧ (lostFinal w s.store.pending = false → t.cyc = s.cyc)
      ∧ (flashLaw s → stepCutOff w (pairOf s.store w.pair).current s.store.flash t.store.flash))
    ∧ (w.recovery = true → ∃ t, exec (.swapStepDone false) s = .next t
      ∧ t.store.swap = none ∧ t.store.state = .faulted ∧ t.store.cause = some .verify ∧ t.store.pairs = s.store.pairs
      ∧ t.peer.posting.storeFault = true ∧ t.boot = .up
      ∧ t.cyc.station = (if s.cfg.passed then .idle else .unconfigured)
      ∧ t.peer.posting.cycleState = t.cyc.station ∧ latchedOn s t
      ∧ (flashLaw s → stepCutOff w (pairOf s.store w.pair).current s.store.flash t.store.flash))
    ∧ (w.step = 7 → w.recovery = false → w.req.seq + 1 < spentSeq → ∃ t, exec .swapEnd s = .next t
      ∧ t.store.pairs = s.store.pairs.set w.pair ⟨some w.side, w.gen⟩
      ∧ t.store.flash = writeBytes s.store.flash (pageBase w.pair w.side) [0, 0, 0, 0]
      ∧ latchedOn s t
      ∧ (s.store.pending = none → t.store.swap = none ∧ t.store.state = .ready)
      ∧ (∀ q, s.store.pending = some q → s.supplyWarning = true →
          t.store.swap = none ∧ t.store.state = .ready ∧ t.store.pending = some q)
      ∧ (∀ q, s.store.pending = some q → s.supplyWarning = false → (swapOf t.store false q).gen < spentSeq →
          t.store.swap = some (swapOf t.store false q) ∧ t.store.state = .swapping ∧ t.store.pending = none)
      ∧ (w.req.kind = .final → s.cyc.station = .closing →
          (∀ q, s.store.pending = some q → s.supplyWarning = true ∨ (swapOf t.store false q).gen < spentSeq) →
          t.cyc.station = .done ∧ t.peer.posting.cycleState = .done
          ∧ t.peer.posting.lastVerdict = (s.cyc.record.map OpenRecord.verdict).getD .unset)
      ∧ (w.req.kind = .checkpoint →
          (∀ q, s.store.pending = some q → s.supplyWarning = true ∨ (swapOf t.store false q).gen < spentSeq) →
          t.cyc = s.cyc))
    ∧ (w.step = 7 → w.recovery = false → w.req.kind = .final → w.req.seq + 1 = spentSeq → ∃ t, exec .swapEnd s = .next t
      ∧ t.store.state = .faulted ∧ t.store.cause = some .spent ∧ t.store.swap = none ∧ t.store.pending = none
      ∧ t.store.pairs = s.store.pairs.set w.pair ⟨some w.side, w.gen⟩ ∧ t.peer.posting.storeFault = true
      ∧ latchedOn s t
      ∧ (s.cyc.station = .closing → t.cyc.station = .done ∧ t.peer.posting.cycleState = .done
          ∧ t.peer.posting.lastVerdict = (s.cyc.record.map OpenRecord.verdict).getD .unset))
    ∧ (w.step = 7 → w.recovery = true → ∃ t, exec .swapEnd s = .next t
      ∧ t.boot = .up ∧ t.cyc.station = (if s.cfg.passed then .idle else .unconfigured)
      ∧ t.peer.posting.cycleState = t.cyc.station ∧ latchedOn s t
      ∧ t.store.swap = none ∧ t.store.recovered = w.req.seq
      ∧ t.store.pairs = s.store.pairs.set w.pair ⟨some w.side, w.gen⟩
      ∧ t.store.flash = writeBytes s.store.flash (pageBase w.pair w.side) [0, 0, 0, 0]
      ∧ (s.store.nextSeq ≠ spentSeq → t.store.state = .ready)
      ∧ (s.store.nextSeq = spentSeq → t.store.state = .faulted ∧ t.store.cause = some .spent
          ∧ t.peer.posting.storeFault = true))

/-- The supply warning and commit requests (R160, R164, R197): the warning's rise sets the posted flag and starts nothing;
its fall clears the flag, and begins the swap of an image pending in READY, or of a recovery waiting in SCANNING. How STORE
takes a request: in READY without the warning its swap begins at once; under the warning, and in SWAPPING, no swap begins
and the request becomes the pending image, where a CHECKPOINT does not replace a FINAL; in FAULTED it fails at once, and so
does one whose generation cannot rise, which faults STORE with cause WORN (R161): a FINAL that fails ends CLOSING (R11), and
the change of the posted cycle state sets the event-posting latch (R20, R21). -/
def Obligations.SupplyWarningHoldsSwaps : Prop :=
  (∀ s : State, s.boot ≠ .held →
    exec .supplyWarningRaised s = .next (leaveIdle { s with
      pins := { s.pins with supplyLow := true }
      supplyWarning := true
      peer := { s.peer with posting := { s.peer.posting with supplyWarning := true } } })
    ∧ (s.store.pending = none → s.store.recovery = none → exec .supplyWarningCleared s = .next (leaveIdle { s with
      pins := { s.pins with supplyLow := false }
      supplyWarning := false
      peer := { s.peer with posting := { s.peer.posting with supplyWarning := false } } }))
    ∧ (∀ q, s.store.state = .ready → s.store.pending = some q → (swapOf s.store false q).gen < spentSeq →
      exec .supplyWarningCleared s = .next (leaveIdle { s with
        pins := { s.pins with supplyLow := false }
        supplyWarning := false
        store := { s.store with pending := none, state := .swapping, swap := some (swapOf s.store false q) }
        peer := { s.peer with posting := { s.peer.posting with supplyWarning := false } } }))
    ∧ (∀ req, s.store.state = .scanning → s.store.recovery = some req → (swapOf s.store true req).gen < spentSeq →
      exec .supplyWarningCleared s = .next (leaveIdle { s with
        pins := { s.pins with supplyLow := false }
        supplyWarning := false
        store := { s.store with recovery := none, swap := some (swapOf s.store true req) }
        peer := { s.peer with posting := { s.peer.posting with supplyWarning := false } } })))
  ∧ ∀ (req : Request) (s : State),
    latchedOn s (commitRequest req s)
    ∧ (s.store.state = .ready → s.supplyWarning = false → (swapOf s.store false req).gen < spentSeq →
      commitRequest req s = { s with store := { s.store with
        state := .swapping, swap := some (swapOf s.store false req) } })
    ∧ (s.store.state = .swapping ∨ s.store.state = .ready ∧ s.supplyWarning = true →
      (∀ q, s.store.pending = some q → q.kind = .final → req.kind = .checkpoint → commitRequest req s = s)
      ∧ ((∀ q, s.store.pending = some q → q.kind = .checkpoint ∨ req.kind = .final) →
          commitRequest req s = { s with store := { s.store with pending := some req } }))
    ∧ (s.store.state = .faulted → req.kind = .checkpoint → commitRequest req s = s)
    ∧ (s.store.state = .ready → s.supplyWarning = false → spentSeq ≤ (swapOf s.store false req).gen →
      (commitRequest req s).store = { s.store with state := .faulted, cause := some .worn }
      ∧ (commitRequest req s).peer.posting.storeFault = true)
    ∧ (s.store.state = .faulted ∨ s.store.state = .ready ∧ s.supplyWarning = false
          ∧ spentSeq ≤ (swapOf s.store false req).gen →
      req.kind = .final → s.cyc.station = .closing →
      (commitRequest req s).cyc.station = .done
      ∧ (commitRequest req s).peer.posting.lastVerdict = (s.cyc.record.map OpenRecord.verdict).getD .unset)
    ∧ (s.store.state = .scanning → commitRequest req s = s)

/-! ## Deviations and the verdict (R144 to R150) -/

/-- How DEV takes an event (R144 to R146): in TESTING and ABORTING alone; of a masked class into the masked-seen set and
nothing else; of an unmasked class into the status set and the count, and as the first of the cycle into the pointer, the
detail and the first-fatal flag, any later one setting the multiple flag. -/
def Obligations.DeviationIsTaken : Prop :=
  ∀ (e : DevEvent) (s : State), e.measured ≤ 65535 → e.limit ≤ 65535 →
    (inCycle s.cyc.station = false → takeDev e s = s)
    ∧ (inCycle s.cyc.station = true → maskedClass s e.cls = true →
        takeDev e s = { s with dev := { s.dev with maskedSeen := s.dev.maskedSeen ||| BitVec.twoPow 16 e.cls.num } })
    ∧ (inCycle s.cyc.station = true → maskedClass s e.cls = false → s.dev.first = none →
        takeDev e s = { s with dev := { s.dev with
          status := s.dev.status ||| BitVec.twoPow 16 e.cls.num
          count := min (s.dev.count + 1) 255
          first := some e.cls
          detail := ⟨e.place, cycleTime s, e.measured, e.limit⟩
          firstFatal := decide (severityOf s e.cls = .fatal) } })
    ∧ (∀ first, inCycle s.cyc.station = true → maskedClass s e.cls = false → s.dev.first = some first →
        takeDev e s = { s with dev := { s.dev with
          status := s.dev.status ||| BitVec.twoPow 16 e.cls.num
          count := min (s.dev.count + 1) 255
          multiple := true } })

/-- The verdict of a status set (R150): REJECT exactly where it holds a FATAL class, RETEST where it holds no FATAL class
and a RETEST class, PASS_NOTED where it holds ADVISORY classes and no others, PASS where it is empty. -/
def Obligations.VerdictFollowsTheStatusSet : Prop :=
  ∀ (severity : List Nat) (status : Set16),
    (verdictOf severity status = .reject ↔
      ∃ c : DevClass, inSet status c.num = true ∧ severityOfCode (severity.getD c.num 0) = .fatal)
    ∧ (verdictOf severity status = .retest ↔
      (∃ c : DevClass, inSet status c.num = true ∧ severityOfCode (severity.getD c.num 0) = .retest)
      ∧ ∀ c : DevClass, inSet status c.num = true → severityOfCode (severity.getD c.num 0) ≠ .fatal)
    ∧ (verdictOf severity status = .passNoted ↔
      status ≠ 0 ∧ ∀ c : DevClass, inSet status c.num = true → severityOfCode (severity.getD c.num 0) = .advisory)
    ∧ (verdictOf severity status = .pass ↔ status = 0)

/-! ## The laws that every step keeps -/

/-- The state right after reset meets every law that the statements below say a step keeps. -/
def Obligations.ResetMeetsEveryLaw : Prop :=
  bootLaw State.reset ∧ storeLaw State.reset ∧ flashLaw State.reset ∧ lineLaw State.reset ∧ deviationLaw State.reset
    ∧ peerLaw State.reset ∧ contaminationLaw State.reset ∧ speedLaw State.reset ∧ holdLaw State.reset
    ∧ configLaw State.reset ∧ boundLaw State.reset ∧ listenLaw State.reset ∧ airLaw State.reset ∧ phaseLaw State.reset
    ∧ cycleLaw State.reset

/-- Every step keeps the stand of the start-up sequence, STARTING and SCANNING exactly until it ends (R1, R159, R169), and
STORE's states: a fault has a cause and posts STORE_FAULT, a swap shows, an image is pending only behind a swap or the
supply warning, and the warning is posted (R159, R160, R164, R197). -/
def Obligations.StepsKeepTheStartUpAndStoreStates : Prop :=
  ∀ s t : State, bootLaw s → storeLaw s → step s = .next t → bootLaw t ∧ storeLaw t

/-- Every step keeps the flash in its canonical form, inside its 24 pages (R155; the form is the model's, assumption 7). -/
def Obligations.StepsKeepTheFlashForm : Prop :=
  ∀ s t : State, flashLaw s → step s = .next t → flashLaw t

/-- Every step keeps the receive buffer at two frames at most and the reply queue at four (R179, R181), and leaves no
transmitter in IDLE that has a reply or a posting to send (R25; when it leaves IDLE is assumption 12). -/
def Obligations.StepsKeepTheQueuesBounded : Prop :=
  ∀ s t : State, lineLaw s → step s = .next t → lineLaw t

/-- Every step keeps the first-deviation pointer present exactly when the status set is non-empty, its class a member, the
multiple flag only with the pointer, and no masked class in the status set (R146). -/
def Obligations.StepsKeepTheDeviationSets : Prop :=
  ∀ s t : State, bootLaw s → deviationLaw s → step s = .next t → deviationLaw t

/-- Every step keeps the peer table at 15 entries at most, none for station 0 or the own number, each of age 0 to 7 (R31),
and the contamination condition the one that the table calls for (R64). -/
def Obligations.StepsKeepThePeerTable : Prop :=
  ∀ s t : State, peerLaw s → contaminationLaw s → step s = .next t → peerLaw t ∧ contaminationLaw t

/-- Every step keeps the commanded speed at 0 outside a run-in and RUN at rest outside TESTING and ABORTING (R42), the
posted class LOUD exactly above Vq (R53), the posted demand within the station cap and 0 at rest (R50), the hold set empty
exactly outside HELD, the commanded speed 0 under REVERSAL and at most Vq under YIELD or DEFER (R48), and the yielding flag
posted as YIELD's place in the hold set (R54). Every step keeps the configuration in its ranges (R194), and the commanded
speed within the lesser of the programme maximum speed and the stand speed limit (R42). -/
def Obligations.StepsKeepTheSpeedAndHolds : Prop :=
  (∀ s t : State, bootLaw s → speedLaw s → holdLaw s → step s = .next t → speedLaw t ∧ holdLaw t)
  ∧ ∀ s t : State, bootLaw s → speedLaw s → configLaw s → boundLaw s → step s = .next t → configLaw t ∧ boundLaw t

/-- Every step keeps LSN's posting its state and age, its settle count to CLAIMING, and VIB in SAMPLING exactly while LSN is
in LISTENING (R66, R69, R80). -/
def Obligations.StepsKeepTheListenStates : Prop :=
  ∀ s t : State, listenLaw s → step s = .next t → listenLaw t

/-- Every step keeps each circuit's valves and posting those of its state (R113, R132), the posted claim age the greater of
its circuits' (R116), the own circuits in FILL within the lesser of 2 and the header limit (R118), and a circuit that has
not been judged without a leak rate and with D8 at 0 (R115, R126). -/
def Obligations.StepsKeepTheAirLaws : Prop :=
  ∀ s t : State, bootLaw s → speedLaw s → airLaw s → step s = .next t → airLaw t

/-- Every step keeps both phase tables at 32 codes of 0 to 6 and the pointer within its 32 phases (R101, R102, R105, R108),
and each slow channel's value a code of 12 bits with a time that saturates at 65 535, or 0 and 65 535 before its first
sample (R103, R109). -/
def Obligations.StepsKeepThePhaseTables : Prop :=
  ∀ s t : State, phaseLaw s → step s = .next t → phaseLaw t

/-- Every step keeps what CYC posts its own state, and the open record FINAL exactly from CLOSING on, with OPEN its verdict
until then (R10, R18, R151). -/
def Obligations.StepsKeepTheCyclePosted : Prop :=
  ∀ s t : State, bootLaw s → cycleLaw s → step s = .next t → cycleLaw t
end

