-- ==== Sys2Proof/Laws/Flash.lean ====
section
/-! SUPPORT. The laws of the flash: every operation over it keeps its canonical form, what is written reads back, and every other
byte reads as before. -/
namespace Sys2Proof.Machine

/-! ## The canonical form is kept -/

theorem putCell_mem {m : List Host.Cell} {a : Nat} {b : Byte} {c : Host.Cell} (h : c ∈ putCell m a b) :
    c ∈ m ∨ (c = (a, b) ∧ b ≠ 0xFF) := by
  induction m with
  | nil =>
    simp only [putCell] at h
    split at h
    · cases h
    · exact .inr ⟨List.mem_singleton.mp h, ‹_›⟩
  | cons x m ih =>
    simp only [putCell] at h
    split at h
    · rcases List.mem_cons.mp h with rfl | h
      · exact .inl (.head _)
      · exact (ih h).imp (List.mem_cons_of_mem _) id
    · split at h
      · split at h
        · exact .inl (List.mem_cons_of_mem _ h)
        · rcases List.mem_cons.mp h with h | h
          · exact .inr ⟨h, ‹_›⟩
          · exact .inl (List.mem_cons_of_mem _ h)
      · split at h
        · exact .inl h
        · rcases List.mem_cons.mp h with h | h
          · exact .inr ⟨h, ‹_›⟩
          · exact .inl h

theorem putCell_sorted {m : List Host.Cell} (a : Nat) (b : Byte) (h : m.Pairwise (fun x y => x.1 < y.1)) :
    (putCell m a b).Pairwise (fun x y => x.1 < y.1) := by
  induction m with
  | nil => simp only [putCell]; split <;> simp
  | cons x m ih =>
    obtain ⟨hx, hm⟩ := List.pairwise_cons.mp h
    simp only [putCell]
    split
    · rename_i hlt
      refine List.pairwise_cons.mpr ⟨fun y hy => ?_, ih hm⟩
      rcases putCell_mem hy with hy | ⟨rfl, _⟩
      · exact hx y hy
      · exact hlt
    · split
      · rename_i heq
        split
        · exact hm
        · exact List.pairwise_cons.mpr ⟨fun y hy => heq ▸ hx y hy, hm⟩
      · split
        · exact h
        · refine List.pairwise_cons.mpr ⟨fun y hy => ?_, h⟩
          rcases List.mem_cons.mp hy with rfl | hy
          · show a < y.1; omega
          · have := hx y hy; show a < y.1; omega

theorem writeByte_wf {m : List Host.Cell} (a : Nat) (b : Byte) (h : flashWf m) : flashWf (writeByte m a b) := by
  unfold writeByte
  split
  · refine ⟨putCell_sorted a b h.1, fun c hc => ?_⟩
    rcases putCell_mem hc with hc | ⟨rfl, hb⟩
    · exact h.2 c hc
    · exact ⟨hb, ‹_›⟩
  · exact h

theorem writeBytes_wf {m : List Host.Cell} (a : Nat) (bs : List Byte) (h : flashWf m) : flashWf (writeBytes m a bs) := by
  induction bs generalizing m a with
  | nil => exact h
  | cons b bs ih => exact ih (a + 1) (writeByte_wf a b h)

theorem eraseBytes_wf {m : List Host.Cell} (a n : Nat) (h : flashWf m) : flashWf (eraseBytes m a n) :=
  ⟨h.1.filter _, fun c hc => h.2 c (List.mem_of_mem_filter hc)⟩

theorem copySlot_wf {m : List Host.Cell} (pair : Nat) (src dst : Side) (pos : Nat) (h : flashWf m) :
    flashWf (copySlot pair src dst m pos) := by
  unfold copySlot
  split
  · exact h
  · exact writeBytes_wf _ _ h

theorem copySlots_wf {m : List Host.Cell} (pair : Nat) (cur : Option Side) (dst : Side) (ps : List Nat) (h : flashWf m) :
    flashWf (copySlots pair cur dst ps m) := by
  cases cur with
  | none => exact h
  | some src =>
    show flashWf (ps.foldl (copySlot pair src dst) m)
    induction ps generalizing m with
    | nil => exact h
    | cons p ps ih => exact ih (copySlot_wf pair src dst p h)

theorem swapStepFlash_wf {m : List Host.Cell} (w : Swap) (cur : Option Side) (h : flashWf m) :
    flashWf (swapStepFlash w cur m) := by
  unfold swapStepFlash
  split
  · exact eraseBytes_wf _ _ h
  · exact writeBytes_wf _ _ h
  · exact copySlots_wf _ _ _ _ h
  · exact writeBytes_wf _ _ h
  · exact copySlots_wf _ _ _ _ h
  · exact h

theorem statusCurrent_wf {m : List Host.Cell} (w : Swap) (h : flashWf m) : flashWf (statusCurrent w m) :=
  writeBytes_wf _ _ h

theorem neverCurrent_wf {m : List Host.Cell} (pair : Nat) (side : Side) (h : flashWf m) :
    flashWf (neverCurrent pair side m) := by
  unfold neverCurrent
  split
  · exact writeBytes_wf _ _ h
  · exact h

theorem cutStepFlash_wf {m : List Host.Cell} (draw : Nat) (w : Swap) (cur : Option Side) (h : flashWf m) :
    flashWf (cutStepFlash draw w cur m) :=
  neverCurrent_wf _ _ (writeBytes_wf _ _ h)

/-! ## What a byte reads after an operation -/

theorem readByte_cons (x : Host.Cell) (m : List Host.Cell) (a : Nat) :
    readByte (x :: m) a = if x.1 = a then x.2 else readByte m a := by
  unfold readByte
  rw [List.find?_cons]
  by_cases h : x.1 = a
  · simp [h]
  · rw [if_neg h, beq_eq_false_iff_ne.mpr h]

theorem readByte_above {m : List Host.Cell} {a : Nat} (h : ∀ c ∈ m, a < c.1) : readByte m a = 0xFF := by
  induction m with
  | nil => rfl
  | cons x m ih =>
    have hx := h x (.head _)
    rw [readByte_cons, if_neg (by omega)]
    exact ih (fun c hc => h c (List.mem_cons_of_mem _ hc))

theorem readByte_putCell {m : List Host.Cell} (a : Nat) (b : Byte) (c : Nat) (h : m.Pairwise (fun x y => x.1 < y.1)) :
    readByte (putCell m a b) c = if c = a then b else readByte m c := by
  induction m with
  | nil =>
    simp only [putCell]
    split
    · rename_i hb
      split
      · rw [hb]; rfl
      · rfl
    · rw [readByte_cons]
      by_cases hc : c = a
      · simp [hc]
      · rw [if_neg (show ¬ a = c from fun e => hc e.symm), if_neg hc]
  | cons x m ih =>
    obtain ⟨hx, hm⟩ := List.pairwise_cons.mp h
    simp only [putCell]
    split
    · rename_i hlt
      rw [readByte_cons, readByte_cons, ih hm]
      split <;> split <;> first | rfl | omega
    · split
      · rename_i heq
        split
        · rename_i hb
          by_cases hc : c = a
          · rw [if_pos hc, hb, readByte_above (fun y hy => by have := hx y hy; omega)]
          · rw [if_neg hc, readByte_cons, if_neg (show ¬ x.1 = c by omega)]
        · rw [readByte_cons, readByte_cons]
          by_cases hc : c = a
          · rw [if_pos hc.symm, if_pos hc]
          · rw [if_neg (show ¬ a = c by omega), if_neg hc, if_neg (show ¬ x.1 = c by omega)]
      · rename_i hne hlt
        have habove : ∀ y ∈ x :: m, a < y.1 := fun y hy => by
          rcases List.mem_cons.mp hy with rfl | hy
          · omega
          · have := hx y hy; omega
        split
        · rename_i hb
          by_cases hc : c = a
          · rw [if_pos hc, hb, hc, readByte_above habove]
          · rw [if_neg hc]
        · rw [readByte_cons]
          by_cases hc : c = a
          · rw [if_pos hc.symm, if_pos hc]
          · rw [if_neg (show ¬ a = c by omega), if_neg hc]

/-- A byte inside the flash reads what was written to it, and every other byte reads as before. -/
theorem readByte_writeByte {m : List Host.Cell} (a : Nat) (b : Byte) (c : Nat) (h : flashWf m) (ha : a < flashSize) :
    readByte (writeByte m a b) c = if c = a then b else readByte m c := by
  rw [writeByte, if_pos ha, readByte_putCell a b c h.1]

/-- A write leaves every byte outside it. -/
theorem readByte_writeBytes_outside {m : List Host.Cell} (a : Nat) (bs : List Byte) (c : Nat) (h : flashWf m)
    (hc : c < a ∨ a + bs.length ≤ c) : readByte (writeBytes m a bs) c = readByte m c := by
  induction bs generalizing m a with
  | nil => rfl
  | cons b bs ih =>
    simp only [List.length_cons] at hc
    rw [writeBytes, ih (a + 1) (writeByte_wf a b h) (by omega)]
    by_cases ha : a < flashSize
    · rw [readByte_writeByte a b c h ha, if_neg (by omega)]
    · rw [writeByte, if_neg ha]

/-- A write inside the flash reads back. -/
theorem readByte_writeBytes_inside {m : List Host.Cell} (a : Nat) (bs : List Byte) (i : Nat) (h : flashWf m)
    (hi : i < bs.length) (ha : a + bs.length ≤ flashSize) : readByte (writeBytes m a bs) (a + i) = bs[i] := by
  induction bs generalizing m a i with
  | nil => cases hi
  | cons b bs ih =>
    simp only [List.length_cons] at hi ha
    rw [writeBytes]
    cases i with
    | zero =>
      rw [readByte_writeBytes_outside (a + 1) bs (a + 0) (writeByte_wf a b h) (.inl (by omega)),
        readByte_writeByte a b (a + 0) h (by omega), if_pos (by omega)]
      rfl
    | succ i =>
      rw [show a + (i + 1) = a + 1 + i by omega, ih (a + 1) i (writeByte_wf a b h) (by omega) (by omega)]
      rfl

/-- A page lies inside the flash. -/
theorem pageBase_le {pair : Nat} (side : Side) (h : pair ≤ 11) : pageBase pair side + pageSize ≤ flashSize := by
  cases side <;> simp only [pageBase, pageSize, flashSize] <;> omega

/-- A page that `neverCurrent` leaves does not count as CURRENT. -/
theorem neverCurrent_header {m : List Host.Cell} (pair : Nat) (side : Side) (h : flashWf m) (hp : pair ≤ 11) :
    headerCurrent pair (readBytes (neverCurrent pair side m) (pageBase pair side) 16) = false := by
  unfold neverCurrent
  split
  · have hb := pageBase_le side hp
    have hlen : (be 4 0x0000FFFF).length = 4 := rfl
    have h3 := readByte_writeBytes_inside (pageBase pair side) (be 4 0x0000FFFF) 3 h (by omega)
      (by simp only [pageSize] at hb; omega)
    rw [headerCurrent, Bool.and_assoc]
    refine Bool.and_eq_false_imp.mpr fun hz => absurd (beq_iff_eq.mp hz) ?_
    simp only [field, readBytes, List.range, List.range.loop, List.map_cons, List.drop_zero, List.take_succ_cons, fromBe,
      List.foldl_cons, h3]
    have : (be 4 0x0000FFFF)[3] = 0xFF#8 := rfl
    simp only [this, List.take_zero, List.foldl_nil]
    simp
  · exact Bool.eq_false_iff.mpr ‹_›

/-- What a step may write or erase lies on its swap page. -/
theorem stepSpan_le (w : Swap) (hw : w.pos ≤ 6) :
    pageBase w.pair w.side ≤ (stepSpan w).1 ∧ (stepSpan w).1 + (stepSpan w).2 ≤ pageBase w.pair w.side + pageSize := by
  unfold stepSpan slotAddr pageSize
  split <;> dsimp only <;> omega

/-- A step that is cut off leaves every byte outside its swap page. -/
theorem readByte_cutStepFlash_outside {m : List Host.Cell} (draw : Nat) (w : Swap) (cur : Option Side) (c : Nat) (h : flashWf m)
    (hw : w.pos ≤ 6) (hc : c < pageBase w.pair w.side ∨ pageBase w.pair w.side + pageSize ≤ c) :
    readByte (cutStepFlash draw w cur m) c = readByte m c := by
  have hs := stepSpan_le w hw
  have hlen : (be 4 0x0000FFFF).length = 4 := rfl
  unfold cutStepFlash neverCurrent
  split
  · rw [readByte_writeBytes_outside _ _ _ (writeBytes_wf _ _ h) (by simp only [pageSize] at hc; omega),
      readByte_writeBytes_outside _ _ _ h (by rw [List.length_map, List.length_range]; omega)]
  · rw [readByte_writeBytes_outside _ _ _ h (by rw [List.length_map, List.length_range]; omega)]

/-- A step that is cut off does not leave its swap page current. -/
theorem cutStepFlash_header {m : List Host.Cell} (draw : Nat) (w : Swap) (cur : Option Side) (h : flashWf m) (hp : w.pair ≤ 11) :
    headerCurrent w.pair (readBytes (cutStepFlash draw w cur m) (pageBase w.pair w.side) 16) = false :=
  neverCurrent_header _ _ (writeBytes_wf _ _ h) hp

/-- An erased byte reads FFh, and every other byte reads as before. -/
theorem readByte_eraseBytes (m : List Host.Cell) (a n c : Nat) :
    readByte (eraseBytes m a n) c = if a ≤ c ∧ c < a + n then 0xFF else readByte m c := by
  induction m with
  | nil => simp [eraseBytes, readByte]
  | cons x m ih =>
    unfold eraseBytes at ih ⊢
    rw [List.filter_cons]
    split
    · rename_i hk
      simp only [Bool.or_eq_true, decide_eq_true_eq] at hk
      rw [readByte_cons, readByte_cons, ih]
      split <;> split <;> first | rfl | omega
    · rename_i hk
      simp only [Bool.or_eq_true, decide_eq_true_eq] at hk
      rw [ih, readByte_cons]
      split
      · rfl
      · rw [if_neg (by omega)]

end Sys2Proof.Machine
end

