-- ==== Sys2Proof/Laws/State.lean ====
section
/-! SUPPORT. What each update of a block's state and each operation shared by several blocks leaves as it is, field by field:
one frame lemma per operation, for the simplifier. -/
namespace Sys2Proof.Machine

@[simp] theorem writePosting_frame (f : Posting → Posting) (s : State) :
    (writePosting f s).cyc = s.cyc ∧ (writePosting f s).run = s.run ∧ (writePosting f s).lsn = s.lsn
      ∧ (writePosting f s).vib = s.vib ∧ (writePosting f s).sca = s.sca ∧ (writePosting f s).leak = s.leak
      ∧ (writePosting f s).dev = s.dev ∧ (writePosting f s).store = s.store ∧ (writePosting f s).lif = s.lif
      ∧ (writePosting f s).cfg = s.cfg ∧ (writePosting f s).boot = s.boot
      ∧ (writePosting f s).supplyWarning = s.supplyWarning ∧ (writePosting f s).pins = s.pins
      ∧ (writePosting f s).clock = s.clock ∧ (writePosting f s).draws = s.draws
      ∧ (writePosting f s).pending = s.pending ∧ (writePosting f s).peer.table = s.peer.table
      ∧ (writePosting f s).peer.lastFull = s.peer.lastFull ∧ (writePosting f s).peer.due = s.peer.due
      ∧ (writePosting f s).peer.repeats = s.peer.repeats ∧ (writePosting f s).peer.dupCount = s.peer.dupCount
      ∧ (writePosting f s).peer.period = s.peer.period ∧ (writePosting f s).peer.periodLeft = s.peer.periodLeft := by
  refine ⟨rfl, rfl, rfl, rfl, rfl, rfl, rfl, rfl, rfl, rfl, rfl, rfl, rfl, rfl, rfl, rfl, rfl, rfl, rfl, rfl, rfl, rfl, rfl⟩

@[simp] theorem setStation_frame (st : StationState) (s : State) :
    (setStation st s).run = s.run ∧ (setStation st s).lsn = s.lsn ∧ (setStation st s).vib = s.vib
      ∧ (setStation st s).sca = s.sca ∧ (setStation st s).leak = s.leak ∧ (setStation st s).dev = s.dev
      ∧ (setStation st s).store = s.store ∧ (setStation st s).lif = s.lif ∧ (setStation st s).cfg = s.cfg
      ∧ (setStation st s).boot = s.boot ∧ (setStation st s).supplyWarning = s.supplyWarning
      ∧ (setStation st s).pins = s.pins ∧ (setStation st s).clock = s.clock ∧ (setStation st s).draws = s.draws
      ∧ (setStation st s).pending = s.pending ∧ (setStation st s).cyc.record = s.cyc.record
      ∧ (setStation st s).cyc.programme = s.cyc.programme ∧ (setStation st s).cyc.timerMs = s.cyc.timerMs
      ∧ (setStation st s).cyc.formed = s.cyc.formed ∧ (setStation st s).peer.table = s.peer.table
      ∧ (setStation st s).peer.lastFull = s.peer.lastFull ∧ (setStation st s).peer.due = s.peer.due
      ∧ (setStation st s).peer.repeats = s.peer.repeats ∧ (setStation st s).peer.dupCount = s.peer.dupCount
      ∧ (setStation st s).peer.period = s.peer.period ∧ (setStation st s).peer.periodLeft = s.peer.periodLeft
      ∧ (setStation st s).peer.posting.programme = s.peer.posting.programme
      ∧ (setStation st s).peer.posting.openSeq = s.peer.posting.openSeq
      ∧ (setStation st s).peer.posting.lastVerdict = s.peer.posting.lastVerdict
      ∧ (setStation st s).peer.posting.acoustic = s.peer.posting.acoustic
      ∧ (setStation st s).peer.posting.listen = s.peer.posting.listen
      ∧ (setStation st s).peer.posting.listenAge = s.peer.posting.listenAge
      ∧ (setStation st s).peer.posting.air1 = s.peer.posting.air1
      ∧ (setStation st s).peer.posting.air2 = s.peer.posting.air2
      ∧ (setStation st s).peer.posting.airAge = s.peer.posting.airAge
      ∧ (setStation st s).peer.posting.demand = s.peer.posting.demand
      ∧ (setStation st s).peer.posting.yielding = s.peer.posting.yielding
      ∧ (setStation st s).peer.posting.unconfigured = s.peer.posting.unconfigured
      ∧ (setStation st s).peer.posting.dupStation = s.peer.posting.dupStation
      ∧ (setStation st s).peer.posting.storeFault = s.peer.posting.storeFault
      ∧ (setStation st s).peer.posting.supplyWarning = s.peer.posting.supplyWarning
      ∧ (setStation st s).peer.posting.resetCause = s.peer.posting.resetCause := by
  refine ⟨rfl, rfl, rfl, rfl, rfl, rfl, rfl, rfl, rfl, rfl, rfl, rfl, rfl, rfl, rfl, rfl, rfl, rfl, rfl, rfl, rfl, rfl, rfl, rfl, rfl, rfl, rfl, rfl, rfl, rfl, rfl, rfl, rfl, rfl, rfl, rfl, rfl, rfl, rfl, rfl, rfl, rfl⟩

@[simp] theorem takeDev_frame (e : DevEvent) (s : State) :
    (takeDev e s).cyc = s.cyc ∧ (takeDev e s).peer = s.peer ∧ (takeDev e s).run = s.run ∧ (takeDev e s).lsn = s.lsn
      ∧ (takeDev e s).vib = s.vib ∧ (takeDev e s).sca = s.sca ∧ (takeDev e s).leak = s.leak
      ∧ (takeDev e s).store = s.store ∧ (takeDev e s).lif = s.lif ∧ (takeDev e s).cfg = s.cfg
      ∧ (takeDev e s).boot = s.boot ∧ (takeDev e s).supplyWarning = s.supplyWarning ∧ (takeDev e s).pins = s.pins
      ∧ (takeDev e s).clock = s.clock ∧ (takeDev e s).draws = s.draws ∧ (takeDev e s).pending = s.pending := by
  unfold takeDev
  (repeat' split) <;> simp

@[simp] theorem writeRecord_frame (f : OpenRecord → OpenRecord) (s : State) :
    (writeRecord f s).peer = s.peer ∧ (writeRecord f s).run = s.run ∧ (writeRecord f s).lsn = s.lsn
      ∧ (writeRecord f s).vib = s.vib ∧ (writeRecord f s).sca = s.sca ∧ (writeRecord f s).leak = s.leak
      ∧ (writeRecord f s).dev = s.dev ∧ (writeRecord f s).store = s.store ∧ (writeRecord f s).lif = s.lif
      ∧ (writeRecord f s).cfg = s.cfg ∧ (writeRecord f s).boot = s.boot
      ∧ (writeRecord f s).supplyWarning = s.supplyWarning ∧ (writeRecord f s).pins = s.pins
      ∧ (writeRecord f s).clock = s.clock ∧ (writeRecord f s).draws = s.draws
      ∧ (writeRecord f s).pending = s.pending ∧ (writeRecord f s).cyc.station = s.cyc.station
      ∧ (writeRecord f s).cyc.programme = s.cyc.programme ∧ (writeRecord f s).cyc.timerMs = s.cyc.timerMs
      ∧ (writeRecord f s).cyc.formed = s.cyc.formed := by
  refine ⟨rfl, rfl, rfl, rfl, rfl, rfl, rfl, rfl, rfl, rfl, rfl, rfl, rfl, rfl, rfl, rfl, rfl, rfl, rfl, rfl⟩

@[simp] theorem withTx_frame (t : Tx) (s : State) :
    (withTx t s).cyc = s.cyc ∧ (withTx t s).peer = s.peer ∧ (withTx t s).run = s.run ∧ (withTx t s).lsn = s.lsn
      ∧ (withTx t s).vib = s.vib ∧ (withTx t s).sca = s.sca ∧ (withTx t s).leak = s.leak ∧ (withTx t s).dev = s.dev
      ∧ (withTx t s).store = s.store ∧ (withTx t s).cfg = s.cfg ∧ (withTx t s).boot = s.boot
      ∧ (withTx t s).supplyWarning = s.supplyWarning ∧ (withTx t s).pins = s.pins ∧ (withTx t s).clock = s.clock
      ∧ (withTx t s).draws = s.draws ∧ (withTx t s).pending = s.pending
      ∧ (withTx t s).lif.classifier = s.lif.classifier ∧ (withTx t s).lif.buffer = s.lif.buffer
      ∧ (withTx t s).lif.decoder = s.lif.decoder ∧ (withTx t s).lif.replies = s.lif.replies
      ∧ (withTx t s).lif.counters = s.lif.counters ∧ (withTx t s).lif.restartLeft = s.lif.restartLeft := by
  refine ⟨rfl, rfl, rfl, rfl, rfl, rfl, rfl, rfl, rfl, rfl, rfl, rfl, rfl, rfl, rfl, rfl, rfl, rfl, rfl, rfl, rfl, rfl⟩

@[simp] theorem leaveIdle_frame (s : State) :
    (leaveIdle s).cyc = s.cyc ∧ (leaveIdle s).peer = s.peer ∧ (leaveIdle s).run = s.run ∧ (leaveIdle s).lsn = s.lsn
      ∧ (leaveIdle s).vib = s.vib ∧ (leaveIdle s).sca = s.sca ∧ (leaveIdle s).leak = s.leak
      ∧ (leaveIdle s).dev = s.dev ∧ (leaveIdle s).store = s.store ∧ (leaveIdle s).cfg = s.cfg
      ∧ (leaveIdle s).boot = s.boot ∧ (leaveIdle s).supplyWarning = s.supplyWarning ∧ (leaveIdle s).pins = s.pins
      ∧ (leaveIdle s).clock = s.clock ∧ (leaveIdle s).draws = s.draws ∧ (leaveIdle s).pending = s.pending
      ∧ (leaveIdle s).lif.classifier = s.lif.classifier ∧ (leaveIdle s).lif.buffer = s.lif.buffer
      ∧ (leaveIdle s).lif.decoder = s.lif.decoder ∧ (leaveIdle s).lif.replies = s.lif.replies
      ∧ (leaveIdle s).lif.counters = s.lif.counters ∧ (leaveIdle s).lif.restartLeft = s.lif.restartLeft := by
  unfold leaveIdle
  (repeat' split) <;> simp

@[simp] theorem withVib_frame (f : Vib → Vib) (s : State) :
    (withVib f s).cyc = s.cyc ∧ (withVib f s).peer = s.peer ∧ (withVib f s).run = s.run ∧ (withVib f s).lsn = s.lsn
      ∧ (withVib f s).sca = s.sca ∧ (withVib f s).leak = s.leak ∧ (withVib f s).dev = s.dev
      ∧ (withVib f s).store = s.store ∧ (withVib f s).lif = s.lif ∧ (withVib f s).cfg = s.cfg
      ∧ (withVib f s).boot = s.boot ∧ (withVib f s).supplyWarning = s.supplyWarning ∧ (withVib f s).pins = s.pins
      ∧ (withVib f s).clock = s.clock ∧ (withVib f s).draws = s.draws ∧ (withVib f s).pending = s.pending := by
  refine ⟨rfl, rfl, rfl, rfl, rfl, rfl, rfl, rfl, rfl, rfl, rfl, rfl, rfl, rfl, rfl, rfl⟩

@[simp] theorem withLsn_frame (f : Lsn → Lsn) (s : State) :
    (withLsn f s).cyc = s.cyc ∧ (withLsn f s).peer = s.peer ∧ (withLsn f s).run = s.run ∧ (withLsn f s).vib = s.vib
      ∧ (withLsn f s).sca = s.sca ∧ (withLsn f s).leak = s.leak ∧ (withLsn f s).dev = s.dev
      ∧ (withLsn f s).store = s.store ∧ (withLsn f s).lif = s.lif ∧ (withLsn f s).cfg = s.cfg
      ∧ (withLsn f s).boot = s.boot ∧ (withLsn f s).supplyWarning = s.supplyWarning ∧ (withLsn f s).pins = s.pins
      ∧ (withLsn f s).clock = s.clock ∧ (withLsn f s).draws = s.draws ∧ (withLsn f s).pending = s.pending := by
  refine ⟨rfl, rfl, rfl, rfl, rfl, rfl, rfl, rfl, rfl, rfl, rfl, rfl, rfl, rfl, rfl, rfl⟩

@[simp] theorem withRun_frame (f : Run → Run) (s : State) :
    (withRun f s).cyc = s.cyc ∧ (withRun f s).peer = s.peer ∧ (withRun f s).lsn = s.lsn ∧ (withRun f s).vib = s.vib
      ∧ (withRun f s).sca = s.sca ∧ (withRun f s).leak = s.leak ∧ (withRun f s).dev = s.dev
      ∧ (withRun f s).store = s.store ∧ (withRun f s).lif = s.lif ∧ (withRun f s).cfg = s.cfg
      ∧ (withRun f s).boot = s.boot ∧ (withRun f s).supplyWarning = s.supplyWarning ∧ (withRun f s).pins = s.pins
      ∧ (withRun f s).clock = s.clock ∧ (withRun f s).draws = s.draws ∧ (withRun f s).pending = s.pending := by
  refine ⟨rfl, rfl, rfl, rfl, rfl, rfl, rfl, rfl, rfl, rfl, rfl, rfl, rfl, rfl, rfl, rfl⟩

@[simp] theorem withSca_frame (f : Sca → Sca) (s : State) :
    (withSca f s).cyc = s.cyc ∧ (withSca f s).peer = s.peer ∧ (withSca f s).run = s.run ∧ (withSca f s).lsn = s.lsn
      ∧ (withSca f s).vib = s.vib ∧ (withSca f s).leak = s.leak ∧ (withSca f s).dev = s.dev
      ∧ (withSca f s).store = s.store ∧ (withSca f s).lif = s.lif ∧ (withSca f s).cfg = s.cfg
      ∧ (withSca f s).boot = s.boot ∧ (withSca f s).supplyWarning = s.supplyWarning ∧ (withSca f s).pins = s.pins
      ∧ (withSca f s).clock = s.clock ∧ (withSca f s).draws = s.draws ∧ (withSca f s).pending = s.pending := by
  refine ⟨rfl, rfl, rfl, rfl, rfl, rfl, rfl, rfl, rfl, rfl, rfl, rfl, rfl, rfl, rfl, rfl⟩

@[simp] theorem withPeer_frame (f : Peer → Peer) (s : State) :
    (withPeer f s).cyc = s.cyc ∧ (withPeer f s).run = s.run ∧ (withPeer f s).lsn = s.lsn
      ∧ (withPeer f s).vib = s.vib ∧ (withPeer f s).sca = s.sca ∧ (withPeer f s).leak = s.leak
      ∧ (withPeer f s).dev = s.dev ∧ (withPeer f s).store = s.store ∧ (withPeer f s).lif = s.lif
      ∧ (withPeer f s).cfg = s.cfg ∧ (withPeer f s).boot = s.boot ∧ (withPeer f s).supplyWarning = s.supplyWarning
      ∧ (withPeer f s).pins = s.pins ∧ (withPeer f s).clock = s.clock ∧ (withPeer f s).draws = s.draws
      ∧ (withPeer f s).pending = s.pending := by
  refine ⟨rfl, rfl, rfl, rfl, rfl, rfl, rfl, rfl, rfl, rfl, rfl, rfl, rfl, rfl, rfl, rfl⟩

@[simp] theorem withLif_frame (f : Lif → Lif) (s : State) :
    (withLif f s).cyc = s.cyc ∧ (withLif f s).peer = s.peer ∧ (withLif f s).run = s.run ∧ (withLif f s).lsn = s.lsn
      ∧ (withLif f s).vib = s.vib ∧ (withLif f s).sca = s.sca ∧ (withLif f s).leak = s.leak
      ∧ (withLif f s).dev = s.dev ∧ (withLif f s).store = s.store ∧ (withLif f s).cfg = s.cfg
      ∧ (withLif f s).boot = s.boot ∧ (withLif f s).supplyWarning = s.supplyWarning ∧ (withLif f s).pins = s.pins
      ∧ (withLif f s).clock = s.clock ∧ (withLif f s).draws = s.draws ∧ (withLif f s).pending = s.pending := by
  refine ⟨rfl, rfl, rfl, rfl, rfl, rfl, rfl, rfl, rfl, rfl, rfl, rfl, rfl, rfl, rfl, rfl⟩

@[simp] theorem withCounters_frame (f : LineCounters → LineCounters) (s : State) :
    (withCounters f s).cyc = s.cyc ∧ (withCounters f s).peer = s.peer ∧ (withCounters f s).run = s.run
      ∧ (withCounters f s).lsn = s.lsn ∧ (withCounters f s).vib = s.vib ∧ (withCounters f s).sca = s.sca
      ∧ (withCounters f s).leak = s.leak ∧ (withCounters f s).dev = s.dev ∧ (withCounters f s).store = s.store
      ∧ (withCounters f s).cfg = s.cfg ∧ (withCounters f s).boot = s.boot
      ∧ (withCounters f s).supplyWarning = s.supplyWarning ∧ (withCounters f s).pins = s.pins
      ∧ (withCounters f s).clock = s.clock ∧ (withCounters f s).draws = s.draws
      ∧ (withCounters f s).pending = s.pending ∧ (withCounters f s).lif.classifier = s.lif.classifier
      ∧ (withCounters f s).lif.buffer = s.lif.buffer ∧ (withCounters f s).lif.decoder = s.lif.decoder
      ∧ (withCounters f s).lif.replies = s.lif.replies ∧ (withCounters f s).lif.tx = s.lif.tx
      ∧ (withCounters f s).lif.restartLeft = s.lif.restartLeft := by
  refine ⟨rfl, rfl, rfl, rfl, rfl, rfl, rfl, rfl, rfl, rfl, rfl, rfl, rfl, rfl, rfl, rfl, rfl, rfl, rfl, rfl, rfl, rfl⟩

end Sys2Proof.Machine
end

