-- ==== Sys2Proof/Laws/Store.lean ====
section
/-! SUPPORT. What each operation of the result store leaves as it is. -/
namespace Sys2Proof.Machine

@[simp] theorem enterFaulted_frame (cause : FaultCause) (s : State) :
    (enterFaulted cause s).cyc = s.cyc ∧ (enterFaulted cause s).run = s.run ∧ (enterFaulted cause s).lsn = s.lsn
      ∧ (enterFaulted cause s).vib = s.vib ∧ (enterFaulted cause s).sca = s.sca
      ∧ (enterFaulted cause s).leak = s.leak ∧ (enterFaulted cause s).dev = s.dev
      ∧ (enterFaulted cause s).lif = s.lif ∧ (enterFaulted cause s).cfg = s.cfg
      ∧ (enterFaulted cause s).boot = s.boot ∧ (enterFaulted cause s).supplyWarning = s.supplyWarning
      ∧ (enterFaulted cause s).pins = s.pins ∧ (enterFaulted cause s).clock = s.clock
      ∧ (enterFaulted cause s).draws = s.draws ∧ (enterFaulted cause s).pending = s.pending
      ∧ (enterFaulted cause s).peer.table = s.peer.table ∧ (enterFaulted cause s).peer.lastFull = s.peer.lastFull
      ∧ (enterFaulted cause s).peer.due = s.peer.due ∧ (enterFaulted cause s).peer.repeats = s.peer.repeats
      ∧ (enterFaulted cause s).peer.dupCount = s.peer.dupCount ∧ (enterFaulted cause s).peer.period = s.peer.period
      ∧ (enterFaulted cause s).peer.periodLeft = s.peer.periodLeft
      ∧ (enterFaulted cause s).peer.posting.cycleState = s.peer.posting.cycleState
      ∧ (enterFaulted cause s).peer.posting.programme = s.peer.posting.programme
      ∧ (enterFaulted cause s).peer.posting.openSeq = s.peer.posting.openSeq
      ∧ (enterFaulted cause s).peer.posting.lastVerdict = s.peer.posting.lastVerdict
      ∧ (enterFaulted cause s).peer.posting.acoustic = s.peer.posting.acoustic
      ∧ (enterFaulted cause s).peer.posting.listen = s.peer.posting.listen
      ∧ (enterFaulted cause s).peer.posting.listenAge = s.peer.posting.listenAge
      ∧ (enterFaulted cause s).peer.posting.air1 = s.peer.posting.air1
      ∧ (enterFaulted cause s).peer.posting.air2 = s.peer.posting.air2
      ∧ (enterFaulted cause s).peer.posting.airAge = s.peer.posting.airAge
      ∧ (enterFaulted cause s).peer.posting.demand = s.peer.posting.demand
      ∧ (enterFaulted cause s).peer.posting.yielding = s.peer.posting.yielding
      ∧ (enterFaulted cause s).peer.posting.unconfigured = s.peer.posting.unconfigured
      ∧ (enterFaulted cause s).peer.posting.dupStation = s.peer.posting.dupStation
      ∧ (enterFaulted cause s).peer.posting.supplyWarning = s.peer.posting.supplyWarning
      ∧ (enterFaulted cause s).peer.posting.resetCause = s.peer.posting.resetCause
      ∧ (enterFaulted cause s).store.flash = s.store.flash ∧ (enterFaulted cause s).store.pairs = s.store.pairs
      ∧ (enterFaulted cause s).store.nextSeq = s.store.nextSeq ∧ (enterFaulted cause s).store.swap = s.store.swap
      ∧ (enterFaulted cause s).store.pending = s.store.pending
      ∧ (enterFaulted cause s).store.recovery = s.store.recovery := by
  refine ⟨rfl, rfl, rfl, rfl, rfl, rfl, rfl, rfl, rfl, rfl, rfl, rfl, rfl, rfl, rfl, rfl, rfl, rfl, rfl, rfl, rfl, rfl, rfl, rfl, rfl, rfl, rfl, rfl, rfl, rfl, rfl, rfl, rfl, rfl, rfl, rfl, rfl, rfl, rfl, rfl, rfl, rfl, rfl, rfl⟩

@[simp] theorem commitEnded_frame (s : State) :
    (commitEnded s).run = s.run ∧ (commitEnded s).lsn = s.lsn ∧ (commitEnded s).vib = s.vib
      ∧ (commitEnded s).sca = s.sca ∧ (commitEnded s).leak = s.leak ∧ (commitEnded s).dev = s.dev
      ∧ (commitEnded s).store = s.store ∧ (commitEnded s).lif = s.lif ∧ (commitEnded s).cfg = s.cfg
      ∧ (commitEnded s).boot = s.boot ∧ (commitEnded s).supplyWarning = s.supplyWarning
      ∧ (commitEnded s).pins = s.pins ∧ (commitEnded s).clock = s.clock ∧ (commitEnded s).draws = s.draws
      ∧ (commitEnded s).pending = s.pending ∧ (commitEnded s).cyc.record = s.cyc.record
      ∧ (commitEnded s).cyc.programme = s.cyc.programme ∧ (commitEnded s).cyc.timerMs = s.cyc.timerMs
      ∧ (commitEnded s).cyc.formed = s.cyc.formed ∧ (commitEnded s).peer.table = s.peer.table
      ∧ (commitEnded s).peer.lastFull = s.peer.lastFull ∧ (commitEnded s).peer.due = s.peer.due
      ∧ (commitEnded s).peer.repeats = s.peer.repeats ∧ (commitEnded s).peer.dupCount = s.peer.dupCount
      ∧ (commitEnded s).peer.period = s.peer.period ∧ (commitEnded s).peer.periodLeft = s.peer.periodLeft := by
  unfold commitEnded
  (repeat' split) <;> simp

@[simp] theorem failRequest_frame (req : Request) (s : State) :
    (failRequest req s).run = s.run ∧ (failRequest req s).lsn = s.lsn ∧ (failRequest req s).vib = s.vib
      ∧ (failRequest req s).sca = s.sca ∧ (failRequest req s).leak = s.leak ∧ (failRequest req s).dev = s.dev
      ∧ (failRequest req s).store = s.store ∧ (failRequest req s).lif = s.lif ∧ (failRequest req s).cfg = s.cfg
      ∧ (failRequest req s).boot = s.boot ∧ (failRequest req s).supplyWarning = s.supplyWarning
      ∧ (failRequest req s).pins = s.pins ∧ (failRequest req s).clock = s.clock
      ∧ (failRequest req s).draws = s.draws ∧ (failRequest req s).pending = s.pending
      ∧ (failRequest req s).cyc.record = s.cyc.record ∧ (failRequest req s).cyc.programme = s.cyc.programme
      ∧ (failRequest req s).cyc.timerMs = s.cyc.timerMs ∧ (failRequest req s).cyc.formed = s.cyc.formed
      ∧ (failRequest req s).peer.table = s.peer.table ∧ (failRequest req s).peer.lastFull = s.peer.lastFull
      ∧ (failRequest req s).peer.due = s.peer.due ∧ (failRequest req s).peer.repeats = s.peer.repeats
      ∧ (failRequest req s).peer.dupCount = s.peer.dupCount ∧ (failRequest req s).peer.period = s.peer.period
      ∧ (failRequest req s).peer.periodLeft = s.peer.periodLeft := by
  unfold failRequest
  (repeat' split) <;> simp

@[simp] theorem startUpEnd_frame (s : State) :
    (startUpEnd s).run = s.run ∧ (startUpEnd s).lsn = s.lsn ∧ (startUpEnd s).vib = s.vib
      ∧ (startUpEnd s).sca = s.sca ∧ (startUpEnd s).dev = s.dev ∧ (startUpEnd s).store = s.store
      ∧ (startUpEnd s).lif = s.lif ∧ (startUpEnd s).cfg = s.cfg ∧ (startUpEnd s).supplyWarning = s.supplyWarning
      ∧ (startUpEnd s).pins = s.pins ∧ (startUpEnd s).clock = s.clock ∧ (startUpEnd s).draws = s.draws
      ∧ (startUpEnd s).pending = s.pending ∧ (startUpEnd s).cyc.record = s.cyc.record
      ∧ (startUpEnd s).cyc.programme = s.cyc.programme ∧ (startUpEnd s).cyc.timerMs = s.cyc.timerMs
      ∧ (startUpEnd s).cyc.formed = s.cyc.formed ∧ (startUpEnd s).peer.table = s.peer.table
      ∧ (startUpEnd s).peer.lastFull = s.peer.lastFull ∧ (startUpEnd s).peer.due = s.peer.due
      ∧ (startUpEnd s).peer.repeats = s.peer.repeats ∧ (startUpEnd s).peer.dupCount = s.peer.dupCount
      ∧ (startUpEnd s).peer.period = s.peer.period ∧ (startUpEnd s).peer.periodLeft = s.peer.periodLeft
      ∧ (startUpEnd s).peer.posting.programme = s.peer.posting.programme
      ∧ (startUpEnd s).peer.posting.openSeq = s.peer.posting.openSeq
      ∧ (startUpEnd s).peer.posting.lastVerdict = s.peer.posting.lastVerdict
      ∧ (startUpEnd s).peer.posting.acoustic = s.peer.posting.acoustic
      ∧ (startUpEnd s).peer.posting.listen = s.peer.posting.listen
      ∧ (startUpEnd s).peer.posting.listenAge = s.peer.posting.listenAge
      ∧ (startUpEnd s).peer.posting.air1 = s.peer.posting.air1
      ∧ (startUpEnd s).peer.posting.air2 = s.peer.posting.air2
      ∧ (startUpEnd s).peer.posting.airAge = s.peer.posting.airAge
      ∧ (startUpEnd s).peer.posting.demand = s.peer.posting.demand
      ∧ (startUpEnd s).peer.posting.yielding = s.peer.posting.yielding
      ∧ (startUpEnd s).peer.posting.dupStation = s.peer.posting.dupStation
      ∧ (startUpEnd s).peer.posting.storeFault = s.peer.posting.storeFault
      ∧ (startUpEnd s).peer.posting.supplyWarning = s.peer.posting.supplyWarning
      ∧ (startUpEnd s).peer.posting.resetCause = s.peer.posting.resetCause
      ∧ (startUpEnd s).leak.armed = s.leak.armed := by
  refine ⟨rfl, rfl, rfl, rfl, rfl, rfl, rfl, rfl, rfl, rfl, rfl, rfl, rfl, rfl, rfl, rfl, rfl, rfl, rfl, rfl, rfl, rfl, rfl, rfl, rfl, rfl, rfl, rfl, rfl, rfl, rfl, rfl, rfl, rfl, rfl, rfl, rfl, rfl, rfl, rfl⟩

@[simp] theorem scanEnd_frame (s : State) :
    (scanEnd s).run = s.run ∧ (scanEnd s).lsn = s.lsn ∧ (scanEnd s).vib = s.vib ∧ (scanEnd s).sca = s.sca
      ∧ (scanEnd s).dev = s.dev ∧ (scanEnd s).lif = s.lif ∧ (scanEnd s).cfg = s.cfg
      ∧ (scanEnd s).supplyWarning = s.supplyWarning ∧ (scanEnd s).pins = s.pins ∧ (scanEnd s).clock = s.clock
      ∧ (scanEnd s).draws = s.draws ∧ (scanEnd s).pending = s.pending ∧ (scanEnd s).cyc.record = s.cyc.record
      ∧ (scanEnd s).cyc.programme = s.cyc.programme ∧ (scanEnd s).cyc.timerMs = s.cyc.timerMs
      ∧ (scanEnd s).cyc.formed = s.cyc.formed ∧ (scanEnd s).peer.table = s.peer.table
      ∧ (scanEnd s).peer.lastFull = s.peer.lastFull ∧ (scanEnd s).peer.due = s.peer.due
      ∧ (scanEnd s).peer.repeats = s.peer.repeats ∧ (scanEnd s).peer.dupCount = s.peer.dupCount
      ∧ (scanEnd s).peer.period = s.peer.period ∧ (scanEnd s).peer.periodLeft = s.peer.periodLeft
      ∧ (scanEnd s).peer.posting.programme = s.peer.posting.programme
      ∧ (scanEnd s).peer.posting.openSeq = s.peer.posting.openSeq
      ∧ (scanEnd s).peer.posting.lastVerdict = s.peer.posting.lastVerdict
      ∧ (scanEnd s).peer.posting.acoustic = s.peer.posting.acoustic
      ∧ (scanEnd s).peer.posting.listen = s.peer.posting.listen
      ∧ (scanEnd s).peer.posting.listenAge = s.peer.posting.listenAge
      ∧ (scanEnd s).peer.posting.air1 = s.peer.posting.air1 ∧ (scanEnd s).peer.posting.air2 = s.peer.posting.air2
      ∧ (scanEnd s).peer.posting.airAge = s.peer.posting.airAge
      ∧ (scanEnd s).peer.posting.demand = s.peer.posting.demand
      ∧ (scanEnd s).peer.posting.yielding = s.peer.posting.yielding
      ∧ (scanEnd s).peer.posting.dupStation = s.peer.posting.dupStation
      ∧ (scanEnd s).peer.posting.supplyWarning = s.peer.posting.supplyWarning
      ∧ (scanEnd s).peer.posting.resetCause = s.peer.posting.resetCause ∧ (scanEnd s).leak.armed = s.leak.armed
      ∧ (scanEnd s).store.flash = s.store.flash ∧ (scanEnd s).store.pairs = s.store.pairs
      ∧ (scanEnd s).store.nextSeq = s.store.nextSeq ∧ (scanEnd s).store.swap = s.store.swap
      ∧ (scanEnd s).store.pending = s.store.pending ∧ (scanEnd s).store.recovery = s.store.recovery := by
  unfold scanEnd
  (repeat' split) <;> simp

@[simp] theorem beginSwap_frame (recovery : Bool) (req : Request) (s : State) :
    (beginSwap recovery req s).run = s.run ∧ (beginSwap recovery req s).lsn = s.lsn
      ∧ (beginSwap recovery req s).vib = s.vib ∧ (beginSwap recovery req s).sca = s.sca
      ∧ (beginSwap recovery req s).dev = s.dev ∧ (beginSwap recovery req s).lif = s.lif
      ∧ (beginSwap recovery req s).cfg = s.cfg ∧ (beginSwap recovery req s).supplyWarning = s.supplyWarning
      ∧ (beginSwap recovery req s).pins = s.pins ∧ (beginSwap recovery req s).clock = s.clock
      ∧ (beginSwap recovery req s).draws = s.draws ∧ (beginSwap recovery req s).pending = s.pending
      ∧ (beginSwap recovery req s).cyc.record = s.cyc.record
      ∧ (beginSwap recovery req s).cyc.programme = s.cyc.programme
      ∧ (beginSwap recovery req s).cyc.timerMs = s.cyc.timerMs
      ∧ (beginSwap recovery req s).cyc.formed = s.cyc.formed ∧ (beginSwap recovery req s).peer.table = s.peer.table
      ∧ (beginSwap recovery req s).peer.lastFull = s.peer.lastFull
      ∧ (beginSwap recovery req s).peer.due = s.peer.due ∧ (beginSwap recovery req s).peer.repeats = s.peer.repeats
      ∧ (beginSwap recovery req s).peer.dupCount = s.peer.dupCount
      ∧ (beginSwap recovery req s).peer.period = s.peer.period
      ∧ (beginSwap recovery req s).peer.periodLeft = s.peer.periodLeft
      ∧ (beginSwap recovery req s).leak.armed = s.leak.armed
      ∧ (beginSwap recovery req s).store.flash = s.store.flash
      ∧ (beginSwap recovery req s).store.pairs = s.store.pairs
      ∧ (beginSwap recovery req s).store.nextSeq = s.store.nextSeq
      ∧ (beginSwap recovery req s).store.pending = s.store.pending
      ∧ (beginSwap recovery req s).store.recovery = s.store.recovery := by
  unfold beginSwap
  (repeat' split) <;> simp

@[simp] theorem commitRequest_frame (req : Request) (s : State) :
    (commitRequest req s).run = s.run ∧ (commitRequest req s).lsn = s.lsn ∧ (commitRequest req s).vib = s.vib
      ∧ (commitRequest req s).sca = s.sca ∧ (commitRequest req s).dev = s.dev ∧ (commitRequest req s).lif = s.lif
      ∧ (commitRequest req s).cfg = s.cfg ∧ (commitRequest req s).supplyWarning = s.supplyWarning
      ∧ (commitRequest req s).pins = s.pins ∧ (commitRequest req s).clock = s.clock
      ∧ (commitRequest req s).draws = s.draws ∧ (commitRequest req s).pending = s.pending
      ∧ (commitRequest req s).cyc.record = s.cyc.record ∧ (commitRequest req s).cyc.programme = s.cyc.programme
      ∧ (commitRequest req s).cyc.timerMs = s.cyc.timerMs ∧ (commitRequest req s).cyc.formed = s.cyc.formed
      ∧ (commitRequest req s).peer.table = s.peer.table ∧ (commitRequest req s).peer.lastFull = s.peer.lastFull
      ∧ (commitRequest req s).peer.due = s.peer.due ∧ (commitRequest req s).peer.repeats = s.peer.repeats
      ∧ (commitRequest req s).peer.dupCount = s.peer.dupCount ∧ (commitRequest req s).peer.period = s.peer.period
      ∧ (commitRequest req s).peer.periodLeft = s.peer.periodLeft ∧ (commitRequest req s).leak.armed = s.leak.armed
      ∧ (commitRequest req s).store.flash = s.store.flash ∧ (commitRequest req s).store.pairs = s.store.pairs
      ∧ (commitRequest req s).store.nextSeq = s.store.nextSeq
      ∧ (commitRequest req s).store.recovery = s.store.recovery := by
  unfold commitRequest
  (repeat' split) <;> simp

@[simp] theorem failPending_frame (s : State) :
    (failPending s).run = s.run ∧ (failPending s).lsn = s.lsn ∧ (failPending s).vib = s.vib
      ∧ (failPending s).sca = s.sca ∧ (failPending s).leak = s.leak ∧ (failPending s).dev = s.dev
      ∧ (failPending s).lif = s.lif ∧ (failPending s).cfg = s.cfg ∧ (failPending s).boot = s.boot
      ∧ (failPending s).supplyWarning = s.supplyWarning ∧ (failPending s).pins = s.pins
      ∧ (failPending s).clock = s.clock ∧ (failPending s).draws = s.draws ∧ (failPending s).pending = s.pending
      ∧ (failPending s).cyc.record = s.cyc.record ∧ (failPending s).cyc.programme = s.cyc.programme
      ∧ (failPending s).cyc.timerMs = s.cyc.timerMs ∧ (failPending s).cyc.formed = s.cyc.formed
      ∧ (failPending s).peer.table = s.peer.table ∧ (failPending s).peer.lastFull = s.peer.lastFull
      ∧ (failPending s).peer.due = s.peer.due ∧ (failPending s).peer.repeats = s.peer.repeats
      ∧ (failPending s).peer.dupCount = s.peer.dupCount ∧ (failPending s).peer.period = s.peer.period
      ∧ (failPending s).peer.periodLeft = s.peer.periodLeft ∧ (failPending s).store.flash = s.store.flash
      ∧ (failPending s).store.pairs = s.store.pairs ∧ (failPending s).store.state = s.store.state
      ∧ (failPending s).store.cause = s.store.cause ∧ (failPending s).store.nextSeq = s.store.nextSeq
      ∧ (failPending s).store.swap = s.store.swap ∧ (failPending s).store.recovery = s.store.recovery := by
  unfold failPending
  (repeat' split) <;> simp

@[simp] theorem nextSwap_frame (s : State) :
    (nextSwap s).run = s.run ∧ (nextSwap s).lsn = s.lsn ∧ (nextSwap s).vib = s.vib ∧ (nextSwap s).sca = s.sca
      ∧ (nextSwap s).dev = s.dev ∧ (nextSwap s).lif = s.lif ∧ (nextSwap s).cfg = s.cfg
      ∧ (nextSwap s).supplyWarning = s.supplyWarning ∧ (nextSwap s).pins = s.pins ∧ (nextSwap s).clock = s.clock
      ∧ (nextSwap s).draws = s.draws ∧ (nextSwap s).pending = s.pending ∧ (nextSwap s).cyc.record = s.cyc.record
      ∧ (nextSwap s).cyc.programme = s.cyc.programme ∧ (nextSwap s).cyc.timerMs = s.cyc.timerMs
      ∧ (nextSwap s).cyc.formed = s.cyc.formed ∧ (nextSwap s).peer.table = s.peer.table
      ∧ (nextSwap s).peer.lastFull = s.peer.lastFull ∧ (nextSwap s).peer.due = s.peer.due
      ∧ (nextSwap s).peer.repeats = s.peer.repeats ∧ (nextSwap s).peer.dupCount = s.peer.dupCount
      ∧ (nextSwap s).peer.period = s.peer.period ∧ (nextSwap s).peer.periodLeft = s.peer.periodLeft
      ∧ (nextSwap s).leak.armed = s.leak.armed ∧ (nextSwap s).store.flash = s.store.flash
      ∧ (nextSwap s).store.pairs = s.store.pairs ∧ (nextSwap s).store.nextSeq = s.store.nextSeq
      ∧ (nextSwap s).store.recovery = s.store.recovery := by
  unfold nextSwap
  (repeat' split) <;> simp

@[simp] theorem requestDone_frame (req : Request) (s : State) :
    (requestDone req s).run = s.run ∧ (requestDone req s).lsn = s.lsn ∧ (requestDone req s).vib = s.vib
      ∧ (requestDone req s).sca = s.sca ∧ (requestDone req s).dev = s.dev ∧ (requestDone req s).lif = s.lif
      ∧ (requestDone req s).cfg = s.cfg ∧ (requestDone req s).supplyWarning = s.supplyWarning
      ∧ (requestDone req s).pins = s.pins ∧ (requestDone req s).clock = s.clock
      ∧ (requestDone req s).draws = s.draws ∧ (requestDone req s).pending = s.pending
      ∧ (requestDone req s).cyc.record = s.cyc.record ∧ (requestDone req s).cyc.programme = s.cyc.programme
      ∧ (requestDone req s).cyc.timerMs = s.cyc.timerMs ∧ (requestDone req s).cyc.formed = s.cyc.formed
      ∧ (requestDone req s).peer.table = s.peer.table ∧ (requestDone req s).peer.lastFull = s.peer.lastFull
      ∧ (requestDone req s).peer.due = s.peer.due ∧ (requestDone req s).peer.repeats = s.peer.repeats
      ∧ (requestDone req s).peer.dupCount = s.peer.dupCount ∧ (requestDone req s).peer.period = s.peer.period
      ∧ (requestDone req s).peer.periodLeft = s.peer.periodLeft ∧ (requestDone req s).leak.armed = s.leak.armed
      ∧ (requestDone req s).store.flash = s.store.flash ∧ (requestDone req s).store.pairs = s.store.pairs
      ∧ (requestDone req s).store.nextSeq = s.store.nextSeq ∧ (requestDone req s).store.recovery = s.store.recovery := by
  unfold requestDone
  (repeat' split) <;> simp

@[simp] theorem endSwap_frame (w : Swap) (s : State) :
    (endSwap w s).run = s.run ∧ (endSwap w s).lsn = s.lsn ∧ (endSwap w s).vib = s.vib ∧ (endSwap w s).sca = s.sca
      ∧ (endSwap w s).dev = s.dev ∧ (endSwap w s).lif = s.lif ∧ (endSwap w s).cfg = s.cfg
      ∧ (endSwap w s).supplyWarning = s.supplyWarning ∧ (endSwap w s).pins = s.pins ∧ (endSwap w s).clock = s.clock
      ∧ (endSwap w s).draws = s.draws ∧ (endSwap w s).pending = s.pending ∧ (endSwap w s).cyc.record = s.cyc.record
      ∧ (endSwap w s).cyc.programme = s.cyc.programme ∧ (endSwap w s).cyc.timerMs = s.cyc.timerMs
      ∧ (endSwap w s).cyc.formed = s.cyc.formed ∧ (endSwap w s).peer.table = s.peer.table
      ∧ (endSwap w s).peer.lastFull = s.peer.lastFull ∧ (endSwap w s).peer.due = s.peer.due
      ∧ (endSwap w s).peer.repeats = s.peer.repeats ∧ (endSwap w s).peer.dupCount = s.peer.dupCount
      ∧ (endSwap w s).peer.period = s.peer.period ∧ (endSwap w s).peer.periodLeft = s.peer.periodLeft
      ∧ (endSwap w s).leak.armed = s.leak.armed := by
  unfold endSwap
  (repeat' split) <;> simp

@[simp] theorem cutSwap_frame (w : Swap) (s : State) :
    (cutSwap w s).cyc = s.cyc ∧ (cutSwap w s).peer = s.peer ∧ (cutSwap w s).run = s.run ∧ (cutSwap w s).lsn = s.lsn
      ∧ (cutSwap w s).vib = s.vib ∧ (cutSwap w s).sca = s.sca ∧ (cutSwap w s).leak = s.leak
      ∧ (cutSwap w s).dev = s.dev ∧ (cutSwap w s).lif = s.lif ∧ (cutSwap w s).cfg = s.cfg
      ∧ (cutSwap w s).boot = s.boot ∧ (cutSwap w s).supplyWarning = s.supplyWarning ∧ (cutSwap w s).pins = s.pins
      ∧ (cutSwap w s).clock = s.clock ∧ (cutSwap w s).pending = s.pending
      ∧ (cutSwap w s).store.pairs = s.store.pairs ∧ (cutSwap w s).store.state = s.store.state
      ∧ (cutSwap w s).store.cause = s.store.cause ∧ (cutSwap w s).store.nextSeq = s.store.nextSeq
      ∧ (cutSwap w s).store.pending = s.store.pending ∧ (cutSwap w s).store.recovery = s.store.recovery := by
  refine ⟨rfl, rfl, rfl, rfl, rfl, rfl, rfl, rfl, rfl, rfl, rfl, rfl, rfl, rfl, rfl, rfl, rfl, rfl, rfl, rfl, rfl⟩

@[simp] theorem verifyFailure_frame (w : Swap) (s : State) :
    (verifyFailure w s).run = s.run ∧ (verifyFailure w s).lsn = s.lsn ∧ (verifyFailure w s).vib = s.vib
      ∧ (verifyFailure w s).sca = s.sca ∧ (verifyFailure w s).dev = s.dev ∧ (verifyFailure w s).lif = s.lif
      ∧ (verifyFailure w s).cfg = s.cfg ∧ (verifyFailure w s).supplyWarning = s.supplyWarning
      ∧ (verifyFailure w s).pins = s.pins ∧ (verifyFailure w s).clock = s.clock
      ∧ (verifyFailure w s).pending = s.pending ∧ (verifyFailure w s).cyc.record = s.cyc.record
      ∧ (verifyFailure w s).cyc.programme = s.cyc.programme ∧ (verifyFailure w s).cyc.timerMs = s.cyc.timerMs
      ∧ (verifyFailure w s).cyc.formed = s.cyc.formed ∧ (verifyFailure w s).peer.table = s.peer.table
      ∧ (verifyFailure w s).peer.lastFull = s.peer.lastFull ∧ (verifyFailure w s).peer.due = s.peer.due
      ∧ (verifyFailure w s).peer.repeats = s.peer.repeats ∧ (verifyFailure w s).peer.dupCount = s.peer.dupCount
      ∧ (verifyFailure w s).peer.period = s.peer.period ∧ (verifyFailure w s).peer.periodLeft = s.peer.periodLeft
      ∧ (verifyFailure w s).leak.armed = s.leak.armed ∧ (verifyFailure w s).store.pairs = s.store.pairs
      ∧ (verifyFailure w s).store.nextSeq = s.store.nextSeq ∧ (verifyFailure w s).store.recovery = s.store.recovery := by
  unfold verifyFailure
  (repeat' split) <;> simp

@[simp] theorem swapStep_frame (w : Swap) (s : State) :
    (swapStep w s).cyc = s.cyc ∧ (swapStep w s).peer = s.peer ∧ (swapStep w s).run = s.run
      ∧ (swapStep w s).lsn = s.lsn ∧ (swapStep w s).vib = s.vib ∧ (swapStep w s).sca = s.sca
      ∧ (swapStep w s).leak = s.leak ∧ (swapStep w s).dev = s.dev ∧ (swapStep w s).lif = s.lif
      ∧ (swapStep w s).cfg = s.cfg ∧ (swapStep w s).boot = s.boot ∧ (swapStep w s).supplyWarning = s.supplyWarning
      ∧ (swapStep w s).pins = s.pins ∧ (swapStep w s).clock = s.clock ∧ (swapStep w s).draws = s.draws
      ∧ (swapStep w s).pending = s.pending ∧ (swapStep w s).store.pairs = s.store.pairs
      ∧ (swapStep w s).store.state = s.store.state ∧ (swapStep w s).store.cause = s.store.cause
      ∧ (swapStep w s).store.nextSeq = s.store.nextSeq ∧ (swapStep w s).store.pending = s.store.pending
      ∧ (swapStep w s).store.recovery = s.store.recovery := by
  refine ⟨rfl, rfl, rfl, rfl, rfl, rfl, rfl, rfl, rfl, rfl, rfl, rfl, rfl, rfl, rfl, rfl, rfl, rfl, rfl, rfl, rfl, rfl⟩

@[simp] theorem scanDone_frame (s : State) :
    (scanDone s).run = s.run ∧ (scanDone s).lsn = s.lsn ∧ (scanDone s).vib = s.vib ∧ (scanDone s).sca = s.sca
      ∧ (scanDone s).dev = s.dev ∧ (scanDone s).lif = s.lif ∧ (scanDone s).cfg = s.cfg
      ∧ (scanDone s).supplyWarning = s.supplyWarning ∧ (scanDone s).pins = s.pins ∧ (scanDone s).clock = s.clock
      ∧ (scanDone s).draws = s.draws ∧ (scanDone s).pending = s.pending ∧ (scanDone s).cyc.record = s.cyc.record
      ∧ (scanDone s).cyc.programme = s.cyc.programme ∧ (scanDone s).cyc.timerMs = s.cyc.timerMs
      ∧ (scanDone s).cyc.formed = s.cyc.formed ∧ (scanDone s).peer.table = s.peer.table
      ∧ (scanDone s).peer.lastFull = s.peer.lastFull ∧ (scanDone s).peer.due = s.peer.due
      ∧ (scanDone s).peer.repeats = s.peer.repeats ∧ (scanDone s).peer.dupCount = s.peer.dupCount
      ∧ (scanDone s).peer.period = s.peer.period ∧ (scanDone s).peer.periodLeft = s.peer.periodLeft
      ∧ (scanDone s).leak.armed = s.leak.armed := by
  unfold scanDone
  dsimp only
  (repeat' split) <;> simp

@[simp] theorem heldSwap_frame (s : State) :
    (heldSwap s).run = s.run ∧ (heldSwap s).lsn = s.lsn ∧ (heldSwap s).vib = s.vib ∧ (heldSwap s).sca = s.sca
      ∧ (heldSwap s).dev = s.dev ∧ (heldSwap s).lif = s.lif ∧ (heldSwap s).cfg = s.cfg
      ∧ (heldSwap s).supplyWarning = s.supplyWarning ∧ (heldSwap s).pins = s.pins ∧ (heldSwap s).clock = s.clock
      ∧ (heldSwap s).draws = s.draws ∧ (heldSwap s).pending = s.pending ∧ (heldSwap s).cyc.record = s.cyc.record
      ∧ (heldSwap s).cyc.programme = s.cyc.programme ∧ (heldSwap s).cyc.timerMs = s.cyc.timerMs
      ∧ (heldSwap s).cyc.formed = s.cyc.formed ∧ (heldSwap s).peer.table = s.peer.table
      ∧ (heldSwap s).peer.lastFull = s.peer.lastFull ∧ (heldSwap s).peer.due = s.peer.due
      ∧ (heldSwap s).peer.repeats = s.peer.repeats ∧ (heldSwap s).peer.dupCount = s.peer.dupCount
      ∧ (heldSwap s).peer.period = s.peer.period ∧ (heldSwap s).peer.periodLeft = s.peer.periodLeft
      ∧ (heldSwap s).leak.armed = s.leak.armed ∧ (heldSwap s).store.flash = s.store.flash
      ∧ (heldSwap s).store.pairs = s.store.pairs ∧ (heldSwap s).store.nextSeq = s.store.nextSeq := by
  unfold heldSwap
  (repeat' split) <;> simp

@[simp] theorem setWarning_frame (on : Bool) (s : State) :
    (setWarning on s).cyc = s.cyc ∧ (setWarning on s).run = s.run ∧ (setWarning on s).lsn = s.lsn
      ∧ (setWarning on s).vib = s.vib ∧ (setWarning on s).sca = s.sca ∧ (setWarning on s).leak = s.leak
      ∧ (setWarning on s).dev = s.dev ∧ (setWarning on s).store = s.store ∧ (setWarning on s).lif = s.lif
      ∧ (setWarning on s).cfg = s.cfg ∧ (setWarning on s).boot = s.boot ∧ (setWarning on s).pins = s.pins
      ∧ (setWarning on s).clock = s.clock ∧ (setWarning on s).draws = s.draws
      ∧ (setWarning on s).pending = s.pending ∧ (setWarning on s).peer.table = s.peer.table
      ∧ (setWarning on s).peer.lastFull = s.peer.lastFull ∧ (setWarning on s).peer.due = s.peer.due
      ∧ (setWarning on s).peer.repeats = s.peer.repeats ∧ (setWarning on s).peer.dupCount = s.peer.dupCount
      ∧ (setWarning on s).peer.period = s.peer.period ∧ (setWarning on s).peer.periodLeft = s.peer.periodLeft
      ∧ (setWarning on s).peer.posting.cycleState = s.peer.posting.cycleState
      ∧ (setWarning on s).peer.posting.programme = s.peer.posting.programme
      ∧ (setWarning on s).peer.posting.openSeq = s.peer.posting.openSeq
      ∧ (setWarning on s).peer.posting.lastVerdict = s.peer.posting.lastVerdict
      ∧ (setWarning on s).peer.posting.acoustic = s.peer.posting.acoustic
      ∧ (setWarning on s).peer.posting.listen = s.peer.posting.listen
      ∧ (setWarning on s).peer.posting.listenAge = s.peer.posting.listenAge
      ∧ (setWarning on s).peer.posting.air1 = s.peer.posting.air1
      ∧ (setWarning on s).peer.posting.air2 = s.peer.posting.air2
      ∧ (setWarning on s).peer.posting.airAge = s.peer.posting.airAge
      ∧ (setWarning on s).peer.posting.demand = s.peer.posting.demand
      ∧ (setWarning on s).peer.posting.yielding = s.peer.posting.yielding
      ∧ (setWarning on s).peer.posting.unconfigured = s.peer.posting.unconfigured
      ∧ (setWarning on s).peer.posting.dupStation = s.peer.posting.dupStation
      ∧ (setWarning on s).peer.posting.storeFault = s.peer.posting.storeFault
      ∧ (setWarning on s).peer.posting.resetCause = s.peer.posting.resetCause := by
  refine ⟨rfl, rfl, rfl, rfl, rfl, rfl, rfl, rfl, rfl, rfl, rfl, rfl, rfl, rfl, rfl, rfl, rfl, rfl, rfl, rfl, rfl, rfl, rfl, rfl, rfl, rfl, rfl, rfl, rfl, rfl, rfl, rfl, rfl, rfl, rfl, rfl, rfl, rfl⟩

end Sys2Proof.Machine
end

