-- ==== Sys2Proof/Laws/Jobs.lean ====
section
/-! SUPPORT. What each operation of the noise check, the quiet windows and the leak test leaves as it is. -/
namespace Sys2Proof.Machine

@[simp] theorem assessShare_frame (s : State) :
    (assessShare s).cyc = s.cyc ∧ (assessShare s).peer = s.peer ∧ (assessShare s).run = s.run
      ∧ (assessShare s).lsn = s.lsn ∧ (assessShare s).sca = s.sca ∧ (assessShare s).leak = s.leak
      ∧ (assessShare s).store = s.store ∧ (assessShare s).lif = s.lif ∧ (assessShare s).cfg = s.cfg
      ∧ (assessShare s).boot = s.boot ∧ (assessShare s).supplyWarning = s.supplyWarning
      ∧ (assessShare s).pins = s.pins ∧ (assessShare s).clock = s.clock ∧ (assessShare s).draws = s.draws
      ∧ (assessShare s).pending = s.pending := by
  unfold assessShare
  (repeat' split) <;> simp

@[simp] theorem writeSummary_frame (s : State) :
    (writeSummary s).peer = s.peer ∧ (writeSummary s).run = s.run ∧ (writeSummary s).lsn = s.lsn
      ∧ (writeSummary s).sca = s.sca ∧ (writeSummary s).leak = s.leak ∧ (writeSummary s).dev = s.dev
      ∧ (writeSummary s).store = s.store ∧ (writeSummary s).lif = s.lif ∧ (writeSummary s).cfg = s.cfg
      ∧ (writeSummary s).boot = s.boot ∧ (writeSummary s).supplyWarning = s.supplyWarning
      ∧ (writeSummary s).pins = s.pins ∧ (writeSummary s).clock = s.clock ∧ (writeSummary s).draws = s.draws
      ∧ (writeSummary s).pending = s.pending ∧ (writeSummary s).cyc.station = s.cyc.station
      ∧ (writeSummary s).cyc.programme = s.cyc.programme ∧ (writeSummary s).cyc.timerMs = s.cyc.timerMs
      ∧ (writeSummary s).cyc.formed = s.cyc.formed ∧ (writeSummary s).vib.state = s.vib.state := by
  refine ⟨rfl, rfl, rfl, rfl, rfl, rfl, rfl, rfl, rfl, rfl, rfl, rfl, rfl, rfl, rfl, rfl, rfl, rfl, rfl, rfl⟩

@[simp] theorem deriveContamination_frame (s : State) :
    (deriveContamination s).cyc = s.cyc ∧ (deriveContamination s).peer = s.peer
      ∧ (deriveContamination s).run = s.run ∧ (deriveContamination s).sca = s.sca
      ∧ (deriveContamination s).leak = s.leak ∧ (deriveContamination s).dev = s.dev
      ∧ (deriveContamination s).store = s.store ∧ (deriveContamination s).lif = s.lif
      ∧ (deriveContamination s).cfg = s.cfg ∧ (deriveContamination s).boot = s.boot
      ∧ (deriveContamination s).supplyWarning = s.supplyWarning ∧ (deriveContamination s).pins = s.pins
      ∧ (deriveContamination s).clock = s.clock ∧ (deriveContamination s).draws = s.draws
      ∧ (deriveContamination s).pending = s.pending ∧ (deriveContamination s).lsn.state = s.lsn.state
      ∧ (deriveContamination s).lsn.claimAge = s.lsn.claimAge ∧ (deriveContamination s).lsn.settle = s.lsn.settle := by
  refine ⟨rfl, rfl, rfl, rfl, rfl, rfl, rfl, rfl, rfl, rfl, rfl, rfl, rfl, rfl, rfl, rfl, rfl, rfl⟩

@[simp] theorem postListen_frame (l : Listen) (s : State) :
    (postListen l s).cyc = s.cyc ∧ (postListen l s).run = s.run ∧ (postListen l s).lsn = s.lsn
      ∧ (postListen l s).vib = s.vib ∧ (postListen l s).sca = s.sca ∧ (postListen l s).leak = s.leak
      ∧ (postListen l s).dev = s.dev ∧ (postListen l s).store = s.store ∧ (postListen l s).lif = s.lif
      ∧ (postListen l s).cfg = s.cfg ∧ (postListen l s).boot = s.boot
      ∧ (postListen l s).supplyWarning = s.supplyWarning ∧ (postListen l s).pins = s.pins
      ∧ (postListen l s).clock = s.clock ∧ (postListen l s).draws = s.draws ∧ (postListen l s).pending = s.pending
      ∧ (postListen l s).peer.table = s.peer.table ∧ (postListen l s).peer.lastFull = s.peer.lastFull
      ∧ (postListen l s).peer.due = s.peer.due ∧ (postListen l s).peer.repeats = s.peer.repeats
      ∧ (postListen l s).peer.dupCount = s.peer.dupCount ∧ (postListen l s).peer.period = s.peer.period
      ∧ (postListen l s).peer.periodLeft = s.peer.periodLeft
      ∧ (postListen l s).peer.posting.cycleState = s.peer.posting.cycleState
      ∧ (postListen l s).peer.posting.programme = s.peer.posting.programme
      ∧ (postListen l s).peer.posting.openSeq = s.peer.posting.openSeq
      ∧ (postListen l s).peer.posting.lastVerdict = s.peer.posting.lastVerdict
      ∧ (postListen l s).peer.posting.acoustic = s.peer.posting.acoustic
      ∧ (postListen l s).peer.posting.listenAge = s.peer.posting.listenAge
      ∧ (postListen l s).peer.posting.air1 = s.peer.posting.air1
      ∧ (postListen l s).peer.posting.air2 = s.peer.posting.air2
      ∧ (postListen l s).peer.posting.airAge = s.peer.posting.airAge
      ∧ (postListen l s).peer.posting.demand = s.peer.posting.demand
      ∧ (postListen l s).peer.posting.yielding = s.peer.posting.yielding
      ∧ (postListen l s).peer.posting.unconfigured = s.peer.posting.unconfigured
      ∧ (postListen l s).peer.posting.dupStation = s.peer.posting.dupStation
      ∧ (postListen l s).peer.posting.storeFault = s.peer.posting.storeFault
      ∧ (postListen l s).peer.posting.supplyWarning = s.peer.posting.supplyWarning
      ∧ (postListen l s).peer.posting.resetCause = s.peer.posting.resetCause := by
  refine ⟨rfl, rfl, rfl, rfl, rfl, rfl, rfl, rfl, rfl, rfl, rfl, rfl, rfl, rfl, rfl, rfl, rfl, rfl, rfl, rfl, rfl, rfl, rfl, rfl, rfl, rfl, rfl, rfl, rfl, rfl, rfl, rfl, rfl, rfl, rfl, rfl, rfl, rfl, rfl⟩

@[simp] theorem enterClaiming_frame (s : State) :
    (enterClaiming s).cyc = s.cyc ∧ (enterClaiming s).run = s.run ∧ (enterClaiming s).vib = s.vib
      ∧ (enterClaiming s).sca = s.sca ∧ (enterClaiming s).leak = s.leak ∧ (enterClaiming s).dev = s.dev
      ∧ (enterClaiming s).store = s.store ∧ (enterClaiming s).lif = s.lif ∧ (enterClaiming s).cfg = s.cfg
      ∧ (enterClaiming s).boot = s.boot ∧ (enterClaiming s).supplyWarning = s.supplyWarning
      ∧ (enterClaiming s).pins = s.pins ∧ (enterClaiming s).clock = s.clock ∧ (enterClaiming s).draws = s.draws
      ∧ (enterClaiming s).pending = s.pending ∧ (enterClaiming s).peer.table = s.peer.table
      ∧ (enterClaiming s).peer.lastFull = s.peer.lastFull ∧ (enterClaiming s).peer.due = s.peer.due
      ∧ (enterClaiming s).peer.repeats = s.peer.repeats ∧ (enterClaiming s).peer.dupCount = s.peer.dupCount
      ∧ (enterClaiming s).peer.period = s.peer.period ∧ (enterClaiming s).peer.periodLeft = s.peer.periodLeft
      ∧ (enterClaiming s).peer.posting.cycleState = s.peer.posting.cycleState
      ∧ (enterClaiming s).peer.posting.programme = s.peer.posting.programme
      ∧ (enterClaiming s).peer.posting.openSeq = s.peer.posting.openSeq
      ∧ (enterClaiming s).peer.posting.lastVerdict = s.peer.posting.lastVerdict
      ∧ (enterClaiming s).peer.posting.acoustic = s.peer.posting.acoustic
      ∧ (enterClaiming s).peer.posting.listenAge = s.peer.posting.listenAge
      ∧ (enterClaiming s).peer.posting.air1 = s.peer.posting.air1
      ∧ (enterClaiming s).peer.posting.air2 = s.peer.posting.air2
      ∧ (enterClaiming s).peer.posting.airAge = s.peer.posting.airAge
      ∧ (enterClaiming s).peer.posting.demand = s.peer.posting.demand
      ∧ (enterClaiming s).peer.posting.yielding = s.peer.posting.yielding
      ∧ (enterClaiming s).peer.posting.unconfigured = s.peer.posting.unconfigured
      ∧ (enterClaiming s).peer.posting.dupStation = s.peer.posting.dupStation
      ∧ (enterClaiming s).peer.posting.storeFault = s.peer.posting.storeFault
      ∧ (enterClaiming s).peer.posting.supplyWarning = s.peer.posting.supplyWarning
      ∧ (enterClaiming s).peer.posting.resetCause = s.peer.posting.resetCause
      ∧ (enterClaiming s).lsn.claimAge = s.lsn.claimAge ∧ (enterClaiming s).lsn.contamination = s.lsn.contamination := by
  refine ⟨rfl, rfl, rfl, rfl, rfl, rfl, rfl, rfl, rfl, rfl, rfl, rfl, rfl, rfl, rfl, rfl, rfl, rfl, rfl, rfl, rfl, rfl, rfl, rfl, rfl, rfl, rfl, rfl, rfl, rfl, rfl, rfl, rfl, rfl, rfl, rfl, rfl, rfl, rfl, rfl⟩

@[simp] theorem enterDeferring_frame (s : State) :
    (enterDeferring s).cyc = s.cyc ∧ (enterDeferring s).run = s.run ∧ (enterDeferring s).vib = s.vib
      ∧ (enterDeferring s).sca = s.sca ∧ (enterDeferring s).leak = s.leak ∧ (enterDeferring s).dev = s.dev
      ∧ (enterDeferring s).store = s.store ∧ (enterDeferring s).lif = s.lif ∧ (enterDeferring s).cfg = s.cfg
      ∧ (enterDeferring s).boot = s.boot ∧ (enterDeferring s).supplyWarning = s.supplyWarning
      ∧ (enterDeferring s).pins = s.pins ∧ (enterDeferring s).clock = s.clock ∧ (enterDeferring s).draws = s.draws
      ∧ (enterDeferring s).pending = s.pending ∧ (enterDeferring s).peer.table = s.peer.table
      ∧ (enterDeferring s).peer.lastFull = s.peer.lastFull ∧ (enterDeferring s).peer.due = s.peer.due
      ∧ (enterDeferring s).peer.repeats = s.peer.repeats ∧ (enterDeferring s).peer.dupCount = s.peer.dupCount
      ∧ (enterDeferring s).peer.period = s.peer.period ∧ (enterDeferring s).peer.periodLeft = s.peer.periodLeft
      ∧ (enterDeferring s).peer.posting.cycleState = s.peer.posting.cycleState
      ∧ (enterDeferring s).peer.posting.programme = s.peer.posting.programme
      ∧ (enterDeferring s).peer.posting.openSeq = s.peer.posting.openSeq
      ∧ (enterDeferring s).peer.posting.lastVerdict = s.peer.posting.lastVerdict
      ∧ (enterDeferring s).peer.posting.acoustic = s.peer.posting.acoustic
      ∧ (enterDeferring s).peer.posting.listenAge = s.peer.posting.listenAge
      ∧ (enterDeferring s).peer.posting.air1 = s.peer.posting.air1
      ∧ (enterDeferring s).peer.posting.air2 = s.peer.posting.air2
      ∧ (enterDeferring s).peer.posting.airAge = s.peer.posting.airAge
      ∧ (enterDeferring s).peer.posting.demand = s.peer.posting.demand
      ∧ (enterDeferring s).peer.posting.yielding = s.peer.posting.yielding
      ∧ (enterDeferring s).peer.posting.unconfigured = s.peer.posting.unconfigured
      ∧ (enterDeferring s).peer.posting.dupStation = s.peer.posting.dupStation
      ∧ (enterDeferring s).peer.posting.storeFault = s.peer.posting.storeFault
      ∧ (enterDeferring s).peer.posting.supplyWarning = s.peer.posting.supplyWarning
      ∧ (enterDeferring s).peer.posting.resetCause = s.peer.posting.resetCause
      ∧ (enterDeferring s).lsn.claimAge = s.lsn.claimAge ∧ (enterDeferring s).lsn.settle = s.lsn.settle
      ∧ (enterDeferring s).lsn.contamination = s.lsn.contamination := by
  refine ⟨rfl, rfl, rfl, rfl, rfl, rfl, rfl, rfl, rfl, rfl, rfl, rfl, rfl, rfl, rfl, rfl, rfl, rfl, rfl, rfl, rfl, rfl, rfl, rfl, rfl, rfl, rfl, rfl, rfl, rfl, rfl, rfl, rfl, rfl, rfl, rfl, rfl, rfl, rfl, rfl, rfl⟩

@[simp] theorem enterListening_frame (s : State) :
    (enterListening s).cyc = s.cyc ∧ (enterListening s).sca = s.sca ∧ (enterListening s).leak = s.leak
      ∧ (enterListening s).dev = s.dev ∧ (enterListening s).store = s.store ∧ (enterListening s).lif = s.lif
      ∧ (enterListening s).cfg = s.cfg ∧ (enterListening s).boot = s.boot
      ∧ (enterListening s).supplyWarning = s.supplyWarning ∧ (enterListening s).pins = s.pins
      ∧ (enterListening s).clock = s.clock ∧ (enterListening s).draws = s.draws
      ∧ (enterListening s).pending = s.pending ∧ (enterListening s).peer.table = s.peer.table
      ∧ (enterListening s).peer.lastFull = s.peer.lastFull ∧ (enterListening s).peer.due = s.peer.due
      ∧ (enterListening s).peer.repeats = s.peer.repeats ∧ (enterListening s).peer.dupCount = s.peer.dupCount
      ∧ (enterListening s).peer.period = s.peer.period ∧ (enterListening s).peer.periodLeft = s.peer.periodLeft
      ∧ (enterListening s).peer.posting.cycleState = s.peer.posting.cycleState
      ∧ (enterListening s).peer.posting.programme = s.peer.posting.programme
      ∧ (enterListening s).peer.posting.openSeq = s.peer.posting.openSeq
      ∧ (enterListening s).peer.posting.lastVerdict = s.peer.posting.lastVerdict
      ∧ (enterListening s).peer.posting.acoustic = s.peer.posting.acoustic
      ∧ (enterListening s).peer.posting.listenAge = s.peer.posting.listenAge
      ∧ (enterListening s).peer.posting.air1 = s.peer.posting.air1
      ∧ (enterListening s).peer.posting.air2 = s.peer.posting.air2
      ∧ (enterListening s).peer.posting.airAge = s.peer.posting.airAge
      ∧ (enterListening s).peer.posting.demand = s.peer.posting.demand
      ∧ (enterListening s).peer.posting.yielding = s.peer.posting.yielding
      ∧ (enterListening s).peer.posting.unconfigured = s.peer.posting.unconfigured
      ∧ (enterListening s).peer.posting.dupStation = s.peer.posting.dupStation
      ∧ (enterListening s).peer.posting.storeFault = s.peer.posting.storeFault
      ∧ (enterListening s).peer.posting.supplyWarning = s.peer.posting.supplyWarning
      ∧ (enterListening s).peer.posting.resetCause = s.peer.posting.resetCause
      ∧ (enterListening s).lsn.claimAge = s.lsn.claimAge ∧ (enterListening s).lsn.settle = s.lsn.settle
      ∧ (enterListening s).lsn.contamination = s.lsn.contamination := by
  refine ⟨rfl, rfl, rfl, rfl, rfl, rfl, rfl, rfl, rfl, rfl, rfl, rfl, rfl, rfl, rfl, rfl, rfl, rfl, rfl, rfl, rfl, rfl, rfl, rfl, rfl, rfl, rfl, rfl, rfl, rfl, rfl, rfl, rfl, rfl, rfl, rfl, rfl, rfl, rfl⟩

@[simp] theorem postListenAge_frame (s : State) :
    (postListenAge s).cyc = s.cyc ∧ (postListenAge s).run = s.run ∧ (postListenAge s).lsn = s.lsn
      ∧ (postListenAge s).vib = s.vib ∧ (postListenAge s).sca = s.sca ∧ (postListenAge s).leak = s.leak
      ∧ (postListenAge s).dev = s.dev ∧ (postListenAge s).store = s.store ∧ (postListenAge s).lif = s.lif
      ∧ (postListenAge s).cfg = s.cfg ∧ (postListenAge s).boot = s.boot
      ∧ (postListenAge s).supplyWarning = s.supplyWarning ∧ (postListenAge s).pins = s.pins
      ∧ (postListenAge s).clock = s.clock ∧ (postListenAge s).draws = s.draws
      ∧ (postListenAge s).pending = s.pending ∧ (postListenAge s).peer.table = s.peer.table
      ∧ (postListenAge s).peer.lastFull = s.peer.lastFull ∧ (postListenAge s).peer.due = s.peer.due
      ∧ (postListenAge s).peer.repeats = s.peer.repeats ∧ (postListenAge s).peer.dupCount = s.peer.dupCount
      ∧ (postListenAge s).peer.period = s.peer.period ∧ (postListenAge s).peer.periodLeft = s.peer.periodLeft
      ∧ (postListenAge s).peer.posting.cycleState = s.peer.posting.cycleState
      ∧ (postListenAge s).peer.posting.programme = s.peer.posting.programme
      ∧ (postListenAge s).peer.posting.openSeq = s.peer.posting.openSeq
      ∧ (postListenAge s).peer.posting.lastVerdict = s.peer.posting.lastVerdict
      ∧ (postListenAge s).peer.posting.acoustic = s.peer.posting.acoustic
      ∧ (postListenAge s).peer.posting.listen = s.peer.posting.listen
      ∧ (postListenAge s).peer.posting.air1 = s.peer.posting.air1
      ∧ (postListenAge s).peer.posting.air2 = s.peer.posting.air2
      ∧ (postListenAge s).peer.posting.airAge = s.peer.posting.airAge
      ∧ (postListenAge s).peer.posting.demand = s.peer.posting.demand
      ∧ (postListenAge s).peer.posting.yielding = s.peer.posting.yielding
      ∧ (postListenAge s).peer.posting.unconfigured = s.peer.posting.unconfigured
      ∧ (postListenAge s).peer.posting.dupStation = s.peer.posting.dupStation
      ∧ (postListenAge s).peer.posting.storeFault = s.peer.posting.storeFault
      ∧ (postListenAge s).peer.posting.supplyWarning = s.peer.posting.supplyWarning
      ∧ (postListenAge s).peer.posting.resetCause = s.peer.posting.resetCause := by
  refine ⟨rfl, rfl, rfl, rfl, rfl, rfl, rfl, rfl, rfl, rfl, rfl, rfl, rfl, rfl, rfl, rfl, rfl, rfl, rfl, rfl, rfl, rfl, rfl, rfl, rfl, rfl, rfl, rfl, rfl, rfl, rfl, rfl, rfl, rfl, rfl, rfl, rfl, rfl, rfl⟩

@[simp] theorem lsnBegin_frame (s : State) :
    (lsnBegin s).cyc = s.cyc ∧ (lsnBegin s).run = s.run ∧ (lsnBegin s).vib = s.vib ∧ (lsnBegin s).sca = s.sca
      ∧ (lsnBegin s).leak = s.leak ∧ (lsnBegin s).dev = s.dev ∧ (lsnBegin s).store = s.store
      ∧ (lsnBegin s).lif = s.lif ∧ (lsnBegin s).cfg = s.cfg ∧ (lsnBegin s).boot = s.boot
      ∧ (lsnBegin s).supplyWarning = s.supplyWarning ∧ (lsnBegin s).pins = s.pins ∧ (lsnBegin s).clock = s.clock
      ∧ (lsnBegin s).draws = s.draws ∧ (lsnBegin s).pending = s.pending ∧ (lsnBegin s).peer.table = s.peer.table
      ∧ (lsnBegin s).peer.lastFull = s.peer.lastFull ∧ (lsnBegin s).peer.due = s.peer.due
      ∧ (lsnBegin s).peer.repeats = s.peer.repeats ∧ (lsnBegin s).peer.dupCount = s.peer.dupCount
      ∧ (lsnBegin s).peer.period = s.peer.period ∧ (lsnBegin s).peer.periodLeft = s.peer.periodLeft
      ∧ (lsnBegin s).peer.posting.cycleState = s.peer.posting.cycleState
      ∧ (lsnBegin s).peer.posting.programme = s.peer.posting.programme
      ∧ (lsnBegin s).peer.posting.openSeq = s.peer.posting.openSeq
      ∧ (lsnBegin s).peer.posting.lastVerdict = s.peer.posting.lastVerdict
      ∧ (lsnBegin s).peer.posting.acoustic = s.peer.posting.acoustic
      ∧ (lsnBegin s).peer.posting.air1 = s.peer.posting.air1 ∧ (lsnBegin s).peer.posting.air2 = s.peer.posting.air2
      ∧ (lsnBegin s).peer.posting.airAge = s.peer.posting.airAge
      ∧ (lsnBegin s).peer.posting.demand = s.peer.posting.demand
      ∧ (lsnBegin s).peer.posting.yielding = s.peer.posting.yielding
      ∧ (lsnBegin s).peer.posting.unconfigured = s.peer.posting.unconfigured
      ∧ (lsnBegin s).peer.posting.dupStation = s.peer.posting.dupStation
      ∧ (lsnBegin s).peer.posting.storeFault = s.peer.posting.storeFault
      ∧ (lsnBegin s).peer.posting.supplyWarning = s.peer.posting.supplyWarning
      ∧ (lsnBegin s).peer.posting.resetCause = s.peer.posting.resetCause
      ∧ (lsnBegin s).lsn.contamination = s.lsn.contamination := by
  refine ⟨?_, ?_, ?_, ?_, ?_, ?_, ?_, ?_, ?_, ?_, ?_, ?_, ?_, ?_, ?_, ?_, ?_, ?_, ?_, ?_, ?_, ?_, ?_, ?_, ?_, ?_, ?_, ?_, ?_, ?_, ?_, ?_, ?_, ?_, ?_, ?_, ?_, ?_⟩ <;>
  first
  | rfl
  | (simp [lsnBegin]; done)
  | (unfold lsnBegin; (repeat' split) <;> simp; done)
  | (unfold lsnBegin; dsimp only; (repeat' split) <;> simp; done)
  | (unfold lsnBegin; dsimp only; (repeat' split) <;> rfl)

@[simp] theorem settleExpiry_frame (s : State) :
    (settleExpiry s).cyc = s.cyc ∧ (settleExpiry s).sca = s.sca ∧ (settleExpiry s).leak = s.leak
      ∧ (settleExpiry s).dev = s.dev ∧ (settleExpiry s).store = s.store ∧ (settleExpiry s).lif = s.lif
      ∧ (settleExpiry s).cfg = s.cfg ∧ (settleExpiry s).boot = s.boot
      ∧ (settleExpiry s).supplyWarning = s.supplyWarning ∧ (settleExpiry s).pins = s.pins
      ∧ (settleExpiry s).clock = s.clock ∧ (settleExpiry s).draws = s.draws ∧ (settleExpiry s).pending = s.pending
      ∧ (settleExpiry s).peer.table = s.peer.table ∧ (settleExpiry s).peer.lastFull = s.peer.lastFull
      ∧ (settleExpiry s).peer.due = s.peer.due ∧ (settleExpiry s).peer.repeats = s.peer.repeats
      ∧ (settleExpiry s).peer.dupCount = s.peer.dupCount ∧ (settleExpiry s).peer.period = s.peer.period
      ∧ (settleExpiry s).peer.periodLeft = s.peer.periodLeft
      ∧ (settleExpiry s).peer.posting.cycleState = s.peer.posting.cycleState
      ∧ (settleExpiry s).peer.posting.programme = s.peer.posting.programme
      ∧ (settleExpiry s).peer.posting.openSeq = s.peer.posting.openSeq
      ∧ (settleExpiry s).peer.posting.lastVerdict = s.peer.posting.lastVerdict
      ∧ (settleExpiry s).peer.posting.acoustic = s.peer.posting.acoustic
      ∧ (settleExpiry s).peer.posting.listenAge = s.peer.posting.listenAge
      ∧ (settleExpiry s).peer.posting.air1 = s.peer.posting.air1
      ∧ (settleExpiry s).peer.posting.air2 = s.peer.posting.air2
      ∧ (settleExpiry s).peer.posting.airAge = s.peer.posting.airAge
      ∧ (settleExpiry s).peer.posting.demand = s.peer.posting.demand
      ∧ (settleExpiry s).peer.posting.yielding = s.peer.posting.yielding
      ∧ (settleExpiry s).peer.posting.unconfigured = s.peer.posting.unconfigured
      ∧ (settleExpiry s).peer.posting.dupStation = s.peer.posting.dupStation
      ∧ (settleExpiry s).peer.posting.storeFault = s.peer.posting.storeFault
      ∧ (settleExpiry s).peer.posting.supplyWarning = s.peer.posting.supplyWarning
      ∧ (settleExpiry s).peer.posting.resetCause = s.peer.posting.resetCause
      ∧ (settleExpiry s).lsn.claimAge = s.lsn.claimAge ∧ (settleExpiry s).lsn.settle = s.lsn.settle
      ∧ (settleExpiry s).lsn.contamination = s.lsn.contamination := by
  unfold settleExpiry
  (repeat' split) <;> simp

@[simp] theorem settleStep_frame (s : State) :
    (settleStep s).cyc = s.cyc ∧ (settleStep s).sca = s.sca ∧ (settleStep s).leak = s.leak
      ∧ (settleStep s).dev = s.dev ∧ (settleStep s).store = s.store ∧ (settleStep s).lif = s.lif
      ∧ (settleStep s).cfg = s.cfg ∧ (settleStep s).boot = s.boot ∧ (settleStep s).supplyWarning = s.supplyWarning
      ∧ (settleStep s).pins = s.pins ∧ (settleStep s).clock = s.clock ∧ (settleStep s).draws = s.draws
      ∧ (settleStep s).pending = s.pending ∧ (settleStep s).peer.table = s.peer.table
      ∧ (settleStep s).peer.lastFull = s.peer.lastFull ∧ (settleStep s).peer.due = s.peer.due
      ∧ (settleStep s).peer.repeats = s.peer.repeats ∧ (settleStep s).peer.dupCount = s.peer.dupCount
      ∧ (settleStep s).peer.period = s.peer.period ∧ (settleStep s).peer.periodLeft = s.peer.periodLeft
      ∧ (settleStep s).peer.posting.cycleState = s.peer.posting.cycleState
      ∧ (settleStep s).peer.posting.programme = s.peer.posting.programme
      ∧ (settleStep s).peer.posting.openSeq = s.peer.posting.openSeq
      ∧ (settleStep s).peer.posting.lastVerdict = s.peer.posting.lastVerdict
      ∧ (settleStep s).peer.posting.acoustic = s.peer.posting.acoustic
      ∧ (settleStep s).peer.posting.listenAge = s.peer.posting.listenAge
      ∧ (settleStep s).peer.posting.air1 = s.peer.posting.air1
      ∧ (settleStep s).peer.posting.air2 = s.peer.posting.air2
      ∧ (settleStep s).peer.posting.airAge = s.peer.posting.airAge
      ∧ (settleStep s).peer.posting.demand = s.peer.posting.demand
      ∧ (settleStep s).peer.posting.yielding = s.peer.posting.yielding
      ∧ (settleStep s).peer.posting.unconfigured = s.peer.posting.unconfigured
      ∧ (settleStep s).peer.posting.dupStation = s.peer.posting.dupStation
      ∧ (settleStep s).peer.posting.storeFault = s.peer.posting.storeFault
      ∧ (settleStep s).peer.posting.supplyWarning = s.peer.posting.supplyWarning
      ∧ (settleStep s).peer.posting.resetCause = s.peer.posting.resetCause := by
  unfold settleStep
  dsimp only
  (repeat' split) <;> simp

@[simp] theorem lsnExpiry_frame (s : State) :
    (lsnExpiry s).cyc = s.cyc ∧ (lsnExpiry s).sca = s.sca ∧ (lsnExpiry s).leak = s.leak ∧ (lsnExpiry s).dev = s.dev
      ∧ (lsnExpiry s).store = s.store ∧ (lsnExpiry s).lif = s.lif ∧ (lsnExpiry s).cfg = s.cfg
      ∧ (lsnExpiry s).boot = s.boot ∧ (lsnExpiry s).supplyWarning = s.supplyWarning ∧ (lsnExpiry s).pins = s.pins
      ∧ (lsnExpiry s).clock = s.clock ∧ (lsnExpiry s).draws = s.draws ∧ (lsnExpiry s).pending = s.pending
      ∧ (lsnExpiry s).peer.table = s.peer.table ∧ (lsnExpiry s).peer.lastFull = s.peer.lastFull
      ∧ (lsnExpiry s).peer.due = s.peer.due ∧ (lsnExpiry s).peer.repeats = s.peer.repeats
      ∧ (lsnExpiry s).peer.dupCount = s.peer.dupCount ∧ (lsnExpiry s).peer.period = s.peer.period
      ∧ (lsnExpiry s).peer.periodLeft = s.peer.periodLeft
      ∧ (lsnExpiry s).peer.posting.cycleState = s.peer.posting.cycleState
      ∧ (lsnExpiry s).peer.posting.programme = s.peer.posting.programme
      ∧ (lsnExpiry s).peer.posting.openSeq = s.peer.posting.openSeq
      ∧ (lsnExpiry s).peer.posting.lastVerdict = s.peer.posting.lastVerdict
      ∧ (lsnExpiry s).peer.posting.acoustic = s.peer.posting.acoustic
      ∧ (lsnExpiry s).peer.posting.air1 = s.peer.posting.air1
      ∧ (lsnExpiry s).peer.posting.air2 = s.peer.posting.air2
      ∧ (lsnExpiry s).peer.posting.airAge = s.peer.posting.airAge
      ∧ (lsnExpiry s).peer.posting.demand = s.peer.posting.demand
      ∧ (lsnExpiry s).peer.posting.yielding = s.peer.posting.yielding
      ∧ (lsnExpiry s).peer.posting.unconfigured = s.peer.posting.unconfigured
      ∧ (lsnExpiry s).peer.posting.dupStation = s.peer.posting.dupStation
      ∧ (lsnExpiry s).peer.posting.storeFault = s.peer.posting.storeFault
      ∧ (lsnExpiry s).peer.posting.supplyWarning = s.peer.posting.supplyWarning
      ∧ (lsnExpiry s).peer.posting.resetCause = s.peer.posting.resetCause := by
  unfold lsnExpiry
  dsimp only
  (repeat' split) <;> simp

@[simp] theorem leaveListening_frame (s : State) :
    (leaveListening s).cyc = s.cyc ∧ (leaveListening s).run = s.run ∧ (leaveListening s).sca = s.sca
      ∧ (leaveListening s).leak = s.leak ∧ (leaveListening s).dev = s.dev ∧ (leaveListening s).store = s.store
      ∧ (leaveListening s).lif = s.lif ∧ (leaveListening s).cfg = s.cfg ∧ (leaveListening s).boot = s.boot
      ∧ (leaveListening s).supplyWarning = s.supplyWarning ∧ (leaveListening s).pins = s.pins
      ∧ (leaveListening s).clock = s.clock ∧ (leaveListening s).draws = s.draws
      ∧ (leaveListening s).pending = s.pending ∧ (leaveListening s).peer.table = s.peer.table
      ∧ (leaveListening s).peer.lastFull = s.peer.lastFull ∧ (leaveListening s).peer.due = s.peer.due
      ∧ (leaveListening s).peer.repeats = s.peer.repeats ∧ (leaveListening s).peer.dupCount = s.peer.dupCount
      ∧ (leaveListening s).peer.period = s.peer.period ∧ (leaveListening s).peer.periodLeft = s.peer.periodLeft
      ∧ (leaveListening s).peer.posting.cycleState = s.peer.posting.cycleState
      ∧ (leaveListening s).peer.posting.programme = s.peer.posting.programme
      ∧ (leaveListening s).peer.posting.openSeq = s.peer.posting.openSeq
      ∧ (leaveListening s).peer.posting.lastVerdict = s.peer.posting.lastVerdict
      ∧ (leaveListening s).peer.posting.acoustic = s.peer.posting.acoustic
      ∧ (leaveListening s).peer.posting.air1 = s.peer.posting.air1
      ∧ (leaveListening s).peer.posting.air2 = s.peer.posting.air2
      ∧ (leaveListening s).peer.posting.airAge = s.peer.posting.airAge
      ∧ (leaveListening s).peer.posting.demand = s.peer.posting.demand
      ∧ (leaveListening s).peer.posting.yielding = s.peer.posting.yielding
      ∧ (leaveListening s).peer.posting.unconfigured = s.peer.posting.unconfigured
      ∧ (leaveListening s).peer.posting.dupStation = s.peer.posting.dupStation
      ∧ (leaveListening s).peer.posting.storeFault = s.peer.posting.storeFault
      ∧ (leaveListening s).peer.posting.supplyWarning = s.peer.posting.supplyWarning
      ∧ (leaveListening s).peer.posting.resetCause = s.peer.posting.resetCause
      ∧ (leaveListening s).lsn.contamination = s.lsn.contamination := by
  refine ⟨rfl, rfl, rfl, rfl, rfl, rfl, rfl, rfl, rfl, rfl, rfl, rfl, rfl, rfl, rfl, rfl, rfl, rfl, rfl, rfl, rfl, rfl, rfl, rfl, rfl, rfl, rfl, rfl, rfl, rfl, rfl, rfl, rfl, rfl, rfl, rfl, rfl⟩

@[simp] theorem lsnSweepEnded_frame (s : State) :
    (lsnSweepEnded s).cyc = s.cyc ∧ (lsnSweepEnded s).run = s.run ∧ (lsnSweepEnded s).sca = s.sca
      ∧ (lsnSweepEnded s).leak = s.leak ∧ (lsnSweepEnded s).dev = s.dev ∧ (lsnSweepEnded s).store = s.store
      ∧ (lsnSweepEnded s).lif = s.lif ∧ (lsnSweepEnded s).cfg = s.cfg ∧ (lsnSweepEnded s).boot = s.boot
      ∧ (lsnSweepEnded s).supplyWarning = s.supplyWarning ∧ (lsnSweepEnded s).pins = s.pins
      ∧ (lsnSweepEnded s).clock = s.clock ∧ (lsnSweepEnded s).draws = s.draws
      ∧ (lsnSweepEnded s).pending = s.pending ∧ (lsnSweepEnded s).peer.table = s.peer.table
      ∧ (lsnSweepEnded s).peer.lastFull = s.peer.lastFull ∧ (lsnSweepEnded s).peer.due = s.peer.due
      ∧ (lsnSweepEnded s).peer.repeats = s.peer.repeats ∧ (lsnSweepEnded s).peer.dupCount = s.peer.dupCount
      ∧ (lsnSweepEnded s).peer.period = s.peer.period ∧ (lsnSweepEnded s).peer.periodLeft = s.peer.periodLeft
      ∧ (lsnSweepEnded s).peer.posting.cycleState = s.peer.posting.cycleState
      ∧ (lsnSweepEnded s).peer.posting.programme = s.peer.posting.programme
      ∧ (lsnSweepEnded s).peer.posting.openSeq = s.peer.posting.openSeq
      ∧ (lsnSweepEnded s).peer.posting.lastVerdict = s.peer.posting.lastVerdict
      ∧ (lsnSweepEnded s).peer.posting.acoustic = s.peer.posting.acoustic
      ∧ (lsnSweepEnded s).peer.posting.air1 = s.peer.posting.air1
      ∧ (lsnSweepEnded s).peer.posting.air2 = s.peer.posting.air2
      ∧ (lsnSweepEnded s).peer.posting.airAge = s.peer.posting.airAge
      ∧ (lsnSweepEnded s).peer.posting.demand = s.peer.posting.demand
      ∧ (lsnSweepEnded s).peer.posting.yielding = s.peer.posting.yielding
      ∧ (lsnSweepEnded s).peer.posting.unconfigured = s.peer.posting.unconfigured
      ∧ (lsnSweepEnded s).peer.posting.dupStation = s.peer.posting.dupStation
      ∧ (lsnSweepEnded s).peer.posting.storeFault = s.peer.posting.storeFault
      ∧ (lsnSweepEnded s).peer.posting.supplyWarning = s.peer.posting.supplyWarning
      ∧ (lsnSweepEnded s).peer.posting.resetCause = s.peer.posting.resetCause
      ∧ (lsnSweepEnded s).lsn.contamination = s.lsn.contamination := by
  unfold lsnSweepEnded
  (repeat' split) <;> simp

@[simp] theorem lsnAbandon_frame (s : State) :
    (lsnAbandon s).cyc = s.cyc ∧ (lsnAbandon s).run = s.run ∧ (lsnAbandon s).sca = s.sca
      ∧ (lsnAbandon s).leak = s.leak ∧ (lsnAbandon s).dev = s.dev ∧ (lsnAbandon s).store = s.store
      ∧ (lsnAbandon s).lif = s.lif ∧ (lsnAbandon s).cfg = s.cfg ∧ (lsnAbandon s).boot = s.boot
      ∧ (lsnAbandon s).supplyWarning = s.supplyWarning ∧ (lsnAbandon s).pins = s.pins
      ∧ (lsnAbandon s).clock = s.clock ∧ (lsnAbandon s).draws = s.draws ∧ (lsnAbandon s).pending = s.pending
      ∧ (lsnAbandon s).peer.table = s.peer.table ∧ (lsnAbandon s).peer.lastFull = s.peer.lastFull
      ∧ (lsnAbandon s).peer.due = s.peer.due ∧ (lsnAbandon s).peer.repeats = s.peer.repeats
      ∧ (lsnAbandon s).peer.dupCount = s.peer.dupCount ∧ (lsnAbandon s).peer.period = s.peer.period
      ∧ (lsnAbandon s).peer.periodLeft = s.peer.periodLeft
      ∧ (lsnAbandon s).peer.posting.cycleState = s.peer.posting.cycleState
      ∧ (lsnAbandon s).peer.posting.programme = s.peer.posting.programme
      ∧ (lsnAbandon s).peer.posting.openSeq = s.peer.posting.openSeq
      ∧ (lsnAbandon s).peer.posting.lastVerdict = s.peer.posting.lastVerdict
      ∧ (lsnAbandon s).peer.posting.acoustic = s.peer.posting.acoustic
      ∧ (lsnAbandon s).peer.posting.air1 = s.peer.posting.air1
      ∧ (lsnAbandon s).peer.posting.air2 = s.peer.posting.air2
      ∧ (lsnAbandon s).peer.posting.airAge = s.peer.posting.airAge
      ∧ (lsnAbandon s).peer.posting.demand = s.peer.posting.demand
      ∧ (lsnAbandon s).peer.posting.yielding = s.peer.posting.yielding
      ∧ (lsnAbandon s).peer.posting.unconfigured = s.peer.posting.unconfigured
      ∧ (lsnAbandon s).peer.posting.dupStation = s.peer.posting.dupStation
      ∧ (lsnAbandon s).peer.posting.storeFault = s.peer.posting.storeFault
      ∧ (lsnAbandon s).peer.posting.supplyWarning = s.peer.posting.supplyWarning
      ∧ (lsnAbandon s).peer.posting.resetCause = s.peer.posting.resetCause
      ∧ (lsnAbandon s).lsn.contamination = s.lsn.contamination := by
  unfold lsnAbandon
  (repeat' split) <;> simp

@[simp] theorem abandonSweep_frame (s : State) :
    (abandonSweep s).cyc = s.cyc ∧ (abandonSweep s).run = s.run ∧ (abandonSweep s).sca = s.sca
      ∧ (abandonSweep s).leak = s.leak ∧ (abandonSweep s).dev = s.dev ∧ (abandonSweep s).store = s.store
      ∧ (abandonSweep s).lif = s.lif ∧ (abandonSweep s).cfg = s.cfg ∧ (abandonSweep s).boot = s.boot
      ∧ (abandonSweep s).supplyWarning = s.supplyWarning ∧ (abandonSweep s).pins = s.pins
      ∧ (abandonSweep s).clock = s.clock ∧ (abandonSweep s).draws = s.draws ∧ (abandonSweep s).pending = s.pending
      ∧ (abandonSweep s).peer.table = s.peer.table ∧ (abandonSweep s).peer.lastFull = s.peer.lastFull
      ∧ (abandonSweep s).peer.due = s.peer.due ∧ (abandonSweep s).peer.repeats = s.peer.repeats
      ∧ (abandonSweep s).peer.dupCount = s.peer.dupCount ∧ (abandonSweep s).peer.period = s.peer.period
      ∧ (abandonSweep s).peer.periodLeft = s.peer.periodLeft
      ∧ (abandonSweep s).peer.posting.cycleState = s.peer.posting.cycleState
      ∧ (abandonSweep s).peer.posting.programme = s.peer.posting.programme
      ∧ (abandonSweep s).peer.posting.openSeq = s.peer.posting.openSeq
      ∧ (abandonSweep s).peer.posting.lastVerdict = s.peer.posting.lastVerdict
      ∧ (abandonSweep s).peer.posting.acoustic = s.peer.posting.acoustic
      ∧ (abandonSweep s).peer.posting.air1 = s.peer.posting.air1
      ∧ (abandonSweep s).peer.posting.air2 = s.peer.posting.air2
      ∧ (abandonSweep s).peer.posting.airAge = s.peer.posting.airAge
      ∧ (abandonSweep s).peer.posting.demand = s.peer.posting.demand
      ∧ (abandonSweep s).peer.posting.yielding = s.peer.posting.yielding
      ∧ (abandonSweep s).peer.posting.unconfigured = s.peer.posting.unconfigured
      ∧ (abandonSweep s).peer.posting.dupStation = s.peer.posting.dupStation
      ∧ (abandonSweep s).peer.posting.storeFault = s.peer.posting.storeFault
      ∧ (abandonSweep s).peer.posting.supplyWarning = s.peer.posting.supplyWarning
      ∧ (abandonSweep s).peer.posting.resetCause = s.peer.posting.resetCause
      ∧ (abandonSweep s).lsn.contamination = s.lsn.contamination := by
  simp [abandonSweep]

@[simp] theorem forceListening_frame (s : State) :
    (forceListening s).cyc = s.cyc ∧ (forceListening s).sca = s.sca ∧ (forceListening s).leak = s.leak
      ∧ (forceListening s).dev = s.dev ∧ (forceListening s).store = s.store ∧ (forceListening s).lif = s.lif
      ∧ (forceListening s).cfg = s.cfg ∧ (forceListening s).boot = s.boot
      ∧ (forceListening s).supplyWarning = s.supplyWarning ∧ (forceListening s).pins = s.pins
      ∧ (forceListening s).clock = s.clock ∧ (forceListening s).draws = s.draws
      ∧ (forceListening s).pending = s.pending ∧ (forceListening s).peer.table = s.peer.table
      ∧ (forceListening s).peer.lastFull = s.peer.lastFull ∧ (forceListening s).peer.due = s.peer.due
      ∧ (forceListening s).peer.repeats = s.peer.repeats ∧ (forceListening s).peer.dupCount = s.peer.dupCount
      ∧ (forceListening s).peer.period = s.peer.period ∧ (forceListening s).peer.periodLeft = s.peer.periodLeft
      ∧ (forceListening s).peer.posting.cycleState = s.peer.posting.cycleState
      ∧ (forceListening s).peer.posting.programme = s.peer.posting.programme
      ∧ (forceListening s).peer.posting.openSeq = s.peer.posting.openSeq
      ∧ (forceListening s).peer.posting.lastVerdict = s.peer.posting.lastVerdict
      ∧ (forceListening s).peer.posting.acoustic = s.peer.posting.acoustic
      ∧ (forceListening s).peer.posting.listenAge = s.peer.posting.listenAge
      ∧ (forceListening s).peer.posting.air1 = s.peer.posting.air1
      ∧ (forceListening s).peer.posting.air2 = s.peer.posting.air2
      ∧ (forceListening s).peer.posting.airAge = s.peer.posting.airAge
      ∧ (forceListening s).peer.posting.demand = s.peer.posting.demand
      ∧ (forceListening s).peer.posting.yielding = s.peer.posting.yielding
      ∧ (forceListening s).peer.posting.unconfigured = s.peer.posting.unconfigured
      ∧ (forceListening s).peer.posting.dupStation = s.peer.posting.dupStation
      ∧ (forceListening s).peer.posting.storeFault = s.peer.posting.storeFault
      ∧ (forceListening s).peer.posting.supplyWarning = s.peer.posting.supplyWarning
      ∧ (forceListening s).peer.posting.resetCause = s.peer.posting.resetCause := by
  unfold forceListening
  (repeat' split) <;> simp

@[simp] theorem postAir_frame (s : State) :
    (postAir s).cyc = s.cyc ∧ (postAir s).run = s.run ∧ (postAir s).lsn = s.lsn ∧ (postAir s).vib = s.vib
      ∧ (postAir s).sca = s.sca ∧ (postAir s).leak = s.leak ∧ (postAir s).dev = s.dev ∧ (postAir s).store = s.store
      ∧ (postAir s).lif = s.lif ∧ (postAir s).cfg = s.cfg ∧ (postAir s).boot = s.boot
      ∧ (postAir s).supplyWarning = s.supplyWarning ∧ (postAir s).pins = s.pins ∧ (postAir s).clock = s.clock
      ∧ (postAir s).draws = s.draws ∧ (postAir s).pending = s.pending ∧ (postAir s).peer.table = s.peer.table
      ∧ (postAir s).peer.lastFull = s.peer.lastFull ∧ (postAir s).peer.due = s.peer.due
      ∧ (postAir s).peer.repeats = s.peer.repeats ∧ (postAir s).peer.dupCount = s.peer.dupCount
      ∧ (postAir s).peer.period = s.peer.period ∧ (postAir s).peer.periodLeft = s.peer.periodLeft
      ∧ (postAir s).peer.posting.cycleState = s.peer.posting.cycleState
      ∧ (postAir s).peer.posting.programme = s.peer.posting.programme
      ∧ (postAir s).peer.posting.openSeq = s.peer.posting.openSeq
      ∧ (postAir s).peer.posting.lastVerdict = s.peer.posting.lastVerdict
      ∧ (postAir s).peer.posting.acoustic = s.peer.posting.acoustic
      ∧ (postAir s).peer.posting.listen = s.peer.posting.listen
      ∧ (postAir s).peer.posting.listenAge = s.peer.posting.listenAge
      ∧ (postAir s).peer.posting.demand = s.peer.posting.demand
      ∧ (postAir s).peer.posting.yielding = s.peer.posting.yielding
      ∧ (postAir s).peer.posting.unconfigured = s.peer.posting.unconfigured
      ∧ (postAir s).peer.posting.dupStation = s.peer.posting.dupStation
      ∧ (postAir s).peer.posting.storeFault = s.peer.posting.storeFault
      ∧ (postAir s).peer.posting.supplyWarning = s.peer.posting.supplyWarning
      ∧ (postAir s).peer.posting.resetCause = s.peer.posting.resetCause := by
  refine ⟨rfl, rfl, rfl, rfl, rfl, rfl, rfl, rfl, rfl, rfl, rfl, rfl, rfl, rfl, rfl, rfl, rfl, rfl, rfl, rfl, rfl, rfl, rfl, rfl, rfl, rfl, rfl, rfl, rfl, rfl, rfl, rfl, rfl, rfl, rfl, rfl, rfl⟩

@[simp] theorem withCircuit_frame (c : CircuitId) (f : Circuit → Circuit) (s : State) :
    (withCircuit c f s).cyc = s.cyc ∧ (withCircuit c f s).run = s.run ∧ (withCircuit c f s).lsn = s.lsn
      ∧ (withCircuit c f s).vib = s.vib ∧ (withCircuit c f s).sca = s.sca ∧ (withCircuit c f s).dev = s.dev
      ∧ (withCircuit c f s).store = s.store ∧ (withCircuit c f s).lif = s.lif ∧ (withCircuit c f s).cfg = s.cfg
      ∧ (withCircuit c f s).boot = s.boot ∧ (withCircuit c f s).supplyWarning = s.supplyWarning
      ∧ (withCircuit c f s).pins = s.pins ∧ (withCircuit c f s).clock = s.clock
      ∧ (withCircuit c f s).draws = s.draws ∧ (withCircuit c f s).pending = s.pending
      ∧ (withCircuit c f s).peer.table = s.peer.table ∧ (withCircuit c f s).peer.lastFull = s.peer.lastFull
      ∧ (withCircuit c f s).peer.due = s.peer.due ∧ (withCircuit c f s).peer.repeats = s.peer.repeats
      ∧ (withCircuit c f s).peer.dupCount = s.peer.dupCount ∧ (withCircuit c f s).peer.period = s.peer.period
      ∧ (withCircuit c f s).peer.periodLeft = s.peer.periodLeft
      ∧ (withCircuit c f s).peer.posting.cycleState = s.peer.posting.cycleState
      ∧ (withCircuit c f s).peer.posting.programme = s.peer.posting.programme
      ∧ (withCircuit c f s).peer.posting.openSeq = s.peer.posting.openSeq
      ∧ (withCircuit c f s).peer.posting.lastVerdict = s.peer.posting.lastVerdict
      ∧ (withCircuit c f s).peer.posting.acoustic = s.peer.posting.acoustic
      ∧ (withCircuit c f s).peer.posting.listen = s.peer.posting.listen
      ∧ (withCircuit c f s).peer.posting.listenAge = s.peer.posting.listenAge
      ∧ (withCircuit c f s).peer.posting.demand = s.peer.posting.demand
      ∧ (withCircuit c f s).peer.posting.yielding = s.peer.posting.yielding
      ∧ (withCircuit c f s).peer.posting.unconfigured = s.peer.posting.unconfigured
      ∧ (withCircuit c f s).peer.posting.dupStation = s.peer.posting.dupStation
      ∧ (withCircuit c f s).peer.posting.storeFault = s.peer.posting.storeFault
      ∧ (withCircuit c f s).peer.posting.supplyWarning = s.peer.posting.supplyWarning
      ∧ (withCircuit c f s).peer.posting.resetCause = s.peer.posting.resetCause := by
  refine ⟨rfl, rfl, rfl, rfl, rfl, rfl, rfl, rfl, rfl, rfl, rfl, rfl, rfl, rfl, rfl, rfl, rfl, rfl, rfl, rfl, rfl, rfl, rfl, rfl, rfl, rfl, rfl, rfl, rfl, rfl, rfl, rfl, rfl, rfl, rfl, rfl⟩

@[simp] theorem intentTest_frame (c : CircuitId) (s : State) :
    (intentTest c s).cyc = s.cyc ∧ (intentTest c s).run = s.run ∧ (intentTest c s).lsn = s.lsn
      ∧ (intentTest c s).vib = s.vib ∧ (intentTest c s).sca = s.sca ∧ (intentTest c s).dev = s.dev
      ∧ (intentTest c s).store = s.store ∧ (intentTest c s).lif = s.lif ∧ (intentTest c s).cfg = s.cfg
      ∧ (intentTest c s).boot = s.boot ∧ (intentTest c s).supplyWarning = s.supplyWarning
      ∧ (intentTest c s).pins = s.pins ∧ (intentTest c s).clock = s.clock ∧ (intentTest c s).draws = s.draws
      ∧ (intentTest c s).pending = s.pending ∧ (intentTest c s).peer.table = s.peer.table
      ∧ (intentTest c s).peer.lastFull = s.peer.lastFull ∧ (intentTest c s).peer.due = s.peer.due
      ∧ (intentTest c s).peer.repeats = s.peer.repeats ∧ (intentTest c s).peer.dupCount = s.peer.dupCount
      ∧ (intentTest c s).peer.period = s.peer.period ∧ (intentTest c s).peer.periodLeft = s.peer.periodLeft
      ∧ (intentTest c s).peer.posting.cycleState = s.peer.posting.cycleState
      ∧ (intentTest c s).peer.posting.programme = s.peer.posting.programme
      ∧ (intentTest c s).peer.posting.openSeq = s.peer.posting.openSeq
      ∧ (intentTest c s).peer.posting.lastVerdict = s.peer.posting.lastVerdict
      ∧ (intentTest c s).peer.posting.acoustic = s.peer.posting.acoustic
      ∧ (intentTest c s).peer.posting.listen = s.peer.posting.listen
      ∧ (intentTest c s).peer.posting.listenAge = s.peer.posting.listenAge
      ∧ (intentTest c s).peer.posting.demand = s.peer.posting.demand
      ∧ (intentTest c s).peer.posting.yielding = s.peer.posting.yielding
      ∧ (intentTest c s).peer.posting.unconfigured = s.peer.posting.unconfigured
      ∧ (intentTest c s).peer.posting.dupStation = s.peer.posting.dupStation
      ∧ (intentTest c s).peer.posting.storeFault = s.peer.posting.storeFault
      ∧ (intentTest c s).peer.posting.supplyWarning = s.peer.posting.supplyWarning
      ∧ (intentTest c s).peer.posting.resetCause = s.peer.posting.resetCause := by
  unfold intentTest
  (repeat' split) <;> simp

@[simp] theorem airSettleExpiry_frame (c : CircuitId) (s : State) :
    (airSettleExpiry c s).cyc = s.cyc ∧ (airSettleExpiry c s).run = s.run ∧ (airSettleExpiry c s).lsn = s.lsn
      ∧ (airSettleExpiry c s).vib = s.vib ∧ (airSettleExpiry c s).sca = s.sca ∧ (airSettleExpiry c s).dev = s.dev
      ∧ (airSettleExpiry c s).store = s.store ∧ (airSettleExpiry c s).lif = s.lif
      ∧ (airSettleExpiry c s).cfg = s.cfg ∧ (airSettleExpiry c s).boot = s.boot
      ∧ (airSettleExpiry c s).supplyWarning = s.supplyWarning ∧ (airSettleExpiry c s).pins = s.pins
      ∧ (airSettleExpiry c s).clock = s.clock ∧ (airSettleExpiry c s).draws = s.draws
      ∧ (airSettleExpiry c s).pending = s.pending ∧ (airSettleExpiry c s).peer.table = s.peer.table
      ∧ (airSettleExpiry c s).peer.lastFull = s.peer.lastFull ∧ (airSettleExpiry c s).peer.due = s.peer.due
      ∧ (airSettleExpiry c s).peer.repeats = s.peer.repeats ∧ (airSettleExpiry c s).peer.dupCount = s.peer.dupCount
      ∧ (airSettleExpiry c s).peer.period = s.peer.period
      ∧ (airSettleExpiry c s).peer.periodLeft = s.peer.periodLeft
      ∧ (airSettleExpiry c s).peer.posting.cycleState = s.peer.posting.cycleState
      ∧ (airSettleExpiry c s).peer.posting.programme = s.peer.posting.programme
      ∧ (airSettleExpiry c s).peer.posting.openSeq = s.peer.posting.openSeq
      ∧ (airSettleExpiry c s).peer.posting.lastVerdict = s.peer.posting.lastVerdict
      ∧ (airSettleExpiry c s).peer.posting.acoustic = s.peer.posting.acoustic
      ∧ (airSettleExpiry c s).peer.posting.listen = s.peer.posting.listen
      ∧ (airSettleExpiry c s).peer.posting.listenAge = s.peer.posting.listenAge
      ∧ (airSettleExpiry c s).peer.posting.demand = s.peer.posting.demand
      ∧ (airSettleExpiry c s).peer.posting.yielding = s.peer.posting.yielding
      ∧ (airSettleExpiry c s).peer.posting.unconfigured = s.peer.posting.unconfigured
      ∧ (airSettleExpiry c s).peer.posting.dupStation = s.peer.posting.dupStation
      ∧ (airSettleExpiry c s).peer.posting.storeFault = s.peer.posting.storeFault
      ∧ (airSettleExpiry c s).peer.posting.supplyWarning = s.peer.posting.supplyWarning
      ∧ (airSettleExpiry c s).peer.posting.resetCause = s.peer.posting.resetCause := by
  unfold airSettleExpiry
  (repeat' split) <;> simp

@[simp] theorem airSettleStep_frame (c : CircuitId) (s : State) :
    (airSettleStep c s).cyc = s.cyc ∧ (airSettleStep c s).run = s.run ∧ (airSettleStep c s).lsn = s.lsn
      ∧ (airSettleStep c s).vib = s.vib ∧ (airSettleStep c s).sca = s.sca ∧ (airSettleStep c s).dev = s.dev
      ∧ (airSettleStep c s).store = s.store ∧ (airSettleStep c s).lif = s.lif ∧ (airSettleStep c s).cfg = s.cfg
      ∧ (airSettleStep c s).boot = s.boot ∧ (airSettleStep c s).supplyWarning = s.supplyWarning
      ∧ (airSettleStep c s).pins = s.pins ∧ (airSettleStep c s).clock = s.clock
      ∧ (airSettleStep c s).draws = s.draws ∧ (airSettleStep c s).pending = s.pending
      ∧ (airSettleStep c s).peer.table = s.peer.table ∧ (airSettleStep c s).peer.lastFull = s.peer.lastFull
      ∧ (airSettleStep c s).peer.due = s.peer.due ∧ (airSettleStep c s).peer.repeats = s.peer.repeats
      ∧ (airSettleStep c s).peer.dupCount = s.peer.dupCount ∧ (airSettleStep c s).peer.period = s.peer.period
      ∧ (airSettleStep c s).peer.periodLeft = s.peer.periodLeft
      ∧ (airSettleStep c s).peer.posting.cycleState = s.peer.posting.cycleState
      ∧ (airSettleStep c s).peer.posting.programme = s.peer.posting.programme
      ∧ (airSettleStep c s).peer.posting.openSeq = s.peer.posting.openSeq
      ∧ (airSettleStep c s).peer.posting.lastVerdict = s.peer.posting.lastVerdict
      ∧ (airSettleStep c s).peer.posting.acoustic = s.peer.posting.acoustic
      ∧ (airSettleStep c s).peer.posting.listen = s.peer.posting.listen
      ∧ (airSettleStep c s).peer.posting.listenAge = s.peer.posting.listenAge
      ∧ (airSettleStep c s).peer.posting.demand = s.peer.posting.demand
      ∧ (airSettleStep c s).peer.posting.yielding = s.peer.posting.yielding
      ∧ (airSettleStep c s).peer.posting.unconfigured = s.peer.posting.unconfigured
      ∧ (airSettleStep c s).peer.posting.dupStation = s.peer.posting.dupStation
      ∧ (airSettleStep c s).peer.posting.storeFault = s.peer.posting.storeFault
      ∧ (airSettleStep c s).peer.posting.supplyWarning = s.peer.posting.supplyWarning
      ∧ (airSettleStep c s).peer.posting.resetCause = s.peer.posting.resetCause := by
  unfold airSettleStep
  dsimp only
  (repeat' split) <;> simp

@[simp] theorem intentStep_frame (c : CircuitId) (s : State) :
    (intentStep c s).cyc = s.cyc ∧ (intentStep c s).run = s.run ∧ (intentStep c s).lsn = s.lsn
      ∧ (intentStep c s).vib = s.vib ∧ (intentStep c s).sca = s.sca ∧ (intentStep c s).dev = s.dev
      ∧ (intentStep c s).store = s.store ∧ (intentStep c s).lif = s.lif ∧ (intentStep c s).cfg = s.cfg
      ∧ (intentStep c s).boot = s.boot ∧ (intentStep c s).supplyWarning = s.supplyWarning
      ∧ (intentStep c s).pins = s.pins ∧ (intentStep c s).clock = s.clock ∧ (intentStep c s).draws = s.draws
      ∧ (intentStep c s).pending = s.pending ∧ (intentStep c s).peer.table = s.peer.table
      ∧ (intentStep c s).peer.lastFull = s.peer.lastFull ∧ (intentStep c s).peer.due = s.peer.due
      ∧ (intentStep c s).peer.repeats = s.peer.repeats ∧ (intentStep c s).peer.dupCount = s.peer.dupCount
      ∧ (intentStep c s).peer.period = s.peer.period ∧ (intentStep c s).peer.periodLeft = s.peer.periodLeft
      ∧ (intentStep c s).peer.posting.cycleState = s.peer.posting.cycleState
      ∧ (intentStep c s).peer.posting.programme = s.peer.posting.programme
      ∧ (intentStep c s).peer.posting.openSeq = s.peer.posting.openSeq
      ∧ (intentStep c s).peer.posting.lastVerdict = s.peer.posting.lastVerdict
      ∧ (intentStep c s).peer.posting.acoustic = s.peer.posting.acoustic
      ∧ (intentStep c s).peer.posting.listen = s.peer.posting.listen
      ∧ (intentStep c s).peer.posting.listenAge = s.peer.posting.listenAge
      ∧ (intentStep c s).peer.posting.demand = s.peer.posting.demand
      ∧ (intentStep c s).peer.posting.yielding = s.peer.posting.yielding
      ∧ (intentStep c s).peer.posting.unconfigured = s.peer.posting.unconfigured
      ∧ (intentStep c s).peer.posting.dupStation = s.peer.posting.dupStation
      ∧ (intentStep c s).peer.posting.storeFault = s.peer.posting.storeFault
      ∧ (intentStep c s).peer.posting.supplyWarning = s.peer.posting.supplyWarning
      ∧ (intentStep c s).peer.posting.resetCause = s.peer.posting.resetCause := by
  unfold intentStep
  (repeat' split) <;> simp

@[simp] theorem circuitExpiry_frame (c : CircuitId) (s : State) :
    (circuitExpiry c s).cyc = s.cyc ∧ (circuitExpiry c s).run = s.run ∧ (circuitExpiry c s).lsn = s.lsn
      ∧ (circuitExpiry c s).vib = s.vib ∧ (circuitExpiry c s).sca = s.sca ∧ (circuitExpiry c s).dev = s.dev
      ∧ (circuitExpiry c s).store = s.store ∧ (circuitExpiry c s).lif = s.lif ∧ (circuitExpiry c s).cfg = s.cfg
      ∧ (circuitExpiry c s).boot = s.boot ∧ (circuitExpiry c s).supplyWarning = s.supplyWarning
      ∧ (circuitExpiry c s).pins = s.pins ∧ (circuitExpiry c s).clock = s.clock
      ∧ (circuitExpiry c s).draws = s.draws ∧ (circuitExpiry c s).pending = s.pending
      ∧ (circuitExpiry c s).peer.table = s.peer.table ∧ (circuitExpiry c s).peer.lastFull = s.peer.lastFull
      ∧ (circuitExpiry c s).peer.due = s.peer.due ∧ (circuitExpiry c s).peer.repeats = s.peer.repeats
      ∧ (circuitExpiry c s).peer.dupCount = s.peer.dupCount ∧ (circuitExpiry c s).peer.period = s.peer.period
      ∧ (circuitExpiry c s).peer.periodLeft = s.peer.periodLeft
      ∧ (circuitExpiry c s).peer.posting.cycleState = s.peer.posting.cycleState
      ∧ (circuitExpiry c s).peer.posting.programme = s.peer.posting.programme
      ∧ (circuitExpiry c s).peer.posting.openSeq = s.peer.posting.openSeq
      ∧ (circuitExpiry c s).peer.posting.lastVerdict = s.peer.posting.lastVerdict
      ∧ (circuitExpiry c s).peer.posting.acoustic = s.peer.posting.acoustic
      ∧ (circuitExpiry c s).peer.posting.listen = s.peer.posting.listen
      ∧ (circuitExpiry c s).peer.posting.listenAge = s.peer.posting.listenAge
      ∧ (circuitExpiry c s).peer.posting.demand = s.peer.posting.demand
      ∧ (circuitExpiry c s).peer.posting.yielding = s.peer.posting.yielding
      ∧ (circuitExpiry c s).peer.posting.unconfigured = s.peer.posting.unconfigured
      ∧ (circuitExpiry c s).peer.posting.dupStation = s.peer.posting.dupStation
      ∧ (circuitExpiry c s).peer.posting.storeFault = s.peer.posting.storeFault
      ∧ (circuitExpiry c s).peer.posting.supplyWarning = s.peer.posting.supplyWarning
      ∧ (circuitExpiry c s).peer.posting.resetCause = s.peer.posting.resetCause := by
  simp [circuitExpiry]

@[simp] theorem armLeak_frame (s : State) :
    (armLeak s).cyc = s.cyc ∧ (armLeak s).run = s.run ∧ (armLeak s).lsn = s.lsn ∧ (armLeak s).vib = s.vib
      ∧ (armLeak s).sca = s.sca ∧ (armLeak s).dev = s.dev ∧ (armLeak s).store = s.store ∧ (armLeak s).lif = s.lif
      ∧ (armLeak s).cfg = s.cfg ∧ (armLeak s).boot = s.boot ∧ (armLeak s).supplyWarning = s.supplyWarning
      ∧ (armLeak s).pins = s.pins ∧ (armLeak s).clock = s.clock ∧ (armLeak s).draws = s.draws
      ∧ (armLeak s).pending = s.pending ∧ (armLeak s).peer.table = s.peer.table
      ∧ (armLeak s).peer.lastFull = s.peer.lastFull ∧ (armLeak s).peer.due = s.peer.due
      ∧ (armLeak s).peer.repeats = s.peer.repeats ∧ (armLeak s).peer.dupCount = s.peer.dupCount
      ∧ (armLeak s).peer.period = s.peer.period ∧ (armLeak s).peer.periodLeft = s.peer.periodLeft
      ∧ (armLeak s).peer.posting.cycleState = s.peer.posting.cycleState
      ∧ (armLeak s).peer.posting.programme = s.peer.posting.programme
      ∧ (armLeak s).peer.posting.openSeq = s.peer.posting.openSeq
      ∧ (armLeak s).peer.posting.lastVerdict = s.peer.posting.lastVerdict
      ∧ (armLeak s).peer.posting.acoustic = s.peer.posting.acoustic
      ∧ (armLeak s).peer.posting.listen = s.peer.posting.listen
      ∧ (armLeak s).peer.posting.listenAge = s.peer.posting.listenAge
      ∧ (armLeak s).peer.posting.demand = s.peer.posting.demand
      ∧ (armLeak s).peer.posting.yielding = s.peer.posting.yielding
      ∧ (armLeak s).peer.posting.unconfigured = s.peer.posting.unconfigured
      ∧ (armLeak s).peer.posting.dupStation = s.peer.posting.dupStation
      ∧ (armLeak s).peer.posting.storeFault = s.peer.posting.storeFault
      ∧ (armLeak s).peer.posting.supplyWarning = s.peer.posting.supplyWarning
      ∧ (armLeak s).peer.posting.resetCause = s.peer.posting.resetCause := by
  unfold armLeak
  (repeat' split) <;> simp

@[simp] theorem leakStart_frame (s : State) :
    (leakStart s).cyc = s.cyc ∧ (leakStart s).run = s.run ∧ (leakStart s).lsn = s.lsn ∧ (leakStart s).vib = s.vib
      ∧ (leakStart s).sca = s.sca ∧ (leakStart s).dev = s.dev ∧ (leakStart s).store = s.store
      ∧ (leakStart s).lif = s.lif ∧ (leakStart s).cfg = s.cfg ∧ (leakStart s).boot = s.boot
      ∧ (leakStart s).supplyWarning = s.supplyWarning ∧ (leakStart s).pins = s.pins ∧ (leakStart s).clock = s.clock
      ∧ (leakStart s).draws = s.draws ∧ (leakStart s).pending = s.pending ∧ (leakStart s).peer.table = s.peer.table
      ∧ (leakStart s).peer.lastFull = s.peer.lastFull ∧ (leakStart s).peer.due = s.peer.due
      ∧ (leakStart s).peer.repeats = s.peer.repeats ∧ (leakStart s).peer.dupCount = s.peer.dupCount
      ∧ (leakStart s).peer.period = s.peer.period ∧ (leakStart s).peer.periodLeft = s.peer.periodLeft
      ∧ (leakStart s).peer.posting.cycleState = s.peer.posting.cycleState
      ∧ (leakStart s).peer.posting.programme = s.peer.posting.programme
      ∧ (leakStart s).peer.posting.openSeq = s.peer.posting.openSeq
      ∧ (leakStart s).peer.posting.lastVerdict = s.peer.posting.lastVerdict
      ∧ (leakStart s).peer.posting.acoustic = s.peer.posting.acoustic
      ∧ (leakStart s).peer.posting.listen = s.peer.posting.listen
      ∧ (leakStart s).peer.posting.listenAge = s.peer.posting.listenAge
      ∧ (leakStart s).peer.posting.demand = s.peer.posting.demand
      ∧ (leakStart s).peer.posting.yielding = s.peer.posting.yielding
      ∧ (leakStart s).peer.posting.unconfigured = s.peer.posting.unconfigured
      ∧ (leakStart s).peer.posting.dupStation = s.peer.posting.dupStation
      ∧ (leakStart s).peer.posting.storeFault = s.peer.posting.storeFault
      ∧ (leakStart s).peer.posting.supplyWarning = s.peer.posting.supplyWarning
      ∧ (leakStart s).peer.posting.resetCause = s.peer.posting.resetCause := by
  refine ⟨rfl, rfl, rfl, rfl, rfl, rfl, rfl, rfl, rfl, rfl, rfl, rfl, rfl, rfl, rfl, rfl, rfl, rfl, rfl, rfl, rfl, rfl, rfl, rfl, rfl, rfl, rfl, rfl, rfl, rfl, rfl, rfl, rfl, rfl, rfl, rfl⟩

@[simp] theorem floorTest_frame (c : CircuitId) (code : Nat) (s : State) :
    (floorTest c code s).cyc = s.cyc ∧ (floorTest c code s).run = s.run ∧ (floorTest c code s).lsn = s.lsn
      ∧ (floorTest c code s).vib = s.vib ∧ (floorTest c code s).sca = s.sca ∧ (floorTest c code s).store = s.store
      ∧ (floorTest c code s).lif = s.lif ∧ (floorTest c code s).cfg = s.cfg ∧ (floorTest c code s).boot = s.boot
      ∧ (floorTest c code s).supplyWarning = s.supplyWarning ∧ (floorTest c code s).pins = s.pins
      ∧ (floorTest c code s).clock = s.clock ∧ (floorTest c code s).draws = s.draws
      ∧ (floorTest c code s).pending = s.pending ∧ (floorTest c code s).peer.table = s.peer.table
      ∧ (floorTest c code s).peer.lastFull = s.peer.lastFull ∧ (floorTest c code s).peer.due = s.peer.due
      ∧ (floorTest c code s).peer.repeats = s.peer.repeats ∧ (floorTest c code s).peer.dupCount = s.peer.dupCount
      ∧ (floorTest c code s).peer.period = s.peer.period ∧ (floorTest c code s).peer.periodLeft = s.peer.periodLeft
      ∧ (floorTest c code s).peer.posting.cycleState = s.peer.posting.cycleState
      ∧ (floorTest c code s).peer.posting.programme = s.peer.posting.programme
      ∧ (floorTest c code s).peer.posting.openSeq = s.peer.posting.openSeq
      ∧ (floorTest c code s).peer.posting.lastVerdict = s.peer.posting.lastVerdict
      ∧ (floorTest c code s).peer.posting.acoustic = s.peer.posting.acoustic
      ∧ (floorTest c code s).peer.posting.listen = s.peer.posting.listen
      ∧ (floorTest c code s).peer.posting.listenAge = s.peer.posting.listenAge
      ∧ (floorTest c code s).peer.posting.demand = s.peer.posting.demand
      ∧ (floorTest c code s).peer.posting.yielding = s.peer.posting.yielding
      ∧ (floorTest c code s).peer.posting.unconfigured = s.peer.posting.unconfigured
      ∧ (floorTest c code s).peer.posting.dupStation = s.peer.posting.dupStation
      ∧ (floorTest c code s).peer.posting.storeFault = s.peer.posting.storeFault
      ∧ (floorTest c code s).peer.posting.supplyWarning = s.peer.posting.supplyWarning
      ∧ (floorTest c code s).peer.posting.resetCause = s.peer.posting.resetCause := by
  unfold floorTest
  (repeat' split) <;> simp

@[simp] theorem takePrs_frame (c : CircuitId) (code : Nat) (s : State) :
    (takePrs c code s).cyc = s.cyc ∧ (takePrs c code s).run = s.run ∧ (takePrs c code s).lsn = s.lsn
      ∧ (takePrs c code s).vib = s.vib ∧ (takePrs c code s).sca = s.sca ∧ (takePrs c code s).store = s.store
      ∧ (takePrs c code s).lif = s.lif ∧ (takePrs c code s).cfg = s.cfg ∧ (takePrs c code s).boot = s.boot
      ∧ (takePrs c code s).supplyWarning = s.supplyWarning ∧ (takePrs c code s).pins = s.pins
      ∧ (takePrs c code s).clock = s.clock ∧ (takePrs c code s).draws = s.draws
      ∧ (takePrs c code s).pending = s.pending ∧ (takePrs c code s).peer.table = s.peer.table
      ∧ (takePrs c code s).peer.lastFull = s.peer.lastFull ∧ (takePrs c code s).peer.due = s.peer.due
      ∧ (takePrs c code s).peer.repeats = s.peer.repeats ∧ (takePrs c code s).peer.dupCount = s.peer.dupCount
      ∧ (takePrs c code s).peer.period = s.peer.period ∧ (takePrs c code s).peer.periodLeft = s.peer.periodLeft
      ∧ (takePrs c code s).peer.posting.cycleState = s.peer.posting.cycleState
      ∧ (takePrs c code s).peer.posting.programme = s.peer.posting.programme
      ∧ (takePrs c code s).peer.posting.openSeq = s.peer.posting.openSeq
      ∧ (takePrs c code s).peer.posting.lastVerdict = s.peer.posting.lastVerdict
      ∧ (takePrs c code s).peer.posting.acoustic = s.peer.posting.acoustic
      ∧ (takePrs c code s).peer.posting.listen = s.peer.posting.listen
      ∧ (takePrs c code s).peer.posting.listenAge = s.peer.posting.listenAge
      ∧ (takePrs c code s).peer.posting.demand = s.peer.posting.demand
      ∧ (takePrs c code s).peer.posting.yielding = s.peer.posting.yielding
      ∧ (takePrs c code s).peer.posting.unconfigured = s.peer.posting.unconfigured
      ∧ (takePrs c code s).peer.posting.dupStation = s.peer.posting.dupStation
      ∧ (takePrs c code s).peer.posting.storeFault = s.peer.posting.storeFault
      ∧ (takePrs c code s).peer.posting.supplyWarning = s.peer.posting.supplyWarning
      ∧ (takePrs c code s).peer.posting.resetCause = s.peer.posting.resetCause := by
  unfold takePrs
  (repeat' split) <;> simp

@[simp] theorem takeAirt_frame (c : CircuitId) (code : Nat) (s : State) :
    (takeAirt c code s).cyc = s.cyc ∧ (takeAirt c code s).run = s.run ∧ (takeAirt c code s).lsn = s.lsn
      ∧ (takeAirt c code s).vib = s.vib ∧ (takeAirt c code s).sca = s.sca ∧ (takeAirt c code s).dev = s.dev
      ∧ (takeAirt c code s).store = s.store ∧ (takeAirt c code s).lif = s.lif ∧ (takeAirt c code s).cfg = s.cfg
      ∧ (takeAirt c code s).boot = s.boot ∧ (takeAirt c code s).supplyWarning = s.supplyWarning
      ∧ (takeAirt c code s).pins = s.pins ∧ (takeAirt c code s).clock = s.clock
      ∧ (takeAirt c code s).draws = s.draws ∧ (takeAirt c code s).pending = s.pending
      ∧ (takeAirt c code s).peer.table = s.peer.table ∧ (takeAirt c code s).peer.lastFull = s.peer.lastFull
      ∧ (takeAirt c code s).peer.due = s.peer.due ∧ (takeAirt c code s).peer.repeats = s.peer.repeats
      ∧ (takeAirt c code s).peer.dupCount = s.peer.dupCount ∧ (takeAirt c code s).peer.period = s.peer.period
      ∧ (takeAirt c code s).peer.periodLeft = s.peer.periodLeft
      ∧ (takeAirt c code s).peer.posting.cycleState = s.peer.posting.cycleState
      ∧ (takeAirt c code s).peer.posting.programme = s.peer.posting.programme
      ∧ (takeAirt c code s).peer.posting.openSeq = s.peer.posting.openSeq
      ∧ (takeAirt c code s).peer.posting.lastVerdict = s.peer.posting.lastVerdict
      ∧ (takeAirt c code s).peer.posting.acoustic = s.peer.posting.acoustic
      ∧ (takeAirt c code s).peer.posting.listen = s.peer.posting.listen
      ∧ (takeAirt c code s).peer.posting.listenAge = s.peer.posting.listenAge
      ∧ (takeAirt c code s).peer.posting.demand = s.peer.posting.demand
      ∧ (takeAirt c code s).peer.posting.yielding = s.peer.posting.yielding
      ∧ (takeAirt c code s).peer.posting.unconfigured = s.peer.posting.unconfigured
      ∧ (takeAirt c code s).peer.posting.dupStation = s.peer.posting.dupStation
      ∧ (takeAirt c code s).peer.posting.storeFault = s.peer.posting.storeFault
      ∧ (takeAirt c code s).peer.posting.supplyWarning = s.peer.posting.supplyWarning
      ∧ (takeAirt c code s).peer.posting.resetCause = s.peer.posting.resetCause := by
  unfold takeAirt
  (repeat' split) <;> simp

@[simp] theorem leakDropped_frame (dropped : Slow → Bool) (s : State) :
    (leakDropped dropped s).cyc = s.cyc ∧ (leakDropped dropped s).peer = s.peer
      ∧ (leakDropped dropped s).run = s.run ∧ (leakDropped dropped s).lsn = s.lsn
      ∧ (leakDropped dropped s).vib = s.vib ∧ (leakDropped dropped s).sca = s.sca
      ∧ (leakDropped dropped s).dev = s.dev ∧ (leakDropped dropped s).store = s.store
      ∧ (leakDropped dropped s).lif = s.lif ∧ (leakDropped dropped s).cfg = s.cfg
      ∧ (leakDropped dropped s).boot = s.boot ∧ (leakDropped dropped s).supplyWarning = s.supplyWarning
      ∧ (leakDropped dropped s).pins = s.pins ∧ (leakDropped dropped s).clock = s.clock
      ∧ (leakDropped dropped s).draws = s.draws ∧ (leakDropped dropped s).pending = s.pending
      ∧ (leakDropped dropped s).leak.armed = s.leak.armed := by
  refine ⟨rfl, rfl, rfl, rfl, rfl, rfl, rfl, rfl, rfl, rfl, rfl, rfl, rfl, rfl, rfl, rfl, rfl⟩

@[simp] theorem fillExpired_frame (c : CircuitId) (s : State) :
    (fillExpired c s).cyc = s.cyc ∧ (fillExpired c s).run = s.run ∧ (fillExpired c s).lsn = s.lsn
      ∧ (fillExpired c s).vib = s.vib ∧ (fillExpired c s).sca = s.sca ∧ (fillExpired c s).store = s.store
      ∧ (fillExpired c s).lif = s.lif ∧ (fillExpired c s).cfg = s.cfg ∧ (fillExpired c s).boot = s.boot
      ∧ (fillExpired c s).supplyWarning = s.supplyWarning ∧ (fillExpired c s).pins = s.pins
      ∧ (fillExpired c s).clock = s.clock ∧ (fillExpired c s).draws = s.draws
      ∧ (fillExpired c s).pending = s.pending ∧ (fillExpired c s).peer.table = s.peer.table
      ∧ (fillExpired c s).peer.lastFull = s.peer.lastFull ∧ (fillExpired c s).peer.due = s.peer.due
      ∧ (fillExpired c s).peer.repeats = s.peer.repeats ∧ (fillExpired c s).peer.dupCount = s.peer.dupCount
      ∧ (fillExpired c s).peer.period = s.peer.period ∧ (fillExpired c s).peer.periodLeft = s.peer.periodLeft
      ∧ (fillExpired c s).peer.posting.cycleState = s.peer.posting.cycleState
      ∧ (fillExpired c s).peer.posting.programme = s.peer.posting.programme
      ∧ (fillExpired c s).peer.posting.openSeq = s.peer.posting.openSeq
      ∧ (fillExpired c s).peer.posting.lastVerdict = s.peer.posting.lastVerdict
      ∧ (fillExpired c s).peer.posting.acoustic = s.peer.posting.acoustic
      ∧ (fillExpired c s).peer.posting.listen = s.peer.posting.listen
      ∧ (fillExpired c s).peer.posting.listenAge = s.peer.posting.listenAge
      ∧ (fillExpired c s).peer.posting.demand = s.peer.posting.demand
      ∧ (fillExpired c s).peer.posting.yielding = s.peer.posting.yielding
      ∧ (fillExpired c s).peer.posting.unconfigured = s.peer.posting.unconfigured
      ∧ (fillExpired c s).peer.posting.dupStation = s.peer.posting.dupStation
      ∧ (fillExpired c s).peer.posting.storeFault = s.peer.posting.storeFault
      ∧ (fillExpired c s).peer.posting.supplyWarning = s.peer.posting.supplyWarning
      ∧ (fillExpired c s).peer.posting.resetCause = s.peer.posting.resetCause := by
  unfold fillExpired
  (repeat' split) <;> simp

@[simp] theorem stabiliseExpired_frame (c : CircuitId) (s : State) :
    (stabiliseExpired c s).cyc = s.cyc ∧ (stabiliseExpired c s).run = s.run ∧ (stabiliseExpired c s).lsn = s.lsn
      ∧ (stabiliseExpired c s).vib = s.vib ∧ (stabiliseExpired c s).sca = s.sca ∧ (stabiliseExpired c s).dev = s.dev
      ∧ (stabiliseExpired c s).store = s.store ∧ (stabiliseExpired c s).lif = s.lif
      ∧ (stabiliseExpired c s).cfg = s.cfg ∧ (stabiliseExpired c s).boot = s.boot
      ∧ (stabiliseExpired c s).supplyWarning = s.supplyWarning ∧ (stabiliseExpired c s).pins = s.pins
      ∧ (stabiliseExpired c s).clock = s.clock ∧ (stabiliseExpired c s).draws = s.draws
      ∧ (stabiliseExpired c s).pending = s.pending ∧ (stabiliseExpired c s).peer.table = s.peer.table
      ∧ (stabiliseExpired c s).peer.lastFull = s.peer.lastFull ∧ (stabiliseExpired c s).peer.due = s.peer.due
      ∧ (stabiliseExpired c s).peer.repeats = s.peer.repeats
      ∧ (stabiliseExpired c s).peer.dupCount = s.peer.dupCount ∧ (stabiliseExpired c s).peer.period = s.peer.period
      ∧ (stabiliseExpired c s).peer.periodLeft = s.peer.periodLeft
      ∧ (stabiliseExpired c s).peer.posting.cycleState = s.peer.posting.cycleState
      ∧ (stabiliseExpired c s).peer.posting.programme = s.peer.posting.programme
      ∧ (stabiliseExpired c s).peer.posting.openSeq = s.peer.posting.openSeq
      ∧ (stabiliseExpired c s).peer.posting.lastVerdict = s.peer.posting.lastVerdict
      ∧ (stabiliseExpired c s).peer.posting.acoustic = s.peer.posting.acoustic
      ∧ (stabiliseExpired c s).peer.posting.listen = s.peer.posting.listen
      ∧ (stabiliseExpired c s).peer.posting.listenAge = s.peer.posting.listenAge
      ∧ (stabiliseExpired c s).peer.posting.demand = s.peer.posting.demand
      ∧ (stabiliseExpired c s).peer.posting.yielding = s.peer.posting.yielding
      ∧ (stabiliseExpired c s).peer.posting.unconfigured = s.peer.posting.unconfigured
      ∧ (stabiliseExpired c s).peer.posting.dupStation = s.peer.posting.dupStation
      ∧ (stabiliseExpired c s).peer.posting.storeFault = s.peer.posting.storeFault
      ∧ (stabiliseExpired c s).peer.posting.supplyWarning = s.peer.posting.supplyWarning
      ∧ (stabiliseExpired c s).peer.posting.resetCause = s.peer.posting.resetCause := by
  unfold stabiliseExpired
  (repeat' split) <;> simp

@[simp] theorem raiseLeak_frame (c : CircuitId) (r : LeakResult) (s : State) :
    (raiseLeak c r s).cyc = s.cyc ∧ (raiseLeak c r s).peer = s.peer ∧ (raiseLeak c r s).run = s.run
      ∧ (raiseLeak c r s).lsn = s.lsn ∧ (raiseLeak c r s).vib = s.vib ∧ (raiseLeak c r s).sca = s.sca
      ∧ (raiseLeak c r s).leak = s.leak ∧ (raiseLeak c r s).store = s.store ∧ (raiseLeak c r s).lif = s.lif
      ∧ (raiseLeak c r s).cfg = s.cfg ∧ (raiseLeak c r s).boot = s.boot
      ∧ (raiseLeak c r s).supplyWarning = s.supplyWarning ∧ (raiseLeak c r s).pins = s.pins
      ∧ (raiseLeak c r s).clock = s.clock ∧ (raiseLeak c r s).draws = s.draws
      ∧ (raiseLeak c r s).pending = s.pending := by
  unfold raiseLeak
  (repeat' split) <;> simp

@[simp] theorem measureStarved_frame (c : CircuitId) (s : State) :
    (measureStarved c s).cyc = s.cyc ∧ (measureStarved c s).run = s.run ∧ (measureStarved c s).lsn = s.lsn
      ∧ (measureStarved c s).vib = s.vib ∧ (measureStarved c s).sca = s.sca ∧ (measureStarved c s).store = s.store
      ∧ (measureStarved c s).lif = s.lif ∧ (measureStarved c s).cfg = s.cfg ∧ (measureStarved c s).boot = s.boot
      ∧ (measureStarved c s).supplyWarning = s.supplyWarning ∧ (measureStarved c s).pins = s.pins
      ∧ (measureStarved c s).clock = s.clock ∧ (measureStarved c s).draws = s.draws
      ∧ (measureStarved c s).pending = s.pending ∧ (measureStarved c s).peer.table = s.peer.table
      ∧ (measureStarved c s).peer.lastFull = s.peer.lastFull ∧ (measureStarved c s).peer.due = s.peer.due
      ∧ (measureStarved c s).peer.repeats = s.peer.repeats ∧ (measureStarved c s).peer.dupCount = s.peer.dupCount
      ∧ (measureStarved c s).peer.period = s.peer.period ∧ (measureStarved c s).peer.periodLeft = s.peer.periodLeft
      ∧ (measureStarved c s).peer.posting.cycleState = s.peer.posting.cycleState
      ∧ (measureStarved c s).peer.posting.programme = s.peer.posting.programme
      ∧ (measureStarved c s).peer.posting.openSeq = s.peer.posting.openSeq
      ∧ (measureStarved c s).peer.posting.lastVerdict = s.peer.posting.lastVerdict
      ∧ (measureStarved c s).peer.posting.acoustic = s.peer.posting.acoustic
      ∧ (measureStarved c s).peer.posting.listen = s.peer.posting.listen
      ∧ (measureStarved c s).peer.posting.listenAge = s.peer.posting.listenAge
      ∧ (measureStarved c s).peer.posting.demand = s.peer.posting.demand
      ∧ (measureStarved c s).peer.posting.yielding = s.peer.posting.yielding
      ∧ (measureStarved c s).peer.posting.unconfigured = s.peer.posting.unconfigured
      ∧ (measureStarved c s).peer.posting.dupStation = s.peer.posting.dupStation
      ∧ (measureStarved c s).peer.posting.storeFault = s.peer.posting.storeFault
      ∧ (measureStarved c s).peer.posting.supplyWarning = s.peer.posting.supplyWarning
      ∧ (measureStarved c s).peer.posting.resetCause = s.peer.posting.resetCause := by
  simp [measureStarved]

@[simp] theorem measureJudged_frame (c : CircuitId) (r : LeakResult) (s : State) :
    (measureJudged c r s).cyc = s.cyc ∧ (measureJudged c r s).run = s.run ∧ (measureJudged c r s).lsn = s.lsn
      ∧ (measureJudged c r s).vib = s.vib ∧ (measureJudged c r s).sca = s.sca
      ∧ (measureJudged c r s).store = s.store ∧ (measureJudged c r s).lif = s.lif
      ∧ (measureJudged c r s).cfg = s.cfg ∧ (measureJudged c r s).boot = s.boot
      ∧ (measureJudged c r s).supplyWarning = s.supplyWarning ∧ (measureJudged c r s).pins = s.pins
      ∧ (measureJudged c r s).clock = s.clock ∧ (measureJudged c r s).draws = s.draws
      ∧ (measureJudged c r s).pending = s.pending ∧ (measureJudged c r s).peer.table = s.peer.table
      ∧ (measureJudged c r s).peer.lastFull = s.peer.lastFull ∧ (measureJudged c r s).peer.due = s.peer.due
      ∧ (measureJudged c r s).peer.repeats = s.peer.repeats ∧ (measureJudged c r s).peer.dupCount = s.peer.dupCount
      ∧ (measureJudged c r s).peer.period = s.peer.period
      ∧ (measureJudged c r s).peer.periodLeft = s.peer.periodLeft
      ∧ (measureJudged c r s).peer.posting.cycleState = s.peer.posting.cycleState
      ∧ (measureJudged c r s).peer.posting.programme = s.peer.posting.programme
      ∧ (measureJudged c r s).peer.posting.openSeq = s.peer.posting.openSeq
      ∧ (measureJudged c r s).peer.posting.lastVerdict = s.peer.posting.lastVerdict
      ∧ (measureJudged c r s).peer.posting.acoustic = s.peer.posting.acoustic
      ∧ (measureJudged c r s).peer.posting.listen = s.peer.posting.listen
      ∧ (measureJudged c r s).peer.posting.listenAge = s.peer.posting.listenAge
      ∧ (measureJudged c r s).peer.posting.demand = s.peer.posting.demand
      ∧ (measureJudged c r s).peer.posting.yielding = s.peer.posting.yielding
      ∧ (measureJudged c r s).peer.posting.unconfigured = s.peer.posting.unconfigured
      ∧ (measureJudged c r s).peer.posting.dupStation = s.peer.posting.dupStation
      ∧ (measureJudged c r s).peer.posting.storeFault = s.peer.posting.storeFault
      ∧ (measureJudged c r s).peer.posting.supplyWarning = s.peer.posting.supplyWarning
      ∧ (measureJudged c r s).peer.posting.resetCause = s.peer.posting.resetCause := by
  simp [measureJudged]

@[simp] theorem measureExpired_frame (c : CircuitId) (s : State) :
    (measureExpired c s).cyc = s.cyc ∧ (measureExpired c s).run = s.run ∧ (measureExpired c s).lsn = s.lsn
      ∧ (measureExpired c s).vib = s.vib ∧ (measureExpired c s).sca = s.sca ∧ (measureExpired c s).store = s.store
      ∧ (measureExpired c s).lif = s.lif ∧ (measureExpired c s).cfg = s.cfg ∧ (measureExpired c s).boot = s.boot
      ∧ (measureExpired c s).supplyWarning = s.supplyWarning ∧ (measureExpired c s).pins = s.pins
      ∧ (measureExpired c s).clock = s.clock ∧ (measureExpired c s).draws = s.draws
      ∧ (measureExpired c s).pending = s.pending ∧ (measureExpired c s).peer.table = s.peer.table
      ∧ (measureExpired c s).peer.lastFull = s.peer.lastFull ∧ (measureExpired c s).peer.due = s.peer.due
      ∧ (measureExpired c s).peer.repeats = s.peer.repeats ∧ (measureExpired c s).peer.dupCount = s.peer.dupCount
      ∧ (measureExpired c s).peer.period = s.peer.period ∧ (measureExpired c s).peer.periodLeft = s.peer.periodLeft
      ∧ (measureExpired c s).peer.posting.cycleState = s.peer.posting.cycleState
      ∧ (measureExpired c s).peer.posting.programme = s.peer.posting.programme
      ∧ (measureExpired c s).peer.posting.openSeq = s.peer.posting.openSeq
      ∧ (measureExpired c s).peer.posting.lastVerdict = s.peer.posting.lastVerdict
      ∧ (measureExpired c s).peer.posting.acoustic = s.peer.posting.acoustic
      ∧ (measureExpired c s).peer.posting.listen = s.peer.posting.listen
      ∧ (measureExpired c s).peer.posting.listenAge = s.peer.posting.listenAge
      ∧ (measureExpired c s).peer.posting.demand = s.peer.posting.demand
      ∧ (measureExpired c s).peer.posting.yielding = s.peer.posting.yielding
      ∧ (measureExpired c s).peer.posting.unconfigured = s.peer.posting.unconfigured
      ∧ (measureExpired c s).peer.posting.dupStation = s.peer.posting.dupStation
      ∧ (measureExpired c s).peer.posting.storeFault = s.peer.posting.storeFault
      ∧ (measureExpired c s).peer.posting.supplyWarning = s.peer.posting.supplyWarning
      ∧ (measureExpired c s).peer.posting.resetCause = s.peer.posting.resetCause := by
  unfold measureExpired
  (repeat' split) <;> simp

@[simp] theorem airWaited_frame (c : CircuitId) (s : State) :
    (airWaited c s).cyc = s.cyc ∧ (airWaited c s).peer = s.peer ∧ (airWaited c s).run = s.run
      ∧ (airWaited c s).lsn = s.lsn ∧ (airWaited c s).vib = s.vib ∧ (airWaited c s).sca = s.sca
      ∧ (airWaited c s).store = s.store ∧ (airWaited c s).lif = s.lif ∧ (airWaited c s).cfg = s.cfg
      ∧ (airWaited c s).boot = s.boot ∧ (airWaited c s).supplyWarning = s.supplyWarning
      ∧ (airWaited c s).pins = s.pins ∧ (airWaited c s).clock = s.clock ∧ (airWaited c s).draws = s.draws
      ∧ (airWaited c s).pending = s.pending := by
  unfold airWaited
  (repeat' split) <;> simp

@[simp] theorem writeCircuit_frame (c : CircuitId) (s : State) :
    (writeCircuit c s).peer = s.peer ∧ (writeCircuit c s).run = s.run ∧ (writeCircuit c s).lsn = s.lsn
      ∧ (writeCircuit c s).vib = s.vib ∧ (writeCircuit c s).sca = s.sca ∧ (writeCircuit c s).leak = s.leak
      ∧ (writeCircuit c s).dev = s.dev ∧ (writeCircuit c s).store = s.store ∧ (writeCircuit c s).lif = s.lif
      ∧ (writeCircuit c s).cfg = s.cfg ∧ (writeCircuit c s).boot = s.boot
      ∧ (writeCircuit c s).supplyWarning = s.supplyWarning ∧ (writeCircuit c s).pins = s.pins
      ∧ (writeCircuit c s).clock = s.clock ∧ (writeCircuit c s).draws = s.draws
      ∧ (writeCircuit c s).pending = s.pending ∧ (writeCircuit c s).cyc.station = s.cyc.station
      ∧ (writeCircuit c s).cyc.programme = s.cyc.programme ∧ (writeCircuit c s).cyc.timerMs = s.cyc.timerMs
      ∧ (writeCircuit c s).cyc.formed = s.cyc.formed := by
  refine ⟨rfl, rfl, rfl, rfl, rfl, rfl, rfl, rfl, rfl, rfl, rfl, rfl, rfl, rfl, rfl, rfl, rfl, rfl, rfl, rfl⟩

@[simp] theorem abortCircuit_frame (c : CircuitId) (s : State) :
    (abortCircuit c s).run = s.run ∧ (abortCircuit c s).lsn = s.lsn ∧ (abortCircuit c s).vib = s.vib
      ∧ (abortCircuit c s).sca = s.sca ∧ (abortCircuit c s).dev = s.dev ∧ (abortCircuit c s).store = s.store
      ∧ (abortCircuit c s).lif = s.lif ∧ (abortCircuit c s).cfg = s.cfg ∧ (abortCircuit c s).boot = s.boot
      ∧ (abortCircuit c s).supplyWarning = s.supplyWarning ∧ (abortCircuit c s).pins = s.pins
      ∧ (abortCircuit c s).clock = s.clock ∧ (abortCircuit c s).draws = s.draws
      ∧ (abortCircuit c s).pending = s.pending ∧ (abortCircuit c s).cyc.station = s.cyc.station
      ∧ (abortCircuit c s).cyc.programme = s.cyc.programme ∧ (abortCircuit c s).cyc.timerMs = s.cyc.timerMs
      ∧ (abortCircuit c s).cyc.formed = s.cyc.formed ∧ (abortCircuit c s).peer.table = s.peer.table
      ∧ (abortCircuit c s).peer.lastFull = s.peer.lastFull ∧ (abortCircuit c s).peer.due = s.peer.due
      ∧ (abortCircuit c s).peer.repeats = s.peer.repeats ∧ (abortCircuit c s).peer.dupCount = s.peer.dupCount
      ∧ (abortCircuit c s).peer.period = s.peer.period ∧ (abortCircuit c s).peer.periodLeft = s.peer.periodLeft
      ∧ (abortCircuit c s).peer.posting.cycleState = s.peer.posting.cycleState
      ∧ (abortCircuit c s).peer.posting.programme = s.peer.posting.programme
      ∧ (abortCircuit c s).peer.posting.openSeq = s.peer.posting.openSeq
      ∧ (abortCircuit c s).peer.posting.lastVerdict = s.peer.posting.lastVerdict
      ∧ (abortCircuit c s).peer.posting.acoustic = s.peer.posting.acoustic
      ∧ (abortCircuit c s).peer.posting.listen = s.peer.posting.listen
      ∧ (abortCircuit c s).peer.posting.listenAge = s.peer.posting.listenAge
      ∧ (abortCircuit c s).peer.posting.demand = s.peer.posting.demand
      ∧ (abortCircuit c s).peer.posting.yielding = s.peer.posting.yielding
      ∧ (abortCircuit c s).peer.posting.unconfigured = s.peer.posting.unconfigured
      ∧ (abortCircuit c s).peer.posting.dupStation = s.peer.posting.dupStation
      ∧ (abortCircuit c s).peer.posting.storeFault = s.peer.posting.storeFault
      ∧ (abortCircuit c s).peer.posting.supplyWarning = s.peer.posting.supplyWarning
      ∧ (abortCircuit c s).peer.posting.resetCause = s.peer.posting.resetCause := by
  unfold abortCircuit
  (repeat' split) <;> simp

@[simp] theorem abortLeak_frame (s : State) :
    (abortLeak s).run = s.run ∧ (abortLeak s).lsn = s.lsn ∧ (abortLeak s).vib = s.vib ∧ (abortLeak s).sca = s.sca
      ∧ (abortLeak s).dev = s.dev ∧ (abortLeak s).store = s.store ∧ (abortLeak s).lif = s.lif
      ∧ (abortLeak s).cfg = s.cfg ∧ (abortLeak s).boot = s.boot ∧ (abortLeak s).supplyWarning = s.supplyWarning
      ∧ (abortLeak s).pins = s.pins ∧ (abortLeak s).clock = s.clock ∧ (abortLeak s).draws = s.draws
      ∧ (abortLeak s).pending = s.pending ∧ (abortLeak s).cyc.station = s.cyc.station
      ∧ (abortLeak s).cyc.programme = s.cyc.programme ∧ (abortLeak s).cyc.timerMs = s.cyc.timerMs
      ∧ (abortLeak s).cyc.formed = s.cyc.formed ∧ (abortLeak s).peer.table = s.peer.table
      ∧ (abortLeak s).peer.lastFull = s.peer.lastFull ∧ (abortLeak s).peer.due = s.peer.due
      ∧ (abortLeak s).peer.repeats = s.peer.repeats ∧ (abortLeak s).peer.dupCount = s.peer.dupCount
      ∧ (abortLeak s).peer.period = s.peer.period ∧ (abortLeak s).peer.periodLeft = s.peer.periodLeft
      ∧ (abortLeak s).peer.posting.cycleState = s.peer.posting.cycleState
      ∧ (abortLeak s).peer.posting.programme = s.peer.posting.programme
      ∧ (abortLeak s).peer.posting.openSeq = s.peer.posting.openSeq
      ∧ (abortLeak s).peer.posting.lastVerdict = s.peer.posting.lastVerdict
      ∧ (abortLeak s).peer.posting.acoustic = s.peer.posting.acoustic
      ∧ (abortLeak s).peer.posting.listen = s.peer.posting.listen
      ∧ (abortLeak s).peer.posting.listenAge = s.peer.posting.listenAge
      ∧ (abortLeak s).peer.posting.demand = s.peer.posting.demand
      ∧ (abortLeak s).peer.posting.yielding = s.peer.posting.yielding
      ∧ (abortLeak s).peer.posting.unconfigured = s.peer.posting.unconfigured
      ∧ (abortLeak s).peer.posting.dupStation = s.peer.posting.dupStation
      ∧ (abortLeak s).peer.posting.storeFault = s.peer.posting.storeFault
      ∧ (abortLeak s).peer.posting.supplyWarning = s.peer.posting.supplyWarning
      ∧ (abortLeak s).peer.posting.resetCause = s.peer.posting.resetCause := by
  simp [abortLeak]

end Sys2Proof.Machine
end

