-- ==== Sys2Proof/Laws/RunIn.lean ====
section
/-! SUPPORT. What each operation of the cycle's close, the run-in and the slow converter leaves as it is. -/
namespace Sys2Proof.Machine

@[simp] theorem refreshRecord_frame (s : State) :
    (refreshRecord s).peer = s.peer ∧ (refreshRecord s).run = s.run ∧ (refreshRecord s).lsn = s.lsn
      ∧ (refreshRecord s).vib = s.vib ∧ (refreshRecord s).sca = s.sca ∧ (refreshRecord s).leak = s.leak
      ∧ (refreshRecord s).dev = s.dev ∧ (refreshRecord s).store = s.store ∧ (refreshRecord s).lif = s.lif
      ∧ (refreshRecord s).cfg = s.cfg ∧ (refreshRecord s).boot = s.boot
      ∧ (refreshRecord s).supplyWarning = s.supplyWarning ∧ (refreshRecord s).pins = s.pins
      ∧ (refreshRecord s).clock = s.clock ∧ (refreshRecord s).draws = s.draws
      ∧ (refreshRecord s).pending = s.pending ∧ (refreshRecord s).cyc.station = s.cyc.station
      ∧ (refreshRecord s).cyc.programme = s.cyc.programme ∧ (refreshRecord s).cyc.timerMs = s.cyc.timerMs
      ∧ (refreshRecord s).cyc.formed = s.cyc.formed := by
  refine ⟨rfl, rfl, rfl, rfl, rfl, rfl, rfl, rfl, rfl, rfl, rfl, rfl, rfl, rfl, rfl, rfl, rfl, rfl, rfl, rfl⟩

@[simp] theorem handOver_frame (kind : CommitKind) (s : State) :
    (handOver kind s).run = s.run ∧ (handOver kind s).lsn = s.lsn ∧ (handOver kind s).vib = s.vib
      ∧ (handOver kind s).sca = s.sca ∧ (handOver kind s).dev = s.dev ∧ (handOver kind s).lif = s.lif
      ∧ (handOver kind s).cfg = s.cfg ∧ (handOver kind s).supplyWarning = s.supplyWarning
      ∧ (handOver kind s).pins = s.pins ∧ (handOver kind s).clock = s.clock ∧ (handOver kind s).draws = s.draws
      ∧ (handOver kind s).pending = s.pending ∧ (handOver kind s).cyc.record = s.cyc.record
      ∧ (handOver kind s).cyc.programme = s.cyc.programme ∧ (handOver kind s).cyc.timerMs = s.cyc.timerMs
      ∧ (handOver kind s).cyc.formed = s.cyc.formed ∧ (handOver kind s).peer.table = s.peer.table
      ∧ (handOver kind s).peer.lastFull = s.peer.lastFull ∧ (handOver kind s).peer.due = s.peer.due
      ∧ (handOver kind s).peer.repeats = s.peer.repeats ∧ (handOver kind s).peer.dupCount = s.peer.dupCount
      ∧ (handOver kind s).peer.period = s.peer.period ∧ (handOver kind s).peer.periodLeft = s.peer.periodLeft
      ∧ (handOver kind s).leak.armed = s.leak.armed ∧ (handOver kind s).store.flash = s.store.flash
      ∧ (handOver kind s).store.pairs = s.store.pairs ∧ (handOver kind s).store.nextSeq = s.store.nextSeq
      ∧ (handOver kind s).store.recovery = s.store.recovery := by
  unfold handOver
  (repeat' split) <;> simp

@[simp] theorem checkpoint_frame (s : State) :
    (checkpoint s).run = s.run ∧ (checkpoint s).lsn = s.lsn ∧ (checkpoint s).vib = s.vib
      ∧ (checkpoint s).sca = s.sca ∧ (checkpoint s).dev = s.dev ∧ (checkpoint s).lif = s.lif
      ∧ (checkpoint s).cfg = s.cfg ∧ (checkpoint s).supplyWarning = s.supplyWarning ∧ (checkpoint s).pins = s.pins
      ∧ (checkpoint s).clock = s.clock ∧ (checkpoint s).draws = s.draws ∧ (checkpoint s).pending = s.pending
      ∧ (checkpoint s).cyc.programme = s.cyc.programme ∧ (checkpoint s).cyc.timerMs = s.cyc.timerMs
      ∧ (checkpoint s).cyc.formed = s.cyc.formed ∧ (checkpoint s).peer.table = s.peer.table
      ∧ (checkpoint s).peer.lastFull = s.peer.lastFull ∧ (checkpoint s).peer.due = s.peer.due
      ∧ (checkpoint s).peer.repeats = s.peer.repeats ∧ (checkpoint s).peer.dupCount = s.peer.dupCount
      ∧ (checkpoint s).peer.period = s.peer.period ∧ (checkpoint s).peer.periodLeft = s.peer.periodLeft
      ∧ (checkpoint s).leak.armed = s.leak.armed ∧ (checkpoint s).store.flash = s.store.flash
      ∧ (checkpoint s).store.pairs = s.store.pairs ∧ (checkpoint s).store.nextSeq = s.store.nextSeq
      ∧ (checkpoint s).store.recovery = s.store.recovery := by
  unfold checkpoint
  (repeat' split) <;> simp

@[simp] theorem closeCycle_frame (s : State) :
    (closeCycle s).run = s.run ∧ (closeCycle s).lsn = s.lsn ∧ (closeCycle s).vib = s.vib
      ∧ (closeCycle s).sca = s.sca ∧ (closeCycle s).dev = s.dev ∧ (closeCycle s).lif = s.lif
      ∧ (closeCycle s).cfg = s.cfg ∧ (closeCycle s).supplyWarning = s.supplyWarning ∧ (closeCycle s).pins = s.pins
      ∧ (closeCycle s).clock = s.clock ∧ (closeCycle s).draws = s.draws ∧ (closeCycle s).pending = s.pending
      ∧ (closeCycle s).cyc.programme = s.cyc.programme ∧ (closeCycle s).cyc.timerMs = s.cyc.timerMs
      ∧ (closeCycle s).peer.table = s.peer.table ∧ (closeCycle s).peer.lastFull = s.peer.lastFull
      ∧ (closeCycle s).peer.due = s.peer.due ∧ (closeCycle s).peer.repeats = s.peer.repeats
      ∧ (closeCycle s).peer.dupCount = s.peer.dupCount ∧ (closeCycle s).peer.period = s.peer.period
      ∧ (closeCycle s).peer.periodLeft = s.peer.periodLeft ∧ (closeCycle s).leak.armed = s.leak.armed
      ∧ (closeCycle s).store.flash = s.store.flash ∧ (closeCycle s).store.pairs = s.store.pairs
      ∧ (closeCycle s).store.nextSeq = s.store.nextSeq ∧ (closeCycle s).store.recovery = s.store.recovery := by
  simp [closeCycle]

@[simp] theorem jobEnded_frame (s : State) :
    (jobEnded s).run = s.run ∧ (jobEnded s).lsn = s.lsn ∧ (jobEnded s).vib = s.vib ∧ (jobEnded s).sca = s.sca
      ∧ (jobEnded s).dev = s.dev ∧ (jobEnded s).lif = s.lif ∧ (jobEnded s).cfg = s.cfg
      ∧ (jobEnded s).supplyWarning = s.supplyWarning ∧ (jobEnded s).pins = s.pins ∧ (jobEnded s).clock = s.clock
      ∧ (jobEnded s).draws = s.draws ∧ (jobEnded s).pending = s.pending
      ∧ (jobEnded s).cyc.programme = s.cyc.programme ∧ (jobEnded s).cyc.timerMs = s.cyc.timerMs
      ∧ (jobEnded s).peer.table = s.peer.table ∧ (jobEnded s).peer.lastFull = s.peer.lastFull
      ∧ (jobEnded s).peer.due = s.peer.due ∧ (jobEnded s).peer.repeats = s.peer.repeats
      ∧ (jobEnded s).peer.dupCount = s.peer.dupCount ∧ (jobEnded s).peer.period = s.peer.period
      ∧ (jobEnded s).peer.periodLeft = s.peer.periodLeft ∧ (jobEnded s).leak.armed = s.leak.armed
      ∧ (jobEnded s).store.flash = s.store.flash ∧ (jobEnded s).store.pairs = s.store.pairs
      ∧ (jobEnded s).store.nextSeq = s.store.nextSeq ∧ (jobEnded s).store.recovery = s.store.recovery := by
  unfold jobEnded
  (repeat' split) <;> simp

@[simp] theorem closeIfAtRest_frame (s : State) :
    (closeIfAtRest s).run = s.run ∧ (closeIfAtRest s).lsn = s.lsn ∧ (closeIfAtRest s).vib = s.vib
      ∧ (closeIfAtRest s).sca = s.sca ∧ (closeIfAtRest s).dev = s.dev ∧ (closeIfAtRest s).lif = s.lif
      ∧ (closeIfAtRest s).cfg = s.cfg ∧ (closeIfAtRest s).supplyWarning = s.supplyWarning
      ∧ (closeIfAtRest s).pins = s.pins ∧ (closeIfAtRest s).clock = s.clock ∧ (closeIfAtRest s).draws = s.draws
      ∧ (closeIfAtRest s).pending = s.pending ∧ (closeIfAtRest s).cyc.programme = s.cyc.programme
      ∧ (closeIfAtRest s).cyc.timerMs = s.cyc.timerMs ∧ (closeIfAtRest s).peer.table = s.peer.table
      ∧ (closeIfAtRest s).peer.lastFull = s.peer.lastFull ∧ (closeIfAtRest s).peer.due = s.peer.due
      ∧ (closeIfAtRest s).peer.repeats = s.peer.repeats ∧ (closeIfAtRest s).peer.dupCount = s.peer.dupCount
      ∧ (closeIfAtRest s).peer.period = s.peer.period ∧ (closeIfAtRest s).peer.periodLeft = s.peer.periodLeft
      ∧ (closeIfAtRest s).leak.armed = s.leak.armed ∧ (closeIfAtRest s).store.flash = s.store.flash
      ∧ (closeIfAtRest s).store.pairs = s.store.pairs ∧ (closeIfAtRest s).store.nextSeq = s.store.nextSeq
      ∧ (closeIfAtRest s).store.recovery = s.store.recovery := by
  unfold closeIfAtRest
  (repeat' split) <;> simp

@[simp] theorem ventExpired_frame (c : CircuitId) (s : State) :
    (ventExpired c s).run = s.run ∧ (ventExpired c s).lsn = s.lsn ∧ (ventExpired c s).vib = s.vib
      ∧ (ventExpired c s).sca = s.sca ∧ (ventExpired c s).dev = s.dev ∧ (ventExpired c s).lif = s.lif
      ∧ (ventExpired c s).cfg = s.cfg ∧ (ventExpired c s).supplyWarning = s.supplyWarning
      ∧ (ventExpired c s).pins = s.pins ∧ (ventExpired c s).clock = s.clock ∧ (ventExpired c s).draws = s.draws
      ∧ (ventExpired c s).pending = s.pending ∧ (ventExpired c s).cyc.programme = s.cyc.programme
      ∧ (ventExpired c s).cyc.timerMs = s.cyc.timerMs ∧ (ventExpired c s).peer.table = s.peer.table
      ∧ (ventExpired c s).peer.lastFull = s.peer.lastFull ∧ (ventExpired c s).peer.due = s.peer.due
      ∧ (ventExpired c s).peer.repeats = s.peer.repeats ∧ (ventExpired c s).peer.dupCount = s.peer.dupCount
      ∧ (ventExpired c s).peer.period = s.peer.period ∧ (ventExpired c s).peer.periodLeft = s.peer.periodLeft
      ∧ (ventExpired c s).store.flash = s.store.flash ∧ (ventExpired c s).store.pairs = s.store.pairs
      ∧ (ventExpired c s).store.nextSeq = s.store.nextSeq ∧ (ventExpired c s).store.recovery = s.store.recovery := by
  unfold ventExpired
  (repeat' split) <;> simp

@[simp] theorem postSpeed_frame (s : State) :
    (postSpeed s).cyc = s.cyc ∧ (postSpeed s).run = s.run ∧ (postSpeed s).lsn = s.lsn ∧ (postSpeed s).vib = s.vib
      ∧ (postSpeed s).sca = s.sca ∧ (postSpeed s).leak = s.leak ∧ (postSpeed s).dev = s.dev
      ∧ (postSpeed s).store = s.store ∧ (postSpeed s).lif = s.lif ∧ (postSpeed s).cfg = s.cfg
      ∧ (postSpeed s).boot = s.boot ∧ (postSpeed s).supplyWarning = s.supplyWarning ∧ (postSpeed s).pins = s.pins
      ∧ (postSpeed s).clock = s.clock ∧ (postSpeed s).draws = s.draws ∧ (postSpeed s).pending = s.pending
      ∧ (postSpeed s).peer.table = s.peer.table ∧ (postSpeed s).peer.lastFull = s.peer.lastFull
      ∧ (postSpeed s).peer.due = s.peer.due ∧ (postSpeed s).peer.repeats = s.peer.repeats
      ∧ (postSpeed s).peer.dupCount = s.peer.dupCount ∧ (postSpeed s).peer.period = s.peer.period
      ∧ (postSpeed s).peer.periodLeft = s.peer.periodLeft
      ∧ (postSpeed s).peer.posting.cycleState = s.peer.posting.cycleState
      ∧ (postSpeed s).peer.posting.programme = s.peer.posting.programme
      ∧ (postSpeed s).peer.posting.openSeq = s.peer.posting.openSeq
      ∧ (postSpeed s).peer.posting.lastVerdict = s.peer.posting.lastVerdict
      ∧ (postSpeed s).peer.posting.listen = s.peer.posting.listen
      ∧ (postSpeed s).peer.posting.listenAge = s.peer.posting.listenAge
      ∧ (postSpeed s).peer.posting.air1 = s.peer.posting.air1
      ∧ (postSpeed s).peer.posting.air2 = s.peer.posting.air2
      ∧ (postSpeed s).peer.posting.airAge = s.peer.posting.airAge
      ∧ (postSpeed s).peer.posting.yielding = s.peer.posting.yielding
      ∧ (postSpeed s).peer.posting.unconfigured = s.peer.posting.unconfigured
      ∧ (postSpeed s).peer.posting.dupStation = s.peer.posting.dupStation
      ∧ (postSpeed s).peer.posting.storeFault = s.peer.posting.storeFault
      ∧ (postSpeed s).peer.posting.supplyWarning = s.peer.posting.supplyWarning
      ∧ (postSpeed s).peer.posting.resetCause = s.peer.posting.resetCause := by
  refine ⟨rfl, rfl, rfl, rfl, rfl, rfl, rfl, rfl, rfl, rfl, rfl, rfl, rfl, rfl, rfl, rfl, rfl, rfl, rfl, rfl, rfl, rfl, rfl, rfl, rfl, rfl, rfl, rfl, rfl, rfl, rfl, rfl, rfl, rfl, rfl, rfl, rfl, rfl⟩

@[simp] theorem setSpeed_frame (rpm : Nat) (s : State) :
    (setSpeed rpm s).cyc = s.cyc ∧ (setSpeed rpm s).lsn = s.lsn ∧ (setSpeed rpm s).vib = s.vib
      ∧ (setSpeed rpm s).sca = s.sca ∧ (setSpeed rpm s).leak = s.leak ∧ (setSpeed rpm s).dev = s.dev
      ∧ (setSpeed rpm s).store = s.store ∧ (setSpeed rpm s).lif = s.lif ∧ (setSpeed rpm s).cfg = s.cfg
      ∧ (setSpeed rpm s).boot = s.boot ∧ (setSpeed rpm s).supplyWarning = s.supplyWarning
      ∧ (setSpeed rpm s).pins = s.pins ∧ (setSpeed rpm s).clock = s.clock ∧ (setSpeed rpm s).draws = s.draws
      ∧ (setSpeed rpm s).pending = s.pending ∧ (setSpeed rpm s).peer.table = s.peer.table
      ∧ (setSpeed rpm s).peer.lastFull = s.peer.lastFull ∧ (setSpeed rpm s).peer.due = s.peer.due
      ∧ (setSpeed rpm s).peer.repeats = s.peer.repeats ∧ (setSpeed rpm s).peer.dupCount = s.peer.dupCount
      ∧ (setSpeed rpm s).peer.period = s.peer.period ∧ (setSpeed rpm s).peer.periodLeft = s.peer.periodLeft
      ∧ (setSpeed rpm s).peer.posting.cycleState = s.peer.posting.cycleState
      ∧ (setSpeed rpm s).peer.posting.programme = s.peer.posting.programme
      ∧ (setSpeed rpm s).peer.posting.openSeq = s.peer.posting.openSeq
      ∧ (setSpeed rpm s).peer.posting.lastVerdict = s.peer.posting.lastVerdict
      ∧ (setSpeed rpm s).peer.posting.listen = s.peer.posting.listen
      ∧ (setSpeed rpm s).peer.posting.listenAge = s.peer.posting.listenAge
      ∧ (setSpeed rpm s).peer.posting.air1 = s.peer.posting.air1
      ∧ (setSpeed rpm s).peer.posting.air2 = s.peer.posting.air2
      ∧ (setSpeed rpm s).peer.posting.airAge = s.peer.posting.airAge
      ∧ (setSpeed rpm s).peer.posting.yielding = s.peer.posting.yielding
      ∧ (setSpeed rpm s).peer.posting.unconfigured = s.peer.posting.unconfigured
      ∧ (setSpeed rpm s).peer.posting.dupStation = s.peer.posting.dupStation
      ∧ (setSpeed rpm s).peer.posting.storeFault = s.peer.posting.storeFault
      ∧ (setSpeed rpm s).peer.posting.supplyWarning = s.peer.posting.supplyWarning
      ∧ (setSpeed rpm s).peer.posting.resetCause = s.peer.posting.resetCause
      ∧ (setSpeed rpm s).run.state = s.run.state ∧ (setSpeed rpm s).run.seg = s.run.seg
      ∧ (setSpeed rpm s).run.stage = s.run.stage ∧ (setSpeed rpm s).run.dir = s.run.dir
      ∧ (setSpeed rpm s).run.measured = s.run.measured ∧ (setSpeed rpm s).run.holds = s.run.holds
      ∧ (setSpeed rpm s).run.torque = s.run.torque ∧ (setSpeed rpm s).run.oilCode = s.run.oilCode
      ∧ (setSpeed rpm s).run.leakTold = s.run.leakTold ∧ (setSpeed rpm s).run.endReason = s.run.endReason := by
  refine ⟨rfl, rfl, rfl, rfl, rfl, rfl, rfl, rfl, rfl, rfl, rfl, rfl, rfl, rfl, rfl, rfl, rfl, rfl, rfl, rfl, rfl, rfl, rfl, rfl, rfl, rfl, rfl, rfl, rfl, rfl, rfl, rfl, rfl, rfl, rfl, rfl, rfl, rfl, rfl, rfl, rfl, rfl, rfl, rfl, rfl, rfl, rfl⟩

@[simp] theorem cutQuiet_frame (s : State) :
    (cutQuiet s).cyc = s.cyc ∧ (cutQuiet s).lsn = s.lsn ∧ (cutQuiet s).vib = s.vib ∧ (cutQuiet s).sca = s.sca
      ∧ (cutQuiet s).leak = s.leak ∧ (cutQuiet s).dev = s.dev ∧ (cutQuiet s).store = s.store
      ∧ (cutQuiet s).lif = s.lif ∧ (cutQuiet s).cfg = s.cfg ∧ (cutQuiet s).boot = s.boot
      ∧ (cutQuiet s).supplyWarning = s.supplyWarning ∧ (cutQuiet s).pins = s.pins ∧ (cutQuiet s).clock = s.clock
      ∧ (cutQuiet s).draws = s.draws ∧ (cutQuiet s).pending = s.pending ∧ (cutQuiet s).peer.table = s.peer.table
      ∧ (cutQuiet s).peer.lastFull = s.peer.lastFull ∧ (cutQuiet s).peer.due = s.peer.due
      ∧ (cutQuiet s).peer.repeats = s.peer.repeats ∧ (cutQuiet s).peer.dupCount = s.peer.dupCount
      ∧ (cutQuiet s).peer.period = s.peer.period ∧ (cutQuiet s).peer.periodLeft = s.peer.periodLeft
      ∧ (cutQuiet s).peer.posting.cycleState = s.peer.posting.cycleState
      ∧ (cutQuiet s).peer.posting.programme = s.peer.posting.programme
      ∧ (cutQuiet s).peer.posting.openSeq = s.peer.posting.openSeq
      ∧ (cutQuiet s).peer.posting.lastVerdict = s.peer.posting.lastVerdict
      ∧ (cutQuiet s).peer.posting.listen = s.peer.posting.listen
      ∧ (cutQuiet s).peer.posting.listenAge = s.peer.posting.listenAge
      ∧ (cutQuiet s).peer.posting.air1 = s.peer.posting.air1 ∧ (cutQuiet s).peer.posting.air2 = s.peer.posting.air2
      ∧ (cutQuiet s).peer.posting.airAge = s.peer.posting.airAge
      ∧ (cutQuiet s).peer.posting.yielding = s.peer.posting.yielding
      ∧ (cutQuiet s).peer.posting.unconfigured = s.peer.posting.unconfigured
      ∧ (cutQuiet s).peer.posting.dupStation = s.peer.posting.dupStation
      ∧ (cutQuiet s).peer.posting.storeFault = s.peer.posting.storeFault
      ∧ (cutQuiet s).peer.posting.supplyWarning = s.peer.posting.supplyWarning
      ∧ (cutQuiet s).peer.posting.resetCause = s.peer.posting.resetCause ∧ (cutQuiet s).run.state = s.run.state
      ∧ (cutQuiet s).run.seg = s.run.seg ∧ (cutQuiet s).run.stage = s.run.stage ∧ (cutQuiet s).run.dir = s.run.dir
      ∧ (cutQuiet s).run.measured = s.run.measured ∧ (cutQuiet s).run.holds = s.run.holds
      ∧ (cutQuiet s).run.torque = s.run.torque ∧ (cutQuiet s).run.oilCode = s.run.oilCode
      ∧ (cutQuiet s).run.leakTold = s.run.leakTold ∧ (cutQuiet s).run.endReason = s.run.endReason := by
  unfold cutQuiet
  (repeat' split) <;> simp

@[simp] theorem postYielding_frame (b : Bool) (s : State) :
    (postYielding b s).cyc = s.cyc ∧ (postYielding b s).run = s.run ∧ (postYielding b s).lsn = s.lsn
      ∧ (postYielding b s).vib = s.vib ∧ (postYielding b s).sca = s.sca ∧ (postYielding b s).leak = s.leak
      ∧ (postYielding b s).dev = s.dev ∧ (postYielding b s).store = s.store ∧ (postYielding b s).lif = s.lif
      ∧ (postYielding b s).cfg = s.cfg ∧ (postYielding b s).boot = s.boot
      ∧ (postYielding b s).supplyWarning = s.supplyWarning ∧ (postYielding b s).pins = s.pins
      ∧ (postYielding b s).clock = s.clock ∧ (postYielding b s).draws = s.draws
      ∧ (postYielding b s).pending = s.pending ∧ (postYielding b s).peer.table = s.peer.table
      ∧ (postYielding b s).peer.lastFull = s.peer.lastFull ∧ (postYielding b s).peer.due = s.peer.due
      ∧ (postYielding b s).peer.repeats = s.peer.repeats ∧ (postYielding b s).peer.dupCount = s.peer.dupCount
      ∧ (postYielding b s).peer.period = s.peer.period ∧ (postYielding b s).peer.periodLeft = s.peer.periodLeft
      ∧ (postYielding b s).peer.posting.cycleState = s.peer.posting.cycleState
      ∧ (postYielding b s).peer.posting.programme = s.peer.posting.programme
      ∧ (postYielding b s).peer.posting.openSeq = s.peer.posting.openSeq
      ∧ (postYielding b s).peer.posting.lastVerdict = s.peer.posting.lastVerdict
      ∧ (postYielding b s).peer.posting.acoustic = s.peer.posting.acoustic
      ∧ (postYielding b s).peer.posting.listen = s.peer.posting.listen
      ∧ (postYielding b s).peer.posting.listenAge = s.peer.posting.listenAge
      ∧ (postYielding b s).peer.posting.air1 = s.peer.posting.air1
      ∧ (postYielding b s).peer.posting.air2 = s.peer.posting.air2
      ∧ (postYielding b s).peer.posting.airAge = s.peer.posting.airAge
      ∧ (postYielding b s).peer.posting.demand = s.peer.posting.demand
      ∧ (postYielding b s).peer.posting.unconfigured = s.peer.posting.unconfigured
      ∧ (postYielding b s).peer.posting.dupStation = s.peer.posting.dupStation
      ∧ (postYielding b s).peer.posting.storeFault = s.peer.posting.storeFault
      ∧ (postYielding b s).peer.posting.supplyWarning = s.peer.posting.supplyWarning
      ∧ (postYielding b s).peer.posting.resetCause = s.peer.posting.resetCause := by
  refine ⟨rfl, rfl, rfl, rfl, rfl, rfl, rfl, rfl, rfl, rfl, rfl, rfl, rfl, rfl, rfl, rfl, rfl, rfl, rfl, rfl, rfl, rfl, rfl, rfl, rfl, rfl, rfl, rfl, rfl, rfl, rfl, rfl, rfl, rfl, rfl, rfl, rfl, rfl, rfl⟩

@[simp] theorem faceDirection_frame (s : State) :
    (faceDirection s).cyc = s.cyc ∧ (faceDirection s).lsn = s.lsn ∧ (faceDirection s).vib = s.vib
      ∧ (faceDirection s).sca = s.sca ∧ (faceDirection s).leak = s.leak ∧ (faceDirection s).dev = s.dev
      ∧ (faceDirection s).store = s.store ∧ (faceDirection s).lif = s.lif ∧ (faceDirection s).cfg = s.cfg
      ∧ (faceDirection s).boot = s.boot ∧ (faceDirection s).supplyWarning = s.supplyWarning
      ∧ (faceDirection s).pins = s.pins ∧ (faceDirection s).clock = s.clock ∧ (faceDirection s).draws = s.draws
      ∧ (faceDirection s).pending = s.pending ∧ (faceDirection s).peer.table = s.peer.table
      ∧ (faceDirection s).peer.lastFull = s.peer.lastFull ∧ (faceDirection s).peer.due = s.peer.due
      ∧ (faceDirection s).peer.repeats = s.peer.repeats ∧ (faceDirection s).peer.dupCount = s.peer.dupCount
      ∧ (faceDirection s).peer.period = s.peer.period ∧ (faceDirection s).peer.periodLeft = s.peer.periodLeft
      ∧ (faceDirection s).peer.posting.cycleState = s.peer.posting.cycleState
      ∧ (faceDirection s).peer.posting.programme = s.peer.posting.programme
      ∧ (faceDirection s).peer.posting.openSeq = s.peer.posting.openSeq
      ∧ (faceDirection s).peer.posting.lastVerdict = s.peer.posting.lastVerdict
      ∧ (faceDirection s).peer.posting.listen = s.peer.posting.listen
      ∧ (faceDirection s).peer.posting.listenAge = s.peer.posting.listenAge
      ∧ (faceDirection s).peer.posting.air1 = s.peer.posting.air1
      ∧ (faceDirection s).peer.posting.air2 = s.peer.posting.air2
      ∧ (faceDirection s).peer.posting.airAge = s.peer.posting.airAge
      ∧ (faceDirection s).peer.posting.yielding = s.peer.posting.yielding
      ∧ (faceDirection s).peer.posting.unconfigured = s.peer.posting.unconfigured
      ∧ (faceDirection s).peer.posting.dupStation = s.peer.posting.dupStation
      ∧ (faceDirection s).peer.posting.storeFault = s.peer.posting.storeFault
      ∧ (faceDirection s).peer.posting.supplyWarning = s.peer.posting.supplyWarning
      ∧ (faceDirection s).peer.posting.resetCause = s.peer.posting.resetCause
      ∧ (faceDirection s).run.state = s.run.state ∧ (faceDirection s).run.seg = s.run.seg
      ∧ (faceDirection s).run.stage = s.run.stage ∧ (faceDirection s).run.measured = s.run.measured
      ∧ (faceDirection s).run.torque = s.run.torque ∧ (faceDirection s).run.oilCode = s.run.oilCode
      ∧ (faceDirection s).run.leakTold = s.run.leakTold ∧ (faceDirection s).run.endReason = s.run.endReason := by
  refine ⟨?_, ?_, ?_, ?_, ?_, ?_, ?_, ?_, ?_, ?_, ?_, ?_, ?_, ?_, ?_, ?_, ?_, ?_, ?_, ?_, ?_, ?_, ?_, ?_, ?_, ?_, ?_, ?_, ?_, ?_, ?_, ?_, ?_, ?_, ?_, ?_, ?_, ?_, ?_, ?_, ?_, ?_, ?_, ?_, ?_⟩ <;>
  first
  | rfl
  | (unfold faceDirection; dsimp only; (repeat' split) <;> rfl)

@[simp] theorem tellLeak_frame (s : State) :
    (tellLeak s).cyc = s.cyc ∧ (tellLeak s).lsn = s.lsn ∧ (tellLeak s).vib = s.vib ∧ (tellLeak s).sca = s.sca
      ∧ (tellLeak s).dev = s.dev ∧ (tellLeak s).store = s.store ∧ (tellLeak s).lif = s.lif
      ∧ (tellLeak s).cfg = s.cfg ∧ (tellLeak s).boot = s.boot ∧ (tellLeak s).supplyWarning = s.supplyWarning
      ∧ (tellLeak s).pins = s.pins ∧ (tellLeak s).clock = s.clock ∧ (tellLeak s).draws = s.draws
      ∧ (tellLeak s).pending = s.pending ∧ (tellLeak s).peer.table = s.peer.table
      ∧ (tellLeak s).peer.lastFull = s.peer.lastFull ∧ (tellLeak s).peer.due = s.peer.due
      ∧ (tellLeak s).peer.repeats = s.peer.repeats ∧ (tellLeak s).peer.dupCount = s.peer.dupCount
      ∧ (tellLeak s).peer.period = s.peer.period ∧ (tellLeak s).peer.periodLeft = s.peer.periodLeft
      ∧ (tellLeak s).peer.posting.cycleState = s.peer.posting.cycleState
      ∧ (tellLeak s).peer.posting.programme = s.peer.posting.programme
      ∧ (tellLeak s).peer.posting.openSeq = s.peer.posting.openSeq
      ∧ (tellLeak s).peer.posting.lastVerdict = s.peer.posting.lastVerdict
      ∧ (tellLeak s).peer.posting.acoustic = s.peer.posting.acoustic
      ∧ (tellLeak s).peer.posting.listen = s.peer.posting.listen
      ∧ (tellLeak s).peer.posting.listenAge = s.peer.posting.listenAge
      ∧ (tellLeak s).peer.posting.demand = s.peer.posting.demand
      ∧ (tellLeak s).peer.posting.yielding = s.peer.posting.yielding
      ∧ (tellLeak s).peer.posting.unconfigured = s.peer.posting.unconfigured
      ∧ (tellLeak s).peer.posting.dupStation = s.peer.posting.dupStation
      ∧ (tellLeak s).peer.posting.storeFault = s.peer.posting.storeFault
      ∧ (tellLeak s).peer.posting.supplyWarning = s.peer.posting.supplyWarning
      ∧ (tellLeak s).peer.posting.resetCause = s.peer.posting.resetCause := by
  unfold tellLeak
  (repeat' split) <;> simp

@[simp] theorem beginSweep_frame (s : State) :
    (beginSweep s).cyc = s.cyc ∧ (beginSweep s).vib = s.vib ∧ (beginSweep s).sca = s.sca
      ∧ (beginSweep s).leak = s.leak ∧ (beginSweep s).dev = s.dev ∧ (beginSweep s).store = s.store
      ∧ (beginSweep s).lif = s.lif ∧ (beginSweep s).cfg = s.cfg ∧ (beginSweep s).boot = s.boot
      ∧ (beginSweep s).supplyWarning = s.supplyWarning ∧ (beginSweep s).pins = s.pins
      ∧ (beginSweep s).clock = s.clock ∧ (beginSweep s).draws = s.draws ∧ (beginSweep s).pending = s.pending
      ∧ (beginSweep s).peer.table = s.peer.table ∧ (beginSweep s).peer.lastFull = s.peer.lastFull
      ∧ (beginSweep s).peer.due = s.peer.due ∧ (beginSweep s).peer.repeats = s.peer.repeats
      ∧ (beginSweep s).peer.dupCount = s.peer.dupCount ∧ (beginSweep s).peer.period = s.peer.period
      ∧ (beginSweep s).peer.periodLeft = s.peer.periodLeft
      ∧ (beginSweep s).peer.posting.cycleState = s.peer.posting.cycleState
      ∧ (beginSweep s).peer.posting.programme = s.peer.posting.programme
      ∧ (beginSweep s).peer.posting.openSeq = s.peer.posting.openSeq
      ∧ (beginSweep s).peer.posting.lastVerdict = s.peer.posting.lastVerdict
      ∧ (beginSweep s).peer.posting.air1 = s.peer.posting.air1
      ∧ (beginSweep s).peer.posting.air2 = s.peer.posting.air2
      ∧ (beginSweep s).peer.posting.airAge = s.peer.posting.airAge
      ∧ (beginSweep s).peer.posting.yielding = s.peer.posting.yielding
      ∧ (beginSweep s).peer.posting.unconfigured = s.peer.posting.unconfigured
      ∧ (beginSweep s).peer.posting.dupStation = s.peer.posting.dupStation
      ∧ (beginSweep s).peer.posting.storeFault = s.peer.posting.storeFault
      ∧ (beginSweep s).peer.posting.supplyWarning = s.peer.posting.supplyWarning
      ∧ (beginSweep s).peer.posting.resetCause = s.peer.posting.resetCause
      ∧ (beginSweep s).lsn.contamination = s.lsn.contamination := by
  unfold beginSweep
  (repeat' split) <;> simp

@[simp] theorem toStopping_frame (why : EndReason) (s : State) :
    (toStopping why s).cyc = s.cyc ∧ (toStopping why s).sca = s.sca ∧ (toStopping why s).leak = s.leak
      ∧ (toStopping why s).dev = s.dev ∧ (toStopping why s).store = s.store ∧ (toStopping why s).lif = s.lif
      ∧ (toStopping why s).cfg = s.cfg ∧ (toStopping why s).boot = s.boot
      ∧ (toStopping why s).supplyWarning = s.supplyWarning ∧ (toStopping why s).pins = s.pins
      ∧ (toStopping why s).clock = s.clock ∧ (toStopping why s).draws = s.draws
      ∧ (toStopping why s).pending = s.pending ∧ (toStopping why s).peer.table = s.peer.table
      ∧ (toStopping why s).peer.lastFull = s.peer.lastFull ∧ (toStopping why s).peer.due = s.peer.due
      ∧ (toStopping why s).peer.repeats = s.peer.repeats ∧ (toStopping why s).peer.dupCount = s.peer.dupCount
      ∧ (toStopping why s).peer.period = s.peer.period ∧ (toStopping why s).peer.periodLeft = s.peer.periodLeft
      ∧ (toStopping why s).peer.posting.cycleState = s.peer.posting.cycleState
      ∧ (toStopping why s).peer.posting.programme = s.peer.posting.programme
      ∧ (toStopping why s).peer.posting.openSeq = s.peer.posting.openSeq
      ∧ (toStopping why s).peer.posting.lastVerdict = s.peer.posting.lastVerdict
      ∧ (toStopping why s).peer.posting.acoustic = s.peer.posting.acoustic
      ∧ (toStopping why s).peer.posting.air1 = s.peer.posting.air1
      ∧ (toStopping why s).peer.posting.air2 = s.peer.posting.air2
      ∧ (toStopping why s).peer.posting.airAge = s.peer.posting.airAge
      ∧ (toStopping why s).peer.posting.demand = s.peer.posting.demand
      ∧ (toStopping why s).peer.posting.unconfigured = s.peer.posting.unconfigured
      ∧ (toStopping why s).peer.posting.dupStation = s.peer.posting.dupStation
      ∧ (toStopping why s).peer.posting.storeFault = s.peer.posting.storeFault
      ∧ (toStopping why s).peer.posting.supplyWarning = s.peer.posting.supplyWarning
      ∧ (toStopping why s).peer.posting.resetCause = s.peer.posting.resetCause
      ∧ (toStopping why s).lsn.contamination = s.lsn.contamination := by
  unfold toStopping
  (repeat' split) <;> simp

@[simp] theorem changeReason_frame (why : EndReason) (s : State) :
    (changeReason why s).cyc = s.cyc ∧ (changeReason why s).peer = s.peer ∧ (changeReason why s).lsn = s.lsn
      ∧ (changeReason why s).vib = s.vib ∧ (changeReason why s).sca = s.sca ∧ (changeReason why s).leak = s.leak
      ∧ (changeReason why s).dev = s.dev ∧ (changeReason why s).store = s.store ∧ (changeReason why s).lif = s.lif
      ∧ (changeReason why s).cfg = s.cfg ∧ (changeReason why s).boot = s.boot
      ∧ (changeReason why s).supplyWarning = s.supplyWarning ∧ (changeReason why s).pins = s.pins
      ∧ (changeReason why s).clock = s.clock ∧ (changeReason why s).draws = s.draws
      ∧ (changeReason why s).pending = s.pending := by
  unfold changeReason
  (repeat' split) <;> simp

@[simp] theorem stopForAbort_frame (s : State) :
    (stopForAbort s).cyc = s.cyc ∧ (stopForAbort s).sca = s.sca ∧ (stopForAbort s).leak = s.leak
      ∧ (stopForAbort s).dev = s.dev ∧ (stopForAbort s).store = s.store ∧ (stopForAbort s).lif = s.lif
      ∧ (stopForAbort s).cfg = s.cfg ∧ (stopForAbort s).boot = s.boot
      ∧ (stopForAbort s).supplyWarning = s.supplyWarning ∧ (stopForAbort s).pins = s.pins
      ∧ (stopForAbort s).clock = s.clock ∧ (stopForAbort s).draws = s.draws ∧ (stopForAbort s).pending = s.pending
      ∧ (stopForAbort s).peer.table = s.peer.table ∧ (stopForAbort s).peer.lastFull = s.peer.lastFull
      ∧ (stopForAbort s).peer.due = s.peer.due ∧ (stopForAbort s).peer.repeats = s.peer.repeats
      ∧ (stopForAbort s).peer.dupCount = s.peer.dupCount ∧ (stopForAbort s).peer.period = s.peer.period
      ∧ (stopForAbort s).peer.periodLeft = s.peer.periodLeft
      ∧ (stopForAbort s).peer.posting.cycleState = s.peer.posting.cycleState
      ∧ (stopForAbort s).peer.posting.programme = s.peer.posting.programme
      ∧ (stopForAbort s).peer.posting.openSeq = s.peer.posting.openSeq
      ∧ (stopForAbort s).peer.posting.lastVerdict = s.peer.posting.lastVerdict
      ∧ (stopForAbort s).peer.posting.acoustic = s.peer.posting.acoustic
      ∧ (stopForAbort s).peer.posting.air1 = s.peer.posting.air1
      ∧ (stopForAbort s).peer.posting.air2 = s.peer.posting.air2
      ∧ (stopForAbort s).peer.posting.airAge = s.peer.posting.airAge
      ∧ (stopForAbort s).peer.posting.demand = s.peer.posting.demand
      ∧ (stopForAbort s).peer.posting.unconfigured = s.peer.posting.unconfigured
      ∧ (stopForAbort s).peer.posting.dupStation = s.peer.posting.dupStation
      ∧ (stopForAbort s).peer.posting.storeFault = s.peer.posting.storeFault
      ∧ (stopForAbort s).peer.posting.supplyWarning = s.peer.posting.supplyWarning
      ∧ (stopForAbort s).peer.posting.resetCause = s.peer.posting.resetCause
      ∧ (stopForAbort s).lsn.contamination = s.lsn.contamination := by
  simp [stopForAbort]

@[simp] theorem stopAtOnce_frame (s : State) :
    (stopAtOnce s).cyc = s.cyc ∧ (stopAtOnce s).sca = s.sca ∧ (stopAtOnce s).leak = s.leak
      ∧ (stopAtOnce s).dev = s.dev ∧ (stopAtOnce s).store = s.store ∧ (stopAtOnce s).lif = s.lif
      ∧ (stopAtOnce s).cfg = s.cfg ∧ (stopAtOnce s).boot = s.boot ∧ (stopAtOnce s).supplyWarning = s.supplyWarning
      ∧ (stopAtOnce s).pins = s.pins ∧ (stopAtOnce s).clock = s.clock ∧ (stopAtOnce s).draws = s.draws
      ∧ (stopAtOnce s).pending = s.pending ∧ (stopAtOnce s).peer.table = s.peer.table
      ∧ (stopAtOnce s).peer.lastFull = s.peer.lastFull ∧ (stopAtOnce s).peer.due = s.peer.due
      ∧ (stopAtOnce s).peer.repeats = s.peer.repeats ∧ (stopAtOnce s).peer.dupCount = s.peer.dupCount
      ∧ (stopAtOnce s).peer.period = s.peer.period ∧ (stopAtOnce s).peer.periodLeft = s.peer.periodLeft
      ∧ (stopAtOnce s).peer.posting.cycleState = s.peer.posting.cycleState
      ∧ (stopAtOnce s).peer.posting.programme = s.peer.posting.programme
      ∧ (stopAtOnce s).peer.posting.openSeq = s.peer.posting.openSeq
      ∧ (stopAtOnce s).peer.posting.lastVerdict = s.peer.posting.lastVerdict
      ∧ (stopAtOnce s).peer.posting.air1 = s.peer.posting.air1
      ∧ (stopAtOnce s).peer.posting.air2 = s.peer.posting.air2
      ∧ (stopAtOnce s).peer.posting.airAge = s.peer.posting.airAge
      ∧ (stopAtOnce s).peer.posting.unconfigured = s.peer.posting.unconfigured
      ∧ (stopAtOnce s).peer.posting.dupStation = s.peer.posting.dupStation
      ∧ (stopAtOnce s).peer.posting.storeFault = s.peer.posting.storeFault
      ∧ (stopAtOnce s).peer.posting.supplyWarning = s.peer.posting.supplyWarning
      ∧ (stopAtOnce s).peer.posting.resetCause = s.peer.posting.resetCause
      ∧ (stopAtOnce s).lsn.contamination = s.lsn.contamination := by
  unfold stopAtOnce
  (repeat' split) <;> simp

@[simp] theorem runDeviation_frame (c : DevClass) (measured limit : Nat) (s : State) :
    (runDeviation c measured limit s).cyc = s.cyc ∧ (runDeviation c measured limit s).sca = s.sca
      ∧ (runDeviation c measured limit s).leak = s.leak ∧ (runDeviation c measured limit s).store = s.store
      ∧ (runDeviation c measured limit s).lif = s.lif ∧ (runDeviation c measured limit s).cfg = s.cfg
      ∧ (runDeviation c measured limit s).boot = s.boot
      ∧ (runDeviation c measured limit s).supplyWarning = s.supplyWarning
      ∧ (runDeviation c measured limit s).pins = s.pins ∧ (runDeviation c measured limit s).clock = s.clock
      ∧ (runDeviation c measured limit s).draws = s.draws ∧ (runDeviation c measured limit s).pending = s.pending
      ∧ (runDeviation c measured limit s).peer.table = s.peer.table
      ∧ (runDeviation c measured limit s).peer.lastFull = s.peer.lastFull
      ∧ (runDeviation c measured limit s).peer.due = s.peer.due
      ∧ (runDeviation c measured limit s).peer.repeats = s.peer.repeats
      ∧ (runDeviation c measured limit s).peer.dupCount = s.peer.dupCount
      ∧ (runDeviation c measured limit s).peer.period = s.peer.period
      ∧ (runDeviation c measured limit s).peer.periodLeft = s.peer.periodLeft
      ∧ (runDeviation c measured limit s).peer.posting.cycleState = s.peer.posting.cycleState
      ∧ (runDeviation c measured limit s).peer.posting.programme = s.peer.posting.programme
      ∧ (runDeviation c measured limit s).peer.posting.openSeq = s.peer.posting.openSeq
      ∧ (runDeviation c measured limit s).peer.posting.lastVerdict = s.peer.posting.lastVerdict
      ∧ (runDeviation c measured limit s).peer.posting.acoustic = s.peer.posting.acoustic
      ∧ (runDeviation c measured limit s).peer.posting.air1 = s.peer.posting.air1
      ∧ (runDeviation c measured limit s).peer.posting.air2 = s.peer.posting.air2
      ∧ (runDeviation c measured limit s).peer.posting.airAge = s.peer.posting.airAge
      ∧ (runDeviation c measured limit s).peer.posting.demand = s.peer.posting.demand
      ∧ (runDeviation c measured limit s).peer.posting.unconfigured = s.peer.posting.unconfigured
      ∧ (runDeviation c measured limit s).peer.posting.dupStation = s.peer.posting.dupStation
      ∧ (runDeviation c measured limit s).peer.posting.storeFault = s.peer.posting.storeFault
      ∧ (runDeviation c measured limit s).peer.posting.supplyWarning = s.peer.posting.supplyWarning
      ∧ (runDeviation c measured limit s).peer.posting.resetCause = s.peer.posting.resetCause
      ∧ (runDeviation c measured limit s).lsn.contamination = s.lsn.contamination := by
  unfold runDeviation
  (repeat' split) <;> simp

@[simp] theorem moveTo_frame (target rate : Nat) (s : State) :
    (moveTo target rate s).cyc = s.cyc ∧ (moveTo target rate s).peer = s.peer ∧ (moveTo target rate s).lsn = s.lsn
      ∧ (moveTo target rate s).vib = s.vib ∧ (moveTo target rate s).sca = s.sca
      ∧ (moveTo target rate s).leak = s.leak ∧ (moveTo target rate s).dev = s.dev
      ∧ (moveTo target rate s).store = s.store ∧ (moveTo target rate s).lif = s.lif
      ∧ (moveTo target rate s).cfg = s.cfg ∧ (moveTo target rate s).boot = s.boot
      ∧ (moveTo target rate s).supplyWarning = s.supplyWarning ∧ (moveTo target rate s).pins = s.pins
      ∧ (moveTo target rate s).clock = s.clock ∧ (moveTo target rate s).draws = s.draws
      ∧ (moveTo target rate s).pending = s.pending ∧ (moveTo target rate s).run.state = s.run.state
      ∧ (moveTo target rate s).run.seg = s.run.seg ∧ (moveTo target rate s).run.stage = s.run.stage
      ∧ (moveTo target rate s).run.dir = s.run.dir ∧ (moveTo target rate s).run.measured = s.run.measured
      ∧ (moveTo target rate s).run.torque = s.run.torque ∧ (moveTo target rate s).run.oilCode = s.run.oilCode
      ∧ (moveTo target rate s).run.leakTold = s.run.leakTold
      ∧ (moveTo target rate s).run.endReason = s.run.endReason := by
  refine ⟨?_, ?_, ?_, ?_, ?_, ?_, ?_, ?_, ?_, ?_, ?_, ?_, ?_, ?_, ?_, ?_, ?_, ?_, ?_, ?_, ?_, ?_, ?_, ?_, ?_⟩ <;>
  first
  | rfl
  | (unfold moveTo; dsimp only; (repeat' split) <;> rfl)

@[simp] theorem trackDwell_frame (s : State) :
    (trackDwell s).cyc = s.cyc ∧ (trackDwell s).sca = s.sca ∧ (trackDwell s).leak = s.leak
      ∧ (trackDwell s).store = s.store ∧ (trackDwell s).lif = s.lif ∧ (trackDwell s).cfg = s.cfg
      ∧ (trackDwell s).boot = s.boot ∧ (trackDwell s).supplyWarning = s.supplyWarning ∧ (trackDwell s).pins = s.pins
      ∧ (trackDwell s).clock = s.clock ∧ (trackDwell s).draws = s.draws ∧ (trackDwell s).pending = s.pending
      ∧ (trackDwell s).peer.table = s.peer.table ∧ (trackDwell s).peer.lastFull = s.peer.lastFull
      ∧ (trackDwell s).peer.due = s.peer.due ∧ (trackDwell s).peer.repeats = s.peer.repeats
      ∧ (trackDwell s).peer.dupCount = s.peer.dupCount ∧ (trackDwell s).peer.period = s.peer.period
      ∧ (trackDwell s).peer.periodLeft = s.peer.periodLeft
      ∧ (trackDwell s).peer.posting.cycleState = s.peer.posting.cycleState
      ∧ (trackDwell s).peer.posting.programme = s.peer.posting.programme
      ∧ (trackDwell s).peer.posting.openSeq = s.peer.posting.openSeq
      ∧ (trackDwell s).peer.posting.lastVerdict = s.peer.posting.lastVerdict
      ∧ (trackDwell s).peer.posting.acoustic = s.peer.posting.acoustic
      ∧ (trackDwell s).peer.posting.air1 = s.peer.posting.air1
      ∧ (trackDwell s).peer.posting.air2 = s.peer.posting.air2
      ∧ (trackDwell s).peer.posting.airAge = s.peer.posting.airAge
      ∧ (trackDwell s).peer.posting.demand = s.peer.posting.demand
      ∧ (trackDwell s).peer.posting.unconfigured = s.peer.posting.unconfigured
      ∧ (trackDwell s).peer.posting.dupStation = s.peer.posting.dupStation
      ∧ (trackDwell s).peer.posting.storeFault = s.peer.posting.storeFault
      ∧ (trackDwell s).peer.posting.supplyWarning = s.peer.posting.supplyWarning
      ∧ (trackDwell s).peer.posting.resetCause = s.peer.posting.resetCause
      ∧ (trackDwell s).lsn.contamination = s.lsn.contamination := by
  unfold trackDwell
  dsimp only
  (repeat' split) <;> simp

@[simp] theorem clearTrack_frame (s : State) :
    (clearTrack s).cyc = s.cyc ∧ (clearTrack s).peer = s.peer ∧ (clearTrack s).lsn = s.lsn
      ∧ (clearTrack s).vib = s.vib ∧ (clearTrack s).sca = s.sca ∧ (clearTrack s).leak = s.leak
      ∧ (clearTrack s).dev = s.dev ∧ (clearTrack s).store = s.store ∧ (clearTrack s).lif = s.lif
      ∧ (clearTrack s).cfg = s.cfg ∧ (clearTrack s).boot = s.boot ∧ (clearTrack s).supplyWarning = s.supplyWarning
      ∧ (clearTrack s).pins = s.pins ∧ (clearTrack s).clock = s.clock ∧ (clearTrack s).draws = s.draws
      ∧ (clearTrack s).pending = s.pending ∧ (clearTrack s).run.state = s.run.state
      ∧ (clearTrack s).run.seg = s.run.seg ∧ (clearTrack s).run.stage = s.run.stage
      ∧ (clearTrack s).run.cmd = s.run.cmd ∧ (clearTrack s).run.dir = s.run.dir
      ∧ (clearTrack s).run.measured = s.run.measured ∧ (clearTrack s).run.holds = s.run.holds
      ∧ (clearTrack s).run.torque = s.run.torque ∧ (clearTrack s).run.oilCode = s.run.oilCode
      ∧ (clearTrack s).run.leakTold = s.run.leakTold ∧ (clearTrack s).run.endReason = s.run.endReason := by
  refine ⟨rfl, rfl, rfl, rfl, rfl, rfl, rfl, rfl, rfl, rfl, rfl, rfl, rfl, rfl, rfl, rfl, rfl, rfl, rfl, rfl, rfl, rfl, rfl, rfl, rfl, rfl, rfl⟩

@[simp] theorem setStage_frame (g : SweepStage) (s : State) :
    (setStage g s).cyc = s.cyc ∧ (setStage g s).peer = s.peer ∧ (setStage g s).lsn = s.lsn
      ∧ (setStage g s).vib = s.vib ∧ (setStage g s).sca = s.sca ∧ (setStage g s).leak = s.leak
      ∧ (setStage g s).dev = s.dev ∧ (setStage g s).store = s.store ∧ (setStage g s).lif = s.lif
      ∧ (setStage g s).cfg = s.cfg ∧ (setStage g s).boot = s.boot ∧ (setStage g s).supplyWarning = s.supplyWarning
      ∧ (setStage g s).pins = s.pins ∧ (setStage g s).clock = s.clock ∧ (setStage g s).draws = s.draws
      ∧ (setStage g s).pending = s.pending ∧ (setStage g s).run.state = s.run.state
      ∧ (setStage g s).run.seg = s.run.seg ∧ (setStage g s).run.cmd = s.run.cmd ∧ (setStage g s).run.dir = s.run.dir
      ∧ (setStage g s).run.measured = s.run.measured ∧ (setStage g s).run.holds = s.run.holds
      ∧ (setStage g s).run.torque = s.run.torque ∧ (setStage g s).run.oilCode = s.run.oilCode
      ∧ (setStage g s).run.leakTold = s.run.leakTold ∧ (setStage g s).run.endReason = s.run.endReason := by
  refine ⟨rfl, rfl, rfl, rfl, rfl, rfl, rfl, rfl, rfl, rfl, rfl, rfl, rfl, rfl, rfl, rfl, rfl, rfl, rfl, rfl, rfl, rfl, rfl, rfl, rfl, rfl⟩

@[simp] theorem clearPower_frame (s : State) :
    (clearPower s).cyc = s.cyc ∧ (clearPower s).peer = s.peer ∧ (clearPower s).lsn = s.lsn
      ∧ (clearPower s).vib = s.vib ∧ (clearPower s).sca = s.sca ∧ (clearPower s).leak = s.leak
      ∧ (clearPower s).dev = s.dev ∧ (clearPower s).store = s.store ∧ (clearPower s).lif = s.lif
      ∧ (clearPower s).cfg = s.cfg ∧ (clearPower s).boot = s.boot ∧ (clearPower s).supplyWarning = s.supplyWarning
      ∧ (clearPower s).pins = s.pins ∧ (clearPower s).clock = s.clock ∧ (clearPower s).draws = s.draws
      ∧ (clearPower s).pending = s.pending ∧ (clearPower s).run.state = s.run.state
      ∧ (clearPower s).run.seg = s.run.seg ∧ (clearPower s).run.stage = s.run.stage
      ∧ (clearPower s).run.cmd = s.run.cmd ∧ (clearPower s).run.dir = s.run.dir
      ∧ (clearPower s).run.measured = s.run.measured ∧ (clearPower s).run.torque = s.run.torque
      ∧ (clearPower s).run.oilCode = s.run.oilCode ∧ (clearPower s).run.leakTold = s.run.leakTold
      ∧ (clearPower s).run.endReason = s.run.endReason := by
  refine ⟨rfl, rfl, rfl, rfl, rfl, rfl, rfl, rfl, rfl, rfl, rfl, rfl, rfl, rfl, rfl, rfl, rfl, rfl, rfl, rfl, rfl, rfl, rfl, rfl, rfl, rfl⟩

@[simp] theorem updateReversal_frame (s : State) :
    (updateReversal s).cyc = s.cyc ∧ (updateReversal s).peer = s.peer ∧ (updateReversal s).lsn = s.lsn
      ∧ (updateReversal s).vib = s.vib ∧ (updateReversal s).sca = s.sca ∧ (updateReversal s).leak = s.leak
      ∧ (updateReversal s).dev = s.dev ∧ (updateReversal s).store = s.store ∧ (updateReversal s).lif = s.lif
      ∧ (updateReversal s).cfg = s.cfg ∧ (updateReversal s).boot = s.boot
      ∧ (updateReversal s).supplyWarning = s.supplyWarning ∧ (updateReversal s).pins = s.pins
      ∧ (updateReversal s).clock = s.clock ∧ (updateReversal s).draws = s.draws
      ∧ (updateReversal s).pending = s.pending ∧ (updateReversal s).run.state = s.run.state
      ∧ (updateReversal s).run.seg = s.run.seg ∧ (updateReversal s).run.stage = s.run.stage
      ∧ (updateReversal s).run.cmd = s.run.cmd ∧ (updateReversal s).run.measured = s.run.measured
      ∧ (updateReversal s).run.torque = s.run.torque ∧ (updateReversal s).run.oilCode = s.run.oilCode
      ∧ (updateReversal s).run.leakTold = s.run.leakTold ∧ (updateReversal s).run.endReason = s.run.endReason := by
  refine ⟨?_, ?_, ?_, ?_, ?_, ?_, ?_, ?_, ?_, ?_, ?_, ?_, ?_, ?_, ?_, ?_, ?_, ?_, ?_, ?_, ?_, ?_, ?_, ?_, ?_⟩ <;>
  first
  | rfl
  | (unfold updateReversal; dsimp only; (repeat' split) <;> rfl)

@[simp] theorem holdYield_frame (b : Bool) (s : State) :
    (holdYield b s).cyc = s.cyc ∧ (holdYield b s).lsn = s.lsn ∧ (holdYield b s).vib = s.vib
      ∧ (holdYield b s).sca = s.sca ∧ (holdYield b s).leak = s.leak ∧ (holdYield b s).dev = s.dev
      ∧ (holdYield b s).store = s.store ∧ (holdYield b s).lif = s.lif ∧ (holdYield b s).cfg = s.cfg
      ∧ (holdYield b s).boot = s.boot ∧ (holdYield b s).supplyWarning = s.supplyWarning
      ∧ (holdYield b s).pins = s.pins ∧ (holdYield b s).clock = s.clock ∧ (holdYield b s).draws = s.draws
      ∧ (holdYield b s).pending = s.pending ∧ (holdYield b s).peer.table = s.peer.table
      ∧ (holdYield b s).peer.lastFull = s.peer.lastFull ∧ (holdYield b s).peer.due = s.peer.due
      ∧ (holdYield b s).peer.repeats = s.peer.repeats ∧ (holdYield b s).peer.dupCount = s.peer.dupCount
      ∧ (holdYield b s).peer.period = s.peer.period ∧ (holdYield b s).peer.periodLeft = s.peer.periodLeft
      ∧ (holdYield b s).peer.posting.cycleState = s.peer.posting.cycleState
      ∧ (holdYield b s).peer.posting.programme = s.peer.posting.programme
      ∧ (holdYield b s).peer.posting.openSeq = s.peer.posting.openSeq
      ∧ (holdYield b s).peer.posting.lastVerdict = s.peer.posting.lastVerdict
      ∧ (holdYield b s).peer.posting.acoustic = s.peer.posting.acoustic
      ∧ (holdYield b s).peer.posting.listen = s.peer.posting.listen
      ∧ (holdYield b s).peer.posting.listenAge = s.peer.posting.listenAge
      ∧ (holdYield b s).peer.posting.air1 = s.peer.posting.air1
      ∧ (holdYield b s).peer.posting.air2 = s.peer.posting.air2
      ∧ (holdYield b s).peer.posting.airAge = s.peer.posting.airAge
      ∧ (holdYield b s).peer.posting.demand = s.peer.posting.demand
      ∧ (holdYield b s).peer.posting.unconfigured = s.peer.posting.unconfigured
      ∧ (holdYield b s).peer.posting.dupStation = s.peer.posting.dupStation
      ∧ (holdYield b s).peer.posting.storeFault = s.peer.posting.storeFault
      ∧ (holdYield b s).peer.posting.supplyWarning = s.peer.posting.supplyWarning
      ∧ (holdYield b s).peer.posting.resetCause = s.peer.posting.resetCause
      ∧ (holdYield b s).run.state = s.run.state ∧ (holdYield b s).run.seg = s.run.seg
      ∧ (holdYield b s).run.stage = s.run.stage ∧ (holdYield b s).run.cmd = s.run.cmd
      ∧ (holdYield b s).run.dir = s.run.dir ∧ (holdYield b s).run.measured = s.run.measured
      ∧ (holdYield b s).run.torque = s.run.torque ∧ (holdYield b s).run.oilCode = s.run.oilCode
      ∧ (holdYield b s).run.leakTold = s.run.leakTold ∧ (holdYield b s).run.endReason = s.run.endReason := by
  refine ⟨rfl, rfl, rfl, rfl, rfl, rfl, rfl, rfl, rfl, rfl, rfl, rfl, rfl, rfl, rfl, rfl, rfl, rfl, rfl, rfl, rfl, rfl, rfl, rfl, rfl, rfl, rfl, rfl, rfl, rfl, rfl, rfl, rfl, rfl, rfl, rfl, rfl, rfl, rfl, rfl, rfl, rfl, rfl, rfl, rfl, rfl, rfl, rfl⟩

@[simp] theorem updateYield_frame (s : State) :
    (updateYield s).cyc = s.cyc ∧ (updateYield s).lsn = s.lsn ∧ (updateYield s).vib = s.vib
      ∧ (updateYield s).sca = s.sca ∧ (updateYield s).leak = s.leak ∧ (updateYield s).dev = s.dev
      ∧ (updateYield s).store = s.store ∧ (updateYield s).lif = s.lif ∧ (updateYield s).cfg = s.cfg
      ∧ (updateYield s).boot = s.boot ∧ (updateYield s).supplyWarning = s.supplyWarning
      ∧ (updateYield s).pins = s.pins ∧ (updateYield s).clock = s.clock ∧ (updateYield s).draws = s.draws
      ∧ (updateYield s).pending = s.pending ∧ (updateYield s).peer.table = s.peer.table
      ∧ (updateYield s).peer.lastFull = s.peer.lastFull ∧ (updateYield s).peer.due = s.peer.due
      ∧ (updateYield s).peer.repeats = s.peer.repeats ∧ (updateYield s).peer.dupCount = s.peer.dupCount
      ∧ (updateYield s).peer.period = s.peer.period ∧ (updateYield s).peer.periodLeft = s.peer.periodLeft
      ∧ (updateYield s).peer.posting.cycleState = s.peer.posting.cycleState
      ∧ (updateYield s).peer.posting.programme = s.peer.posting.programme
      ∧ (updateYield s).peer.posting.openSeq = s.peer.posting.openSeq
      ∧ (updateYield s).peer.posting.lastVerdict = s.peer.posting.lastVerdict
      ∧ (updateYield s).peer.posting.listen = s.peer.posting.listen
      ∧ (updateYield s).peer.posting.listenAge = s.peer.posting.listenAge
      ∧ (updateYield s).peer.posting.air1 = s.peer.posting.air1
      ∧ (updateYield s).peer.posting.air2 = s.peer.posting.air2
      ∧ (updateYield s).peer.posting.airAge = s.peer.posting.airAge
      ∧ (updateYield s).peer.posting.unconfigured = s.peer.posting.unconfigured
      ∧ (updateYield s).peer.posting.dupStation = s.peer.posting.dupStation
      ∧ (updateYield s).peer.posting.storeFault = s.peer.posting.storeFault
      ∧ (updateYield s).peer.posting.supplyWarning = s.peer.posting.supplyWarning
      ∧ (updateYield s).peer.posting.resetCause = s.peer.posting.resetCause
      ∧ (updateYield s).run.state = s.run.state ∧ (updateYield s).run.seg = s.run.seg
      ∧ (updateYield s).run.stage = s.run.stage ∧ (updateYield s).run.dir = s.run.dir
      ∧ (updateYield s).run.measured = s.run.measured ∧ (updateYield s).run.torque = s.run.torque
      ∧ (updateYield s).run.oilCode = s.run.oilCode ∧ (updateYield s).run.leakTold = s.run.leakTold
      ∧ (updateYield s).run.endReason = s.run.endReason := by
  unfold updateYield
  (repeat' split) <;> simp

@[simp] theorem updateHolds_frame (s : State) :
    (updateHolds s).cyc = s.cyc ∧ (updateHolds s).lsn = s.lsn ∧ (updateHolds s).vib = s.vib
      ∧ (updateHolds s).sca = s.sca ∧ (updateHolds s).leak = s.leak ∧ (updateHolds s).dev = s.dev
      ∧ (updateHolds s).store = s.store ∧ (updateHolds s).lif = s.lif ∧ (updateHolds s).cfg = s.cfg
      ∧ (updateHolds s).boot = s.boot ∧ (updateHolds s).supplyWarning = s.supplyWarning
      ∧ (updateHolds s).pins = s.pins ∧ (updateHolds s).clock = s.clock ∧ (updateHolds s).draws = s.draws
      ∧ (updateHolds s).pending = s.pending ∧ (updateHolds s).peer.table = s.peer.table
      ∧ (updateHolds s).peer.lastFull = s.peer.lastFull ∧ (updateHolds s).peer.due = s.peer.due
      ∧ (updateHolds s).peer.repeats = s.peer.repeats ∧ (updateHolds s).peer.dupCount = s.peer.dupCount
      ∧ (updateHolds s).peer.period = s.peer.period ∧ (updateHolds s).peer.periodLeft = s.peer.periodLeft
      ∧ (updateHolds s).peer.posting.cycleState = s.peer.posting.cycleState
      ∧ (updateHolds s).peer.posting.programme = s.peer.posting.programme
      ∧ (updateHolds s).peer.posting.openSeq = s.peer.posting.openSeq
      ∧ (updateHolds s).peer.posting.lastVerdict = s.peer.posting.lastVerdict
      ∧ (updateHolds s).peer.posting.listen = s.peer.posting.listen
      ∧ (updateHolds s).peer.posting.listenAge = s.peer.posting.listenAge
      ∧ (updateHolds s).peer.posting.air1 = s.peer.posting.air1
      ∧ (updateHolds s).peer.posting.air2 = s.peer.posting.air2
      ∧ (updateHolds s).peer.posting.airAge = s.peer.posting.airAge
      ∧ (updateHolds s).peer.posting.unconfigured = s.peer.posting.unconfigured
      ∧ (updateHolds s).peer.posting.dupStation = s.peer.posting.dupStation
      ∧ (updateHolds s).peer.posting.storeFault = s.peer.posting.storeFault
      ∧ (updateHolds s).peer.posting.supplyWarning = s.peer.posting.supplyWarning
      ∧ (updateHolds s).peer.posting.resetCause = s.peer.posting.resetCause
      ∧ (updateHolds s).run.state = s.run.state ∧ (updateHolds s).run.seg = s.run.seg
      ∧ (updateHolds s).run.stage = s.run.stage ∧ (updateHolds s).run.measured = s.run.measured
      ∧ (updateHolds s).run.torque = s.run.torque ∧ (updateHolds s).run.oilCode = s.run.oilCode
      ∧ (updateHolds s).run.leakTold = s.run.leakTold ∧ (updateHolds s).run.endReason = s.run.endReason := by
  simp [updateHolds]

@[simp] theorem countPower_frame (s : State) :
    (countPower s).cyc = s.cyc ∧ (countPower s).sca = s.sca ∧ (countPower s).leak = s.leak
      ∧ (countPower s).store = s.store ∧ (countPower s).lif = s.lif ∧ (countPower s).cfg = s.cfg
      ∧ (countPower s).boot = s.boot ∧ (countPower s).supplyWarning = s.supplyWarning ∧ (countPower s).pins = s.pins
      ∧ (countPower s).clock = s.clock ∧ (countPower s).draws = s.draws ∧ (countPower s).pending = s.pending
      ∧ (countPower s).peer.table = s.peer.table ∧ (countPower s).peer.lastFull = s.peer.lastFull
      ∧ (countPower s).peer.due = s.peer.due ∧ (countPower s).peer.repeats = s.peer.repeats
      ∧ (countPower s).peer.dupCount = s.peer.dupCount ∧ (countPower s).peer.period = s.peer.period
      ∧ (countPower s).peer.periodLeft = s.peer.periodLeft
      ∧ (countPower s).peer.posting.cycleState = s.peer.posting.cycleState
      ∧ (countPower s).peer.posting.programme = s.peer.posting.programme
      ∧ (countPower s).peer.posting.openSeq = s.peer.posting.openSeq
      ∧ (countPower s).peer.posting.lastVerdict = s.peer.posting.lastVerdict
      ∧ (countPower s).peer.posting.acoustic = s.peer.posting.acoustic
      ∧ (countPower s).peer.posting.air1 = s.peer.posting.air1
      ∧ (countPower s).peer.posting.air2 = s.peer.posting.air2
      ∧ (countPower s).peer.posting.airAge = s.peer.posting.airAge
      ∧ (countPower s).peer.posting.demand = s.peer.posting.demand
      ∧ (countPower s).peer.posting.unconfigured = s.peer.posting.unconfigured
      ∧ (countPower s).peer.posting.dupStation = s.peer.posting.dupStation
      ∧ (countPower s).peer.posting.storeFault = s.peer.posting.storeFault
      ∧ (countPower s).peer.posting.supplyWarning = s.peer.posting.supplyWarning
      ∧ (countPower s).peer.posting.resetCause = s.peer.posting.resetCause
      ∧ (countPower s).lsn.contamination = s.lsn.contamination := by
  unfold countPower
  dsimp only
  (repeat' split) <;> simp

@[simp] theorem countYield_frame (s : State) :
    (countYield s).cyc = s.cyc ∧ (countYield s).lsn = s.lsn ∧ (countYield s).vib = s.vib
      ∧ (countYield s).sca = s.sca ∧ (countYield s).leak = s.leak ∧ (countYield s).dev = s.dev
      ∧ (countYield s).store = s.store ∧ (countYield s).lif = s.lif ∧ (countYield s).cfg = s.cfg
      ∧ (countYield s).boot = s.boot ∧ (countYield s).supplyWarning = s.supplyWarning ∧ (countYield s).pins = s.pins
      ∧ (countYield s).clock = s.clock ∧ (countYield s).draws = s.draws ∧ (countYield s).pending = s.pending
      ∧ (countYield s).peer.table = s.peer.table ∧ (countYield s).peer.lastFull = s.peer.lastFull
      ∧ (countYield s).peer.due = s.peer.due ∧ (countYield s).peer.repeats = s.peer.repeats
      ∧ (countYield s).peer.dupCount = s.peer.dupCount ∧ (countYield s).peer.period = s.peer.period
      ∧ (countYield s).peer.periodLeft = s.peer.periodLeft
      ∧ (countYield s).peer.posting.cycleState = s.peer.posting.cycleState
      ∧ (countYield s).peer.posting.programme = s.peer.posting.programme
      ∧ (countYield s).peer.posting.openSeq = s.peer.posting.openSeq
      ∧ (countYield s).peer.posting.lastVerdict = s.peer.posting.lastVerdict
      ∧ (countYield s).peer.posting.acoustic = s.peer.posting.acoustic
      ∧ (countYield s).peer.posting.listen = s.peer.posting.listen
      ∧ (countYield s).peer.posting.listenAge = s.peer.posting.listenAge
      ∧ (countYield s).peer.posting.air1 = s.peer.posting.air1
      ∧ (countYield s).peer.posting.air2 = s.peer.posting.air2
      ∧ (countYield s).peer.posting.airAge = s.peer.posting.airAge
      ∧ (countYield s).peer.posting.demand = s.peer.posting.demand
      ∧ (countYield s).peer.posting.unconfigured = s.peer.posting.unconfigured
      ∧ (countYield s).peer.posting.dupStation = s.peer.posting.dupStation
      ∧ (countYield s).peer.posting.storeFault = s.peer.posting.storeFault
      ∧ (countYield s).peer.posting.supplyWarning = s.peer.posting.supplyWarning
      ∧ (countYield s).peer.posting.resetCause = s.peer.posting.resetCause ∧ (countYield s).run.state = s.run.state
      ∧ (countYield s).run.seg = s.run.seg ∧ (countYield s).run.stage = s.run.stage
      ∧ (countYield s).run.cmd = s.run.cmd ∧ (countYield s).run.dir = s.run.dir
      ∧ (countYield s).run.measured = s.run.measured ∧ (countYield s).run.torque = s.run.torque
      ∧ (countYield s).run.oilCode = s.run.oilCode ∧ (countYield s).run.leakTold = s.run.leakTold
      ∧ (countYield s).run.endReason = s.run.endReason := by
  refine ⟨?_, ?_, ?_, ?_, ?_, ?_, ?_, ?_, ?_, ?_, ?_, ?_, ?_, ?_, ?_, ?_, ?_, ?_, ?_, ?_, ?_, ?_, ?_, ?_, ?_, ?_, ?_, ?_, ?_, ?_, ?_, ?_, ?_, ?_, ?_, ?_, ?_, ?_, ?_, ?_, ?_, ?_, ?_, ?_, ?_, ?_, ?_, ?_⟩ <;>
  first
  | rfl
  | (unfold countYield; dsimp only; (repeat' split) <;> rfl)

@[simp] theorem armAtComplete_frame (s : State) :
    (armAtComplete s).cyc = s.cyc ∧ (armAtComplete s).lsn = s.lsn ∧ (armAtComplete s).vib = s.vib
      ∧ (armAtComplete s).sca = s.sca ∧ (armAtComplete s).dev = s.dev ∧ (armAtComplete s).store = s.store
      ∧ (armAtComplete s).lif = s.lif ∧ (armAtComplete s).cfg = s.cfg ∧ (armAtComplete s).boot = s.boot
      ∧ (armAtComplete s).supplyWarning = s.supplyWarning ∧ (armAtComplete s).pins = s.pins
      ∧ (armAtComplete s).clock = s.clock ∧ (armAtComplete s).draws = s.draws
      ∧ (armAtComplete s).pending = s.pending ∧ (armAtComplete s).peer.table = s.peer.table
      ∧ (armAtComplete s).peer.lastFull = s.peer.lastFull ∧ (armAtComplete s).peer.due = s.peer.due
      ∧ (armAtComplete s).peer.repeats = s.peer.repeats ∧ (armAtComplete s).peer.dupCount = s.peer.dupCount
      ∧ (armAtComplete s).peer.period = s.peer.period ∧ (armAtComplete s).peer.periodLeft = s.peer.periodLeft
      ∧ (armAtComplete s).peer.posting.cycleState = s.peer.posting.cycleState
      ∧ (armAtComplete s).peer.posting.programme = s.peer.posting.programme
      ∧ (armAtComplete s).peer.posting.openSeq = s.peer.posting.openSeq
      ∧ (armAtComplete s).peer.posting.lastVerdict = s.peer.posting.lastVerdict
      ∧ (armAtComplete s).peer.posting.acoustic = s.peer.posting.acoustic
      ∧ (armAtComplete s).peer.posting.listen = s.peer.posting.listen
      ∧ (armAtComplete s).peer.posting.listenAge = s.peer.posting.listenAge
      ∧ (armAtComplete s).peer.posting.demand = s.peer.posting.demand
      ∧ (armAtComplete s).peer.posting.yielding = s.peer.posting.yielding
      ∧ (armAtComplete s).peer.posting.unconfigured = s.peer.posting.unconfigured
      ∧ (armAtComplete s).peer.posting.dupStation = s.peer.posting.dupStation
      ∧ (armAtComplete s).peer.posting.storeFault = s.peer.posting.storeFault
      ∧ (armAtComplete s).peer.posting.supplyWarning = s.peer.posting.supplyWarning
      ∧ (armAtComplete s).peer.posting.resetCause = s.peer.posting.resetCause := by
  unfold armAtComplete
  (repeat' split) <;> simp

@[simp] theorem complete_frame (s : State) :
    (complete s).lsn = s.lsn ∧ (complete s).vib = s.vib ∧ (complete s).sca = s.sca ∧ (complete s).dev = s.dev
      ∧ (complete s).lif = s.lif ∧ (complete s).cfg = s.cfg ∧ (complete s).supplyWarning = s.supplyWarning
      ∧ (complete s).pins = s.pins ∧ (complete s).clock = s.clock ∧ (complete s).draws = s.draws
      ∧ (complete s).pending = s.pending ∧ (complete s).cyc.programme = s.cyc.programme
      ∧ (complete s).cyc.timerMs = s.cyc.timerMs ∧ (complete s).peer.table = s.peer.table
      ∧ (complete s).peer.lastFull = s.peer.lastFull ∧ (complete s).peer.due = s.peer.due
      ∧ (complete s).peer.repeats = s.peer.repeats ∧ (complete s).peer.dupCount = s.peer.dupCount
      ∧ (complete s).peer.period = s.peer.period ∧ (complete s).peer.periodLeft = s.peer.periodLeft
      ∧ (complete s).store.flash = s.store.flash ∧ (complete s).store.pairs = s.store.pairs
      ∧ (complete s).store.nextSeq = s.store.nextSeq ∧ (complete s).store.recovery = s.store.recovery := by
  simp [complete]

@[simp] theorem beginStep_frame (s : State) :
    (beginStep s).cyc = s.cyc ∧ (beginStep s).peer = s.peer ∧ (beginStep s).lsn = s.lsn
      ∧ (beginStep s).vib = s.vib ∧ (beginStep s).sca = s.sca ∧ (beginStep s).leak = s.leak
      ∧ (beginStep s).dev = s.dev ∧ (beginStep s).store = s.store ∧ (beginStep s).lif = s.lif
      ∧ (beginStep s).cfg = s.cfg ∧ (beginStep s).boot = s.boot ∧ (beginStep s).supplyWarning = s.supplyWarning
      ∧ (beginStep s).pins = s.pins ∧ (beginStep s).clock = s.clock ∧ (beginStep s).draws = s.draws
      ∧ (beginStep s).pending = s.pending ∧ (beginStep s).run.state = s.run.state
      ∧ (beginStep s).run.seg = s.run.seg ∧ (beginStep s).run.stage = s.run.stage
      ∧ (beginStep s).run.cmd = s.run.cmd ∧ (beginStep s).run.dir = s.run.dir
      ∧ (beginStep s).run.measured = s.run.measured ∧ (beginStep s).run.torque = s.run.torque
      ∧ (beginStep s).run.oilCode = s.run.oilCode ∧ (beginStep s).run.leakTold = s.run.leakTold
      ∧ (beginStep s).run.endReason = s.run.endReason ∧ (beginStep s).run.holds = s.run.holds
      ∧ (beginStep s).run.lastSum = demandSum s ∧ (beginStep s).run.lastAllowed = allowedPower s
      ∧ (beginStep s).run.rampLeft = 20 := by
  refine ⟨rfl, rfl, rfl, rfl, rfl, rfl, rfl, rfl, rfl, rfl, rfl, rfl, rfl, rfl, rfl, rfl, rfl, rfl, rfl, rfl, rfl, rfl, rfl, rfl, rfl, rfl, rfl, rfl, rfl, rfl⟩

@[simp] theorem stoppingStep_frame (s : State) :
    (stoppingStep s).lsn = s.lsn ∧ (stoppingStep s).vib = s.vib ∧ (stoppingStep s).sca = s.sca
      ∧ (stoppingStep s).dev = s.dev ∧ (stoppingStep s).lif = s.lif ∧ (stoppingStep s).cfg = s.cfg
      ∧ (stoppingStep s).supplyWarning = s.supplyWarning ∧ (stoppingStep s).pins = s.pins
      ∧ (stoppingStep s).clock = s.clock ∧ (stoppingStep s).draws = s.draws ∧ (stoppingStep s).pending = s.pending
      ∧ (stoppingStep s).cyc.programme = s.cyc.programme ∧ (stoppingStep s).cyc.timerMs = s.cyc.timerMs
      ∧ (stoppingStep s).peer.table = s.peer.table ∧ (stoppingStep s).peer.lastFull = s.peer.lastFull
      ∧ (stoppingStep s).peer.due = s.peer.due ∧ (stoppingStep s).peer.repeats = s.peer.repeats
      ∧ (stoppingStep s).peer.dupCount = s.peer.dupCount ∧ (stoppingStep s).peer.period = s.peer.period
      ∧ (stoppingStep s).peer.periodLeft = s.peer.periodLeft ∧ (stoppingStep s).store.flash = s.store.flash
      ∧ (stoppingStep s).store.pairs = s.store.pairs ∧ (stoppingStep s).store.nextSeq = s.store.nextSeq
      ∧ (stoppingStep s).store.recovery = s.store.recovery := by
  unfold stoppingStep
  (repeat' split) <;> simp

@[simp] theorem takeTorq_frame (code : Nat) (s : State) :
    (takeTorq code s).cyc = s.cyc ∧ (takeTorq code s).sca = s.sca ∧ (takeTorq code s).leak = s.leak
      ∧ (takeTorq code s).store = s.store ∧ (takeTorq code s).lif = s.lif ∧ (takeTorq code s).cfg = s.cfg
      ∧ (takeTorq code s).boot = s.boot ∧ (takeTorq code s).supplyWarning = s.supplyWarning
      ∧ (takeTorq code s).pins = s.pins ∧ (takeTorq code s).clock = s.clock ∧ (takeTorq code s).draws = s.draws
      ∧ (takeTorq code s).pending = s.pending ∧ (takeTorq code s).peer.table = s.peer.table
      ∧ (takeTorq code s).peer.lastFull = s.peer.lastFull ∧ (takeTorq code s).peer.due = s.peer.due
      ∧ (takeTorq code s).peer.repeats = s.peer.repeats ∧ (takeTorq code s).peer.dupCount = s.peer.dupCount
      ∧ (takeTorq code s).peer.period = s.peer.period ∧ (takeTorq code s).peer.periodLeft = s.peer.periodLeft
      ∧ (takeTorq code s).peer.posting.cycleState = s.peer.posting.cycleState
      ∧ (takeTorq code s).peer.posting.programme = s.peer.posting.programme
      ∧ (takeTorq code s).peer.posting.openSeq = s.peer.posting.openSeq
      ∧ (takeTorq code s).peer.posting.lastVerdict = s.peer.posting.lastVerdict
      ∧ (takeTorq code s).peer.posting.acoustic = s.peer.posting.acoustic
      ∧ (takeTorq code s).peer.posting.air1 = s.peer.posting.air1
      ∧ (takeTorq code s).peer.posting.air2 = s.peer.posting.air2
      ∧ (takeTorq code s).peer.posting.airAge = s.peer.posting.airAge
      ∧ (takeTorq code s).peer.posting.demand = s.peer.posting.demand
      ∧ (takeTorq code s).peer.posting.unconfigured = s.peer.posting.unconfigured
      ∧ (takeTorq code s).peer.posting.dupStation = s.peer.posting.dupStation
      ∧ (takeTorq code s).peer.posting.storeFault = s.peer.posting.storeFault
      ∧ (takeTorq code s).peer.posting.supplyWarning = s.peer.posting.supplyWarning
      ∧ (takeTorq code s).peer.posting.resetCause = s.peer.posting.resetCause
      ∧ (takeTorq code s).lsn.contamination = s.lsn.contamination := by
  unfold takeTorq
  dsimp only
  (repeat' split) <;> simp

@[simp] theorem takeOilt_frame (code : Nat) (s : State) :
    (takeOilt code s).cyc = s.cyc ∧ (takeOilt code s).sca = s.sca ∧ (takeOilt code s).leak = s.leak
      ∧ (takeOilt code s).store = s.store ∧ (takeOilt code s).lif = s.lif ∧ (takeOilt code s).cfg = s.cfg
      ∧ (takeOilt code s).boot = s.boot ∧ (takeOilt code s).supplyWarning = s.supplyWarning
      ∧ (takeOilt code s).pins = s.pins ∧ (takeOilt code s).clock = s.clock ∧ (takeOilt code s).draws = s.draws
      ∧ (takeOilt code s).pending = s.pending ∧ (takeOilt code s).peer.table = s.peer.table
      ∧ (takeOilt code s).peer.lastFull = s.peer.lastFull ∧ (takeOilt code s).peer.due = s.peer.due
      ∧ (takeOilt code s).peer.repeats = s.peer.repeats ∧ (takeOilt code s).peer.dupCount = s.peer.dupCount
      ∧ (takeOilt code s).peer.period = s.peer.period ∧ (takeOilt code s).peer.periodLeft = s.peer.periodLeft
      ∧ (takeOilt code s).peer.posting.cycleState = s.peer.posting.cycleState
      ∧ (takeOilt code s).peer.posting.programme = s.peer.posting.programme
      ∧ (takeOilt code s).peer.posting.openSeq = s.peer.posting.openSeq
      ∧ (takeOilt code s).peer.posting.lastVerdict = s.peer.posting.lastVerdict
      ∧ (takeOilt code s).peer.posting.acoustic = s.peer.posting.acoustic
      ∧ (takeOilt code s).peer.posting.air1 = s.peer.posting.air1
      ∧ (takeOilt code s).peer.posting.air2 = s.peer.posting.air2
      ∧ (takeOilt code s).peer.posting.airAge = s.peer.posting.airAge
      ∧ (takeOilt code s).peer.posting.demand = s.peer.posting.demand
      ∧ (takeOilt code s).peer.posting.unconfigured = s.peer.posting.unconfigured
      ∧ (takeOilt code s).peer.posting.dupStation = s.peer.posting.dupStation
      ∧ (takeOilt code s).peer.posting.storeFault = s.peer.posting.storeFault
      ∧ (takeOilt code s).peer.posting.supplyWarning = s.peer.posting.supplyWarning
      ∧ (takeOilt code s).peer.posting.resetCause = s.peer.posting.resetCause
      ∧ (takeOilt code s).lsn.contamination = s.lsn.contamination := by
  unfold takeOilt
  dsimp only
  (repeat' split) <;> simp

@[simp] theorem judgeOilRise_frame (s : State) :
    (judgeOilRise s).cyc = s.cyc ∧ (judgeOilRise s).sca = s.sca ∧ (judgeOilRise s).leak = s.leak
      ∧ (judgeOilRise s).store = s.store ∧ (judgeOilRise s).lif = s.lif ∧ (judgeOilRise s).cfg = s.cfg
      ∧ (judgeOilRise s).boot = s.boot ∧ (judgeOilRise s).supplyWarning = s.supplyWarning
      ∧ (judgeOilRise s).pins = s.pins ∧ (judgeOilRise s).clock = s.clock ∧ (judgeOilRise s).draws = s.draws
      ∧ (judgeOilRise s).pending = s.pending ∧ (judgeOilRise s).peer.table = s.peer.table
      ∧ (judgeOilRise s).peer.lastFull = s.peer.lastFull ∧ (judgeOilRise s).peer.due = s.peer.due
      ∧ (judgeOilRise s).peer.repeats = s.peer.repeats ∧ (judgeOilRise s).peer.dupCount = s.peer.dupCount
      ∧ (judgeOilRise s).peer.period = s.peer.period ∧ (judgeOilRise s).peer.periodLeft = s.peer.periodLeft
      ∧ (judgeOilRise s).peer.posting.cycleState = s.peer.posting.cycleState
      ∧ (judgeOilRise s).peer.posting.programme = s.peer.posting.programme
      ∧ (judgeOilRise s).peer.posting.openSeq = s.peer.posting.openSeq
      ∧ (judgeOilRise s).peer.posting.lastVerdict = s.peer.posting.lastVerdict
      ∧ (judgeOilRise s).peer.posting.acoustic = s.peer.posting.acoustic
      ∧ (judgeOilRise s).peer.posting.air1 = s.peer.posting.air1
      ∧ (judgeOilRise s).peer.posting.air2 = s.peer.posting.air2
      ∧ (judgeOilRise s).peer.posting.airAge = s.peer.posting.airAge
      ∧ (judgeOilRise s).peer.posting.demand = s.peer.posting.demand
      ∧ (judgeOilRise s).peer.posting.unconfigured = s.peer.posting.unconfigured
      ∧ (judgeOilRise s).peer.posting.dupStation = s.peer.posting.dupStation
      ∧ (judgeOilRise s).peer.posting.storeFault = s.peer.posting.storeFault
      ∧ (judgeOilRise s).peer.posting.supplyWarning = s.peer.posting.supplyWarning
      ∧ (judgeOilRise s).peer.posting.resetCause = s.peer.posting.resetCause
      ∧ (judgeOilRise s).lsn.contamination = s.lsn.contamination := by
  unfold judgeOilRise
  (repeat' split) <;> simp

@[simp] theorem appendOil_frame (s : State) :
    (appendOil s).cyc = s.cyc ∧ (appendOil s).sca = s.sca ∧ (appendOil s).leak = s.leak
      ∧ (appendOil s).store = s.store ∧ (appendOil s).lif = s.lif ∧ (appendOil s).cfg = s.cfg
      ∧ (appendOil s).boot = s.boot ∧ (appendOil s).supplyWarning = s.supplyWarning ∧ (appendOil s).pins = s.pins
      ∧ (appendOil s).clock = s.clock ∧ (appendOil s).draws = s.draws ∧ (appendOil s).pending = s.pending
      ∧ (appendOil s).peer.table = s.peer.table ∧ (appendOil s).peer.lastFull = s.peer.lastFull
      ∧ (appendOil s).peer.due = s.peer.due ∧ (appendOil s).peer.repeats = s.peer.repeats
      ∧ (appendOil s).peer.dupCount = s.peer.dupCount ∧ (appendOil s).peer.period = s.peer.period
      ∧ (appendOil s).peer.periodLeft = s.peer.periodLeft
      ∧ (appendOil s).peer.posting.cycleState = s.peer.posting.cycleState
      ∧ (appendOil s).peer.posting.programme = s.peer.posting.programme
      ∧ (appendOil s).peer.posting.openSeq = s.peer.posting.openSeq
      ∧ (appendOil s).peer.posting.lastVerdict = s.peer.posting.lastVerdict
      ∧ (appendOil s).peer.posting.acoustic = s.peer.posting.acoustic
      ∧ (appendOil s).peer.posting.air1 = s.peer.posting.air1
      ∧ (appendOil s).peer.posting.air2 = s.peer.posting.air2
      ∧ (appendOil s).peer.posting.airAge = s.peer.posting.airAge
      ∧ (appendOil s).peer.posting.demand = s.peer.posting.demand
      ∧ (appendOil s).peer.posting.unconfigured = s.peer.posting.unconfigured
      ∧ (appendOil s).peer.posting.dupStation = s.peer.posting.dupStation
      ∧ (appendOil s).peer.posting.storeFault = s.peer.posting.storeFault
      ∧ (appendOil s).peer.posting.supplyWarning = s.peer.posting.supplyWarning
      ∧ (appendOil s).peer.posting.resetCause = s.peer.posting.resetCause
      ∧ (appendOil s).lsn.contamination = s.lsn.contamination := by
  unfold appendOil
  (repeat' split) <;> simp

@[simp] theorem driveLost_frame (s : State) :
    (driveLost s).cyc = s.cyc ∧ (driveLost s).sca = s.sca ∧ (driveLost s).leak = s.leak
      ∧ (driveLost s).store = s.store ∧ (driveLost s).lif = s.lif ∧ (driveLost s).cfg = s.cfg
      ∧ (driveLost s).boot = s.boot ∧ (driveLost s).supplyWarning = s.supplyWarning ∧ (driveLost s).pins = s.pins
      ∧ (driveLost s).clock = s.clock ∧ (driveLost s).draws = s.draws ∧ (driveLost s).pending = s.pending
      ∧ (driveLost s).peer.table = s.peer.table ∧ (driveLost s).peer.lastFull = s.peer.lastFull
      ∧ (driveLost s).peer.due = s.peer.due ∧ (driveLost s).peer.repeats = s.peer.repeats
      ∧ (driveLost s).peer.dupCount = s.peer.dupCount ∧ (driveLost s).peer.period = s.peer.period
      ∧ (driveLost s).peer.periodLeft = s.peer.periodLeft
      ∧ (driveLost s).peer.posting.cycleState = s.peer.posting.cycleState
      ∧ (driveLost s).peer.posting.programme = s.peer.posting.programme
      ∧ (driveLost s).peer.posting.openSeq = s.peer.posting.openSeq
      ∧ (driveLost s).peer.posting.lastVerdict = s.peer.posting.lastVerdict
      ∧ (driveLost s).peer.posting.air1 = s.peer.posting.air1
      ∧ (driveLost s).peer.posting.air2 = s.peer.posting.air2
      ∧ (driveLost s).peer.posting.airAge = s.peer.posting.airAge
      ∧ (driveLost s).peer.posting.unconfigured = s.peer.posting.unconfigured
      ∧ (driveLost s).peer.posting.dupStation = s.peer.posting.dupStation
      ∧ (driveLost s).peer.posting.storeFault = s.peer.posting.storeFault
      ∧ (driveLost s).peer.posting.supplyWarning = s.peer.posting.supplyWarning
      ∧ (driveLost s).peer.posting.resetCause = s.peer.posting.resetCause
      ∧ (driveLost s).lsn.contamination = s.lsn.contamination := by
  unfold driveLost
  dsimp only
  (repeat' split) <;> simp

@[simp] theorem applyPending_frame (s : State) :
    (applyPending s).cyc = s.cyc ∧ (applyPending s).peer = s.peer ∧ (applyPending s).run = s.run
      ∧ (applyPending s).lsn = s.lsn ∧ (applyPending s).vib = s.vib ∧ (applyPending s).dev = s.dev
      ∧ (applyPending s).store = s.store ∧ (applyPending s).lif = s.lif ∧ (applyPending s).cfg = s.cfg
      ∧ (applyPending s).boot = s.boot ∧ (applyPending s).supplyWarning = s.supplyWarning
      ∧ (applyPending s).pins = s.pins ∧ (applyPending s).clock = s.clock ∧ (applyPending s).draws = s.draws
      ∧ (applyPending s).pending = s.pending ∧ (applyPending s).leak.armed = s.leak.armed := by
  unfold applyPending
  (repeat' split) <;> simp

@[simp] theorem phaseBoundary_frame (s : State) :
    (phaseBoundary s).cyc = s.cyc ∧ (phaseBoundary s).peer = s.peer ∧ (phaseBoundary s).run = s.run
      ∧ (phaseBoundary s).lsn = s.lsn ∧ (phaseBoundary s).vib = s.vib ∧ (phaseBoundary s).dev = s.dev
      ∧ (phaseBoundary s).store = s.store ∧ (phaseBoundary s).lif = s.lif ∧ (phaseBoundary s).cfg = s.cfg
      ∧ (phaseBoundary s).boot = s.boot ∧ (phaseBoundary s).supplyWarning = s.supplyWarning
      ∧ (phaseBoundary s).pins = s.pins ∧ (phaseBoundary s).clock = s.clock ∧ (phaseBoundary s).draws = s.draws
      ∧ (phaseBoundary s).pending = s.pending ∧ (phaseBoundary s).leak.armed = s.leak.armed := by
  unfold phaseBoundary
  (repeat' split) <;> simp

@[simp] theorem deliverSample_frame (ch : Slow) (code : Nat) (s : State) :
    (deliverSample ch code s).cyc = s.cyc ∧ (deliverSample ch code s).sca = s.sca
      ∧ (deliverSample ch code s).store = s.store ∧ (deliverSample ch code s).lif = s.lif
      ∧ (deliverSample ch code s).cfg = s.cfg ∧ (deliverSample ch code s).boot = s.boot
      ∧ (deliverSample ch code s).supplyWarning = s.supplyWarning ∧ (deliverSample ch code s).pins = s.pins
      ∧ (deliverSample ch code s).clock = s.clock ∧ (deliverSample ch code s).draws = s.draws
      ∧ (deliverSample ch code s).pending = s.pending ∧ (deliverSample ch code s).peer.table = s.peer.table
      ∧ (deliverSample ch code s).peer.lastFull = s.peer.lastFull ∧ (deliverSample ch code s).peer.due = s.peer.due
      ∧ (deliverSample ch code s).peer.repeats = s.peer.repeats
      ∧ (deliverSample ch code s).peer.dupCount = s.peer.dupCount
      ∧ (deliverSample ch code s).peer.period = s.peer.period
      ∧ (deliverSample ch code s).peer.periodLeft = s.peer.periodLeft
      ∧ (deliverSample ch code s).peer.posting.cycleState = s.peer.posting.cycleState
      ∧ (deliverSample ch code s).peer.posting.programme = s.peer.posting.programme
      ∧ (deliverSample ch code s).peer.posting.openSeq = s.peer.posting.openSeq
      ∧ (deliverSample ch code s).peer.posting.lastVerdict = s.peer.posting.lastVerdict
      ∧ (deliverSample ch code s).peer.posting.acoustic = s.peer.posting.acoustic
      ∧ (deliverSample ch code s).peer.posting.demand = s.peer.posting.demand
      ∧ (deliverSample ch code s).peer.posting.unconfigured = s.peer.posting.unconfigured
      ∧ (deliverSample ch code s).peer.posting.dupStation = s.peer.posting.dupStation
      ∧ (deliverSample ch code s).peer.posting.storeFault = s.peer.posting.storeFault
      ∧ (deliverSample ch code s).peer.posting.supplyWarning = s.peer.posting.supplyWarning
      ∧ (deliverSample ch code s).peer.posting.resetCause = s.peer.posting.resetCause
      ∧ (deliverSample ch code s).lsn.contamination = s.lsn.contamination := by
  unfold deliverSample
  (repeat' split) <;> simp

@[simp] theorem slowDone_frame (code : Nat) (s : State) :
    (slowDone code s).cyc = s.cyc ∧ (slowDone code s).store = s.store ∧ (slowDone code s).lif = s.lif
      ∧ (slowDone code s).cfg = s.cfg ∧ (slowDone code s).boot = s.boot
      ∧ (slowDone code s).supplyWarning = s.supplyWarning ∧ (slowDone code s).pins = s.pins
      ∧ (slowDone code s).clock = s.clock ∧ (slowDone code s).draws = s.draws
      ∧ (slowDone code s).pending = s.pending ∧ (slowDone code s).peer.table = s.peer.table
      ∧ (slowDone code s).peer.lastFull = s.peer.lastFull ∧ (slowDone code s).peer.due = s.peer.due
      ∧ (slowDone code s).peer.repeats = s.peer.repeats ∧ (slowDone code s).peer.dupCount = s.peer.dupCount
      ∧ (slowDone code s).peer.period = s.peer.period ∧ (slowDone code s).peer.periodLeft = s.peer.periodLeft
      ∧ (slowDone code s).peer.posting.cycleState = s.peer.posting.cycleState
      ∧ (slowDone code s).peer.posting.programme = s.peer.posting.programme
      ∧ (slowDone code s).peer.posting.openSeq = s.peer.posting.openSeq
      ∧ (slowDone code s).peer.posting.lastVerdict = s.peer.posting.lastVerdict
      ∧ (slowDone code s).peer.posting.acoustic = s.peer.posting.acoustic
      ∧ (slowDone code s).peer.posting.demand = s.peer.posting.demand
      ∧ (slowDone code s).peer.posting.unconfigured = s.peer.posting.unconfigured
      ∧ (slowDone code s).peer.posting.dupStation = s.peer.posting.dupStation
      ∧ (slowDone code s).peer.posting.storeFault = s.peer.posting.storeFault
      ∧ (slowDone code s).peer.posting.supplyWarning = s.peer.posting.supplyWarning
      ∧ (slowDone code s).peer.posting.resetCause = s.peer.posting.resetCause
      ∧ (slowDone code s).lsn.contamination = s.lsn.contamination := by
  unfold slowDone
  (repeat' split) <;> simp

@[simp] theorem startRota_frame (table : List Nat) (s : State) :
    (startRota table s).cyc = s.cyc ∧ (startRota table s).peer = s.peer ∧ (startRota table s).run = s.run
      ∧ (startRota table s).lsn = s.lsn ∧ (startRota table s).vib = s.vib ∧ (startRota table s).leak = s.leak
      ∧ (startRota table s).dev = s.dev ∧ (startRota table s).store = s.store ∧ (startRota table s).lif = s.lif
      ∧ (startRota table s).cfg = s.cfg ∧ (startRota table s).boot = s.boot
      ∧ (startRota table s).supplyWarning = s.supplyWarning ∧ (startRota table s).pins = s.pins
      ∧ (startRota table s).clock = s.clock ∧ (startRota table s).draws = s.draws
      ∧ (startRota table s).pending = s.pending ∧ (startRota table s).sca.pending = s.sca.pending
      ∧ (startRota table s).sca.pendingFlag = s.sca.pendingFlag := by
  refine ⟨rfl, rfl, rfl, rfl, rfl, rfl, rfl, rfl, rfl, rfl, rfl, rfl, rfl, rfl, rfl, rfl, rfl, rfl⟩

end Sys2Proof.Machine
end

