-- ==== Sys2Proof/Laws/Station.lean ====
section
/-! SUPPORT. What each operation of START and the aborts, the peer table and the resets leaves as it is. -/
namespace Sys2Proof.Machine

@[simp] theorem openCycle_frame (programme : Nat) (serial stamp : List Byte) (s : State) :
    (openCycle programme serial stamp s).peer = s.peer ∧ (openCycle programme serial stamp s).run = s.run
      ∧ (openCycle programme serial stamp s).lsn = s.lsn ∧ (openCycle programme serial stamp s).vib = s.vib
      ∧ (openCycle programme serial stamp s).sca = s.sca ∧ (openCycle programme serial stamp s).leak = s.leak
      ∧ (openCycle programme serial stamp s).dev = s.dev ∧ (openCycle programme serial stamp s).lif = s.lif
      ∧ (openCycle programme serial stamp s).cfg = s.cfg ∧ (openCycle programme serial stamp s).boot = s.boot
      ∧ (openCycle programme serial stamp s).supplyWarning = s.supplyWarning
      ∧ (openCycle programme serial stamp s).pins = s.pins ∧ (openCycle programme serial stamp s).clock = s.clock
      ∧ (openCycle programme serial stamp s).draws = s.draws
      ∧ (openCycle programme serial stamp s).pending = s.pending
      ∧ (openCycle programme serial stamp s).cyc.station = s.cyc.station
      ∧ (openCycle programme serial stamp s).cyc.formed = s.cyc.formed
      ∧ (openCycle programme serial stamp s).store.flash = s.store.flash
      ∧ (openCycle programme serial stamp s).store.pairs = s.store.pairs
      ∧ (openCycle programme serial stamp s).store.state = s.store.state
      ∧ (openCycle programme serial stamp s).store.cause = s.store.cause
      ∧ (openCycle programme serial stamp s).store.swap = s.store.swap
      ∧ (openCycle programme serial stamp s).store.pending = s.store.pending
      ∧ (openCycle programme serial stamp s).store.recovery = s.store.recovery := by
  refine ⟨rfl, rfl, rfl, rfl, rfl, rfl, rfl, rfl, rfl, rfl, rfl, rfl, rfl, rfl, rfl, rfl, rfl, rfl, rfl, rfl, rfl, rfl, rfl, rfl⟩

@[simp] theorem leaveDone_frame (s : State) :
    (leaveDone s).run = s.run ∧ (leaveDone s).lsn = s.lsn ∧ (leaveDone s).vib = s.vib ∧ (leaveDone s).sca = s.sca
      ∧ (leaveDone s).leak = s.leak ∧ (leaveDone s).dev = s.dev ∧ (leaveDone s).store = s.store
      ∧ (leaveDone s).lif = s.lif ∧ (leaveDone s).cfg = s.cfg ∧ (leaveDone s).boot = s.boot
      ∧ (leaveDone s).supplyWarning = s.supplyWarning ∧ (leaveDone s).pins = s.pins ∧ (leaveDone s).clock = s.clock
      ∧ (leaveDone s).draws = s.draws ∧ (leaveDone s).pending = s.pending ∧ (leaveDone s).cyc.record = s.cyc.record
      ∧ (leaveDone s).cyc.programme = s.cyc.programme ∧ (leaveDone s).cyc.timerMs = s.cyc.timerMs
      ∧ (leaveDone s).cyc.formed = s.cyc.formed ∧ (leaveDone s).peer.table = s.peer.table
      ∧ (leaveDone s).peer.lastFull = s.peer.lastFull ∧ (leaveDone s).peer.due = s.peer.due
      ∧ (leaveDone s).peer.repeats = s.peer.repeats ∧ (leaveDone s).peer.dupCount = s.peer.dupCount
      ∧ (leaveDone s).peer.period = s.peer.period ∧ (leaveDone s).peer.periodLeft = s.peer.periodLeft := by
  unfold leaveDone
  (repeat' split) <;> simp

@[simp] theorem enterPosting_frame (station : Nat) (p : Posting) (s : State) :
    (enterPosting station p s).cyc = s.cyc ∧ (enterPosting station p s).run = s.run
      ∧ (enterPosting station p s).sca = s.sca ∧ (enterPosting station p s).leak = s.leak
      ∧ (enterPosting station p s).dev = s.dev ∧ (enterPosting station p s).store = s.store
      ∧ (enterPosting station p s).lif = s.lif ∧ (enterPosting station p s).cfg = s.cfg
      ∧ (enterPosting station p s).boot = s.boot ∧ (enterPosting station p s).supplyWarning = s.supplyWarning
      ∧ (enterPosting station p s).pins = s.pins ∧ (enterPosting station p s).clock = s.clock
      ∧ (enterPosting station p s).draws = s.draws ∧ (enterPosting station p s).pending = s.pending
      ∧ (enterPosting station p s).peer.posting = s.peer.posting
      ∧ (enterPosting station p s).peer.lastFull = s.peer.lastFull
      ∧ (enterPosting station p s).peer.due = s.peer.due ∧ (enterPosting station p s).peer.repeats = s.peer.repeats
      ∧ (enterPosting station p s).peer.dupCount = s.peer.dupCount
      ∧ (enterPosting station p s).peer.period = s.peer.period
      ∧ (enterPosting station p s).peer.periodLeft = s.peer.periodLeft
      ∧ (enterPosting station p s).lsn.state = s.lsn.state
      ∧ (enterPosting station p s).lsn.claimAge = s.lsn.claimAge
      ∧ (enterPosting station p s).lsn.settle = s.lsn.settle := by
  refine ⟨rfl, rfl, rfl, rfl, rfl, rfl, rfl, rfl, rfl, rfl, rfl, rfl, rfl, rfl, rfl, rfl, rfl, rfl, rfl, rfl, rfl, rfl, rfl, rfl⟩

@[simp] theorem repeatPosting_frame (station : Nat) (s : State) :
    (repeatPosting station s).cyc = s.cyc ∧ (repeatPosting station s).run = s.run
      ∧ (repeatPosting station s).lsn = s.lsn ∧ (repeatPosting station s).vib = s.vib
      ∧ (repeatPosting station s).sca = s.sca ∧ (repeatPosting station s).leak = s.leak
      ∧ (repeatPosting station s).dev = s.dev ∧ (repeatPosting station s).store = s.store
      ∧ (repeatPosting station s).lif = s.lif ∧ (repeatPosting station s).cfg = s.cfg
      ∧ (repeatPosting station s).boot = s.boot ∧ (repeatPosting station s).supplyWarning = s.supplyWarning
      ∧ (repeatPosting station s).pins = s.pins ∧ (repeatPosting station s).clock = s.clock
      ∧ (repeatPosting station s).draws = s.draws ∧ (repeatPosting station s).pending = s.pending
      ∧ (repeatPosting station s).peer.posting = s.peer.posting
      ∧ (repeatPosting station s).peer.lastFull = s.peer.lastFull ∧ (repeatPosting station s).peer.due = s.peer.due
      ∧ (repeatPosting station s).peer.repeats = s.peer.repeats
      ∧ (repeatPosting station s).peer.dupCount = s.peer.dupCount
      ∧ (repeatPosting station s).peer.period = s.peer.period
      ∧ (repeatPosting station s).peer.periodLeft = s.peer.periodLeft := by
  refine ⟨rfl, rfl, rfl, rfl, rfl, rfl, rfl, rfl, rfl, rfl, rfl, rfl, rfl, rfl, rfl, rfl, rfl, rfl, rfl, rfl, rfl, rfl, rfl⟩

@[simp] theorem agePeers_frame (s : State) :
    (agePeers s).cyc = s.cyc ∧ (agePeers s).run = s.run ∧ (agePeers s).sca = s.sca ∧ (agePeers s).leak = s.leak
      ∧ (agePeers s).dev = s.dev ∧ (agePeers s).store = s.store ∧ (agePeers s).lif = s.lif
      ∧ (agePeers s).cfg = s.cfg ∧ (agePeers s).boot = s.boot ∧ (agePeers s).supplyWarning = s.supplyWarning
      ∧ (agePeers s).pins = s.pins ∧ (agePeers s).clock = s.clock ∧ (agePeers s).draws = s.draws
      ∧ (agePeers s).pending = s.pending ∧ (agePeers s).peer.posting = s.peer.posting
      ∧ (agePeers s).peer.lastFull = s.peer.lastFull ∧ (agePeers s).peer.due = s.peer.due
      ∧ (agePeers s).peer.repeats = s.peer.repeats ∧ (agePeers s).peer.dupCount = s.peer.dupCount
      ∧ (agePeers s).peer.period = s.peer.period ∧ (agePeers s).peer.periodLeft = s.peer.periodLeft
      ∧ (agePeers s).lsn.state = s.lsn.state ∧ (agePeers s).lsn.claimAge = s.lsn.claimAge
      ∧ (agePeers s).lsn.settle = s.lsn.settle := by
  refine ⟨rfl, rfl, rfl, rfl, rfl, rfl, rfl, rfl, rfl, rfl, rfl, rfl, rfl, rfl, rfl, rfl, rfl, rfl, rfl, rfl, rfl, rfl, rfl, rfl⟩

@[simp] theorem duplicateHeard_frame (s : State) :
    (duplicateHeard s).cyc = s.cyc ∧ (duplicateHeard s).run = s.run ∧ (duplicateHeard s).lsn = s.lsn
      ∧ (duplicateHeard s).vib = s.vib ∧ (duplicateHeard s).sca = s.sca ∧ (duplicateHeard s).leak = s.leak
      ∧ (duplicateHeard s).dev = s.dev ∧ (duplicateHeard s).store = s.store ∧ (duplicateHeard s).lif = s.lif
      ∧ (duplicateHeard s).cfg = s.cfg ∧ (duplicateHeard s).boot = s.boot
      ∧ (duplicateHeard s).supplyWarning = s.supplyWarning ∧ (duplicateHeard s).pins = s.pins
      ∧ (duplicateHeard s).clock = s.clock ∧ (duplicateHeard s).draws = s.draws
      ∧ (duplicateHeard s).pending = s.pending ∧ (duplicateHeard s).peer.table = s.peer.table
      ∧ (duplicateHeard s).peer.lastFull = s.peer.lastFull ∧ (duplicateHeard s).peer.due = s.peer.due
      ∧ (duplicateHeard s).peer.repeats = s.peer.repeats ∧ (duplicateHeard s).peer.period = s.peer.period
      ∧ (duplicateHeard s).peer.periodLeft = s.peer.periodLeft
      ∧ (duplicateHeard s).peer.posting.cycleState = s.peer.posting.cycleState
      ∧ (duplicateHeard s).peer.posting.programme = s.peer.posting.programme
      ∧ (duplicateHeard s).peer.posting.openSeq = s.peer.posting.openSeq
      ∧ (duplicateHeard s).peer.posting.lastVerdict = s.peer.posting.lastVerdict
      ∧ (duplicateHeard s).peer.posting.acoustic = s.peer.posting.acoustic
      ∧ (duplicateHeard s).peer.posting.listen = s.peer.posting.listen
      ∧ (duplicateHeard s).peer.posting.listenAge = s.peer.posting.listenAge
      ∧ (duplicateHeard s).peer.posting.air1 = s.peer.posting.air1
      ∧ (duplicateHeard s).peer.posting.air2 = s.peer.posting.air2
      ∧ (duplicateHeard s).peer.posting.airAge = s.peer.posting.airAge
      ∧ (duplicateHeard s).peer.posting.demand = s.peer.posting.demand
      ∧ (duplicateHeard s).peer.posting.yielding = s.peer.posting.yielding
      ∧ (duplicateHeard s).peer.posting.unconfigured = s.peer.posting.unconfigured
      ∧ (duplicateHeard s).peer.posting.storeFault = s.peer.posting.storeFault
      ∧ (duplicateHeard s).peer.posting.supplyWarning = s.peer.posting.supplyWarning
      ∧ (duplicateHeard s).peer.posting.resetCause = s.peer.posting.resetCause := by
  refine ⟨rfl, rfl, rfl, rfl, rfl, rfl, rfl, rfl, rfl, rfl, rfl, rfl, rfl, rfl, rfl, rfl, rfl, rfl, rfl, rfl, rfl, rfl, rfl, rfl, rfl, rfl, rfl, rfl, rfl, rfl, rfl, rfl, rfl, rfl, rfl, rfl, rfl, rfl⟩

@[simp] theorem clearDuplicate_frame (s : State) :
    (clearDuplicate s).cyc = s.cyc ∧ (clearDuplicate s).run = s.run ∧ (clearDuplicate s).lsn = s.lsn
      ∧ (clearDuplicate s).vib = s.vib ∧ (clearDuplicate s).sca = s.sca ∧ (clearDuplicate s).leak = s.leak
      ∧ (clearDuplicate s).dev = s.dev ∧ (clearDuplicate s).store = s.store ∧ (clearDuplicate s).lif = s.lif
      ∧ (clearDuplicate s).cfg = s.cfg ∧ (clearDuplicate s).boot = s.boot
      ∧ (clearDuplicate s).supplyWarning = s.supplyWarning ∧ (clearDuplicate s).pins = s.pins
      ∧ (clearDuplicate s).clock = s.clock ∧ (clearDuplicate s).draws = s.draws
      ∧ (clearDuplicate s).pending = s.pending ∧ (clearDuplicate s).peer.table = s.peer.table
      ∧ (clearDuplicate s).peer.lastFull = s.peer.lastFull ∧ (clearDuplicate s).peer.due = s.peer.due
      ∧ (clearDuplicate s).peer.repeats = s.peer.repeats ∧ (clearDuplicate s).peer.period = s.peer.period
      ∧ (clearDuplicate s).peer.periodLeft = s.peer.periodLeft
      ∧ (clearDuplicate s).peer.posting.cycleState = s.peer.posting.cycleState
      ∧ (clearDuplicate s).peer.posting.programme = s.peer.posting.programme
      ∧ (clearDuplicate s).peer.posting.openSeq = s.peer.posting.openSeq
      ∧ (clearDuplicate s).peer.posting.lastVerdict = s.peer.posting.lastVerdict
      ∧ (clearDuplicate s).peer.posting.acoustic = s.peer.posting.acoustic
      ∧ (clearDuplicate s).peer.posting.listen = s.peer.posting.listen
      ∧ (clearDuplicate s).peer.posting.listenAge = s.peer.posting.listenAge
      ∧ (clearDuplicate s).peer.posting.air1 = s.peer.posting.air1
      ∧ (clearDuplicate s).peer.posting.air2 = s.peer.posting.air2
      ∧ (clearDuplicate s).peer.posting.airAge = s.peer.posting.airAge
      ∧ (clearDuplicate s).peer.posting.demand = s.peer.posting.demand
      ∧ (clearDuplicate s).peer.posting.yielding = s.peer.posting.yielding
      ∧ (clearDuplicate s).peer.posting.unconfigured = s.peer.posting.unconfigured
      ∧ (clearDuplicate s).peer.posting.storeFault = s.peer.posting.storeFault
      ∧ (clearDuplicate s).peer.posting.supplyWarning = s.peer.posting.supplyWarning
      ∧ (clearDuplicate s).peer.posting.resetCause = s.peer.posting.resetCause := by
  refine ⟨?_, ?_, ?_, ?_, ?_, ?_, ?_, ?_, ?_, ?_, ?_, ?_, ?_, ?_, ?_, ?_, ?_, ?_, ?_, ?_, ?_, ?_, ?_, ?_, ?_, ?_, ?_, ?_, ?_, ?_, ?_, ?_, ?_, ?_, ?_, ?_, ?_, ?_⟩ <;>
  first
  | rfl
  | (unfold clearDuplicate; dsimp only; (repeat' split) <;> rfl)

@[simp] theorem takeFullPosting_frame (own : Bool) (source : Nat) (payload : List Byte) (s : State) :
    (takeFullPosting own source payload s).cyc = s.cyc ∧ (takeFullPosting own source payload s).run = s.run
      ∧ (takeFullPosting own source payload s).sca = s.sca ∧ (takeFullPosting own source payload s).leak = s.leak
      ∧ (takeFullPosting own source payload s).dev = s.dev ∧ (takeFullPosting own source payload s).store = s.store
      ∧ (takeFullPosting own source payload s).lif = s.lif ∧ (takeFullPosting own source payload s).cfg = s.cfg
      ∧ (takeFullPosting own source payload s).boot = s.boot
      ∧ (takeFullPosting own source payload s).supplyWarning = s.supplyWarning
      ∧ (takeFullPosting own source payload s).pins = s.pins
      ∧ (takeFullPosting own source payload s).clock = s.clock
      ∧ (takeFullPosting own source payload s).draws = s.draws
      ∧ (takeFullPosting own source payload s).pending = s.pending
      ∧ (takeFullPosting own source payload s).peer.lastFull = s.peer.lastFull
      ∧ (takeFullPosting own source payload s).peer.due = s.peer.due
      ∧ (takeFullPosting own source payload s).peer.repeats = s.peer.repeats
      ∧ (takeFullPosting own source payload s).peer.period = s.peer.period
      ∧ (takeFullPosting own source payload s).peer.periodLeft = s.peer.periodLeft
      ∧ (takeFullPosting own source payload s).peer.posting.cycleState = s.peer.posting.cycleState
      ∧ (takeFullPosting own source payload s).peer.posting.programme = s.peer.posting.programme
      ∧ (takeFullPosting own source payload s).peer.posting.openSeq = s.peer.posting.openSeq
      ∧ (takeFullPosting own source payload s).peer.posting.lastVerdict = s.peer.posting.lastVerdict
      ∧ (takeFullPosting own source payload s).peer.posting.acoustic = s.peer.posting.acoustic
      ∧ (takeFullPosting own source payload s).peer.posting.listen = s.peer.posting.listen
      ∧ (takeFullPosting own source payload s).peer.posting.listenAge = s.peer.posting.listenAge
      ∧ (takeFullPosting own source payload s).peer.posting.air1 = s.peer.posting.air1
      ∧ (takeFullPosting own source payload s).peer.posting.air2 = s.peer.posting.air2
      ∧ (takeFullPosting own source payload s).peer.posting.airAge = s.peer.posting.airAge
      ∧ (takeFullPosting own source payload s).peer.posting.demand = s.peer.posting.demand
      ∧ (takeFullPosting own source payload s).peer.posting.yielding = s.peer.posting.yielding
      ∧ (takeFullPosting own source payload s).peer.posting.unconfigured = s.peer.posting.unconfigured
      ∧ (takeFullPosting own source payload s).peer.posting.storeFault = s.peer.posting.storeFault
      ∧ (takeFullPosting own source payload s).peer.posting.supplyWarning = s.peer.posting.supplyWarning
      ∧ (takeFullPosting own source payload s).peer.posting.resetCause = s.peer.posting.resetCause
      ∧ (takeFullPosting own source payload s).lsn.state = s.lsn.state
      ∧ (takeFullPosting own source payload s).lsn.claimAge = s.lsn.claimAge
      ∧ (takeFullPosting own source payload s).lsn.settle = s.lsn.settle := by
  unfold takeFullPosting
  (repeat' split) <;> simp

@[simp] theorem takeRepeatPosting_frame (own : Bool) (station : Nat) (s : State) :
    (takeRepeatPosting own station s).cyc = s.cyc ∧ (takeRepeatPosting own station s).run = s.run
      ∧ (takeRepeatPosting own station s).lsn = s.lsn ∧ (takeRepeatPosting own station s).vib = s.vib
      ∧ (takeRepeatPosting own station s).sca = s.sca ∧ (takeRepeatPosting own station s).leak = s.leak
      ∧ (takeRepeatPosting own station s).dev = s.dev ∧ (takeRepeatPosting own station s).store = s.store
      ∧ (takeRepeatPosting own station s).lif = s.lif ∧ (takeRepeatPosting own station s).cfg = s.cfg
      ∧ (takeRepeatPosting own station s).boot = s.boot
      ∧ (takeRepeatPosting own station s).supplyWarning = s.supplyWarning
      ∧ (takeRepeatPosting own station s).pins = s.pins ∧ (takeRepeatPosting own station s).clock = s.clock
      ∧ (takeRepeatPosting own station s).draws = s.draws ∧ (takeRepeatPosting own station s).pending = s.pending
      ∧ (takeRepeatPosting own station s).peer.lastFull = s.peer.lastFull
      ∧ (takeRepeatPosting own station s).peer.due = s.peer.due
      ∧ (takeRepeatPosting own station s).peer.repeats = s.peer.repeats
      ∧ (takeRepeatPosting own station s).peer.period = s.peer.period
      ∧ (takeRepeatPosting own station s).peer.periodLeft = s.peer.periodLeft
      ∧ (takeRepeatPosting own station s).peer.posting.cycleState = s.peer.posting.cycleState
      ∧ (takeRepeatPosting own station s).peer.posting.programme = s.peer.posting.programme
      ∧ (takeRepeatPosting own station s).peer.posting.openSeq = s.peer.posting.openSeq
      ∧ (takeRepeatPosting own station s).peer.posting.lastVerdict = s.peer.posting.lastVerdict
      ∧ (takeRepeatPosting own station s).peer.posting.acoustic = s.peer.posting.acoustic
      ∧ (takeRepeatPosting own station s).peer.posting.listen = s.peer.posting.listen
      ∧ (takeRepeatPosting own station s).peer.posting.listenAge = s.peer.posting.listenAge
      ∧ (takeRepeatPosting own station s).peer.posting.air1 = s.peer.posting.air1
      ∧ (takeRepeatPosting own station s).peer.posting.air2 = s.peer.posting.air2
      ∧ (takeRepeatPosting own station s).peer.posting.airAge = s.peer.posting.airAge
      ∧ (takeRepeatPosting own station s).peer.posting.demand = s.peer.posting.demand
      ∧ (takeRepeatPosting own station s).peer.posting.yielding = s.peer.posting.yielding
      ∧ (takeRepeatPosting own station s).peer.posting.unconfigured = s.peer.posting.unconfigured
      ∧ (takeRepeatPosting own station s).peer.posting.storeFault = s.peer.posting.storeFault
      ∧ (takeRepeatPosting own station s).peer.posting.supplyWarning = s.peer.posting.supplyWarning
      ∧ (takeRepeatPosting own station s).peer.posting.resetCause = s.peer.posting.resetCause := by
  unfold takeRepeatPosting
  (repeat' split) <;> simp

@[simp] theorem periodDue_frame (s : State) :
    (periodDue s).cyc = s.cyc ∧ (periodDue s).run = s.run ∧ (periodDue s).lsn = s.lsn ∧ (periodDue s).vib = s.vib
      ∧ (periodDue s).sca = s.sca ∧ (periodDue s).leak = s.leak ∧ (periodDue s).dev = s.dev
      ∧ (periodDue s).store = s.store ∧ (periodDue s).lif = s.lif ∧ (periodDue s).cfg = s.cfg
      ∧ (periodDue s).boot = s.boot ∧ (periodDue s).supplyWarning = s.supplyWarning ∧ (periodDue s).pins = s.pins
      ∧ (periodDue s).clock = s.clock ∧ (periodDue s).draws = s.draws ∧ (periodDue s).pending = s.pending
      ∧ (periodDue s).peer.posting = s.peer.posting ∧ (periodDue s).peer.table = s.peer.table
      ∧ (periodDue s).peer.lastFull = s.peer.lastFull ∧ (periodDue s).peer.repeats = s.peer.repeats
      ∧ (periodDue s).peer.dupCount = s.peer.dupCount := by
  refine ⟨rfl, rfl, rfl, rfl, rfl, rfl, rfl, rfl, rfl, rfl, rfl, rfl, rfl, rfl, rfl, rfl, rfl, rfl, rfl, rfl, rfl⟩

@[simp] theorem cutInFlight_frame (s : State) :
    (cutInFlight s).cyc = s.cyc ∧ (cutInFlight s).peer = s.peer ∧ (cutInFlight s).run = s.run
      ∧ (cutInFlight s).lsn = s.lsn ∧ (cutInFlight s).vib = s.vib ∧ (cutInFlight s).sca = s.sca
      ∧ (cutInFlight s).leak = s.leak ∧ (cutInFlight s).dev = s.dev ∧ (cutInFlight s).lif = s.lif
      ∧ (cutInFlight s).cfg = s.cfg ∧ (cutInFlight s).boot = s.boot
      ∧ (cutInFlight s).supplyWarning = s.supplyWarning ∧ (cutInFlight s).pins = s.pins
      ∧ (cutInFlight s).clock = s.clock ∧ (cutInFlight s).pending = s.pending
      ∧ (cutInFlight s).store.pairs = s.store.pairs ∧ (cutInFlight s).store.state = s.store.state
      ∧ (cutInFlight s).store.cause = s.store.cause ∧ (cutInFlight s).store.nextSeq = s.store.nextSeq
      ∧ (cutInFlight s).store.pending = s.store.pending ∧ (cutInFlight s).store.recovery = s.store.recovery := by
  unfold cutInFlight
  (repeat' split) <;> simp

@[simp] theorem resetBlocks_frame (k : ResetCause) (table : List Nat) (rota : Bool) (s : State) :
    (resetBlocks k table rota s).cfg = s.cfg ∧ (resetBlocks k table rota s).boot = s.boot
      ∧ (resetBlocks k table rota s).pins = s.pins ∧ (resetBlocks k table rota s).pending = s.pending := by
  simp [resetBlocks]

@[simp] theorem holdReset_frame (k : HardReset) (s : State) :
    (holdReset k s).pins = s.pins ∧ (holdReset k s).pending = s.pending := by
  unfold holdReset
  (repeat' split) <;> simp

@[simp] theorem beginStarting_frame (s : State) :
    (beginStarting s).cyc = s.cyc ∧ (beginStarting s).run = s.run ∧ (beginStarting s).lsn = s.lsn
      ∧ (beginStarting s).vib = s.vib ∧ (beginStarting s).sca = s.sca ∧ (beginStarting s).leak = s.leak
      ∧ (beginStarting s).dev = s.dev ∧ (beginStarting s).store = s.store ∧ (beginStarting s).boot = s.boot
      ∧ (beginStarting s).pins = s.pins ∧ (beginStarting s).clock = s.clock ∧ (beginStarting s).draws = s.draws
      ∧ (beginStarting s).pending = s.pending ∧ (beginStarting s).peer.table = s.peer.table
      ∧ (beginStarting s).peer.lastFull = s.peer.lastFull ∧ (beginStarting s).peer.due = s.peer.due
      ∧ (beginStarting s).peer.repeats = s.peer.repeats ∧ (beginStarting s).peer.dupCount = s.peer.dupCount
      ∧ (beginStarting s).peer.posting.cycleState = s.peer.posting.cycleState
      ∧ (beginStarting s).peer.posting.programme = s.peer.posting.programme
      ∧ (beginStarting s).peer.posting.openSeq = s.peer.posting.openSeq
      ∧ (beginStarting s).peer.posting.lastVerdict = s.peer.posting.lastVerdict
      ∧ (beginStarting s).peer.posting.acoustic = s.peer.posting.acoustic
      ∧ (beginStarting s).peer.posting.listen = s.peer.posting.listen
      ∧ (beginStarting s).peer.posting.listenAge = s.peer.posting.listenAge
      ∧ (beginStarting s).peer.posting.air1 = s.peer.posting.air1
      ∧ (beginStarting s).peer.posting.air2 = s.peer.posting.air2
      ∧ (beginStarting s).peer.posting.airAge = s.peer.posting.airAge
      ∧ (beginStarting s).peer.posting.demand = s.peer.posting.demand
      ∧ (beginStarting s).peer.posting.yielding = s.peer.posting.yielding
      ∧ (beginStarting s).peer.posting.unconfigured = s.peer.posting.unconfigured
      ∧ (beginStarting s).peer.posting.dupStation = s.peer.posting.dupStation
      ∧ (beginStarting s).peer.posting.storeFault = s.peer.posting.storeFault
      ∧ (beginStarting s).peer.posting.resetCause = s.peer.posting.resetCause
      ∧ (beginStarting s).lif.buffer = s.lif.buffer ∧ (beginStarting s).lif.decoder = s.lif.decoder
      ∧ (beginStarting s).lif.replies = s.lif.replies ∧ (beginStarting s).lif.tx = s.lif.tx
      ∧ (beginStarting s).lif.counters = s.lif.counters ∧ (beginStarting s).lif.restartLeft = s.lif.restartLeft := by
  unfold beginStarting
  dsimp only
  (repeat' split) <;> simp

@[simp] theorem releaseReset_frame (straps : BitVec 4) (supplyLow : Bool) (s : State) :
    (releaseReset straps supplyLow s).cyc = s.cyc ∧ (releaseReset straps supplyLow s).run = s.run
      ∧ (releaseReset straps supplyLow s).lsn = s.lsn ∧ (releaseReset straps supplyLow s).vib = s.vib
      ∧ (releaseReset straps supplyLow s).sca = s.sca ∧ (releaseReset straps supplyLow s).leak = s.leak
      ∧ (releaseReset straps supplyLow s).dev = s.dev ∧ (releaseReset straps supplyLow s).store = s.store
      ∧ (releaseReset straps supplyLow s).clock = s.clock ∧ (releaseReset straps supplyLow s).draws = s.draws
      ∧ (releaseReset straps supplyLow s).pending = s.pending
      ∧ (releaseReset straps supplyLow s).peer.table = s.peer.table
      ∧ (releaseReset straps supplyLow s).peer.lastFull = s.peer.lastFull
      ∧ (releaseReset straps supplyLow s).peer.due = s.peer.due
      ∧ (releaseReset straps supplyLow s).peer.repeats = s.peer.repeats
      ∧ (releaseReset straps supplyLow s).peer.dupCount = s.peer.dupCount
      ∧ (releaseReset straps supplyLow s).peer.posting.cycleState = s.peer.posting.cycleState
      ∧ (releaseReset straps supplyLow s).peer.posting.programme = s.peer.posting.programme
      ∧ (releaseReset straps supplyLow s).peer.posting.openSeq = s.peer.posting.openSeq
      ∧ (releaseReset straps supplyLow s).peer.posting.lastVerdict = s.peer.posting.lastVerdict
      ∧ (releaseReset straps supplyLow s).peer.posting.acoustic = s.peer.posting.acoustic
      ∧ (releaseReset straps supplyLow s).peer.posting.listen = s.peer.posting.listen
      ∧ (releaseReset straps supplyLow s).peer.posting.listenAge = s.peer.posting.listenAge
      ∧ (releaseReset straps supplyLow s).peer.posting.air1 = s.peer.posting.air1
      ∧ (releaseReset straps supplyLow s).peer.posting.air2 = s.peer.posting.air2
      ∧ (releaseReset straps supplyLow s).peer.posting.airAge = s.peer.posting.airAge
      ∧ (releaseReset straps supplyLow s).peer.posting.demand = s.peer.posting.demand
      ∧ (releaseReset straps supplyLow s).peer.posting.yielding = s.peer.posting.yielding
      ∧ (releaseReset straps supplyLow s).peer.posting.unconfigured = s.peer.posting.unconfigured
      ∧ (releaseReset straps supplyLow s).peer.posting.dupStation = s.peer.posting.dupStation
      ∧ (releaseReset straps supplyLow s).peer.posting.storeFault = s.peer.posting.storeFault
      ∧ (releaseReset straps supplyLow s).peer.posting.resetCause = s.peer.posting.resetCause
      ∧ (releaseReset straps supplyLow s).lif.buffer = s.lif.buffer
      ∧ (releaseReset straps supplyLow s).lif.decoder = s.lif.decoder
      ∧ (releaseReset straps supplyLow s).lif.replies = s.lif.replies
      ∧ (releaseReset straps supplyLow s).lif.tx = s.lif.tx
      ∧ (releaseReset straps supplyLow s).lif.counters = s.lif.counters
      ∧ (releaseReset straps supplyLow s).lif.restartLeft = s.lif.restartLeft := by
  simp [releaseReset]

@[simp] theorem takeRestart_frame (s : State) :
    (takeRestart s).pins = s.pins ∧ (takeRestart s).pending = s.pending := by
  simp [takeRestart]

@[simp] theorem imageRead_frame (image : List Byte) (s : State) :
    (imageRead image s).cyc = s.cyc ∧ (imageRead image s).peer = s.peer ∧ (imageRead image s).run = s.run
      ∧ (imageRead image s).leak = s.leak ∧ (imageRead image s).dev = s.dev ∧ (imageRead image s).store = s.store
      ∧ (imageRead image s).lif = s.lif ∧ (imageRead image s).supplyWarning = s.supplyWarning
      ∧ (imageRead image s).pins = s.pins ∧ (imageRead image s).clock = s.clock
      ∧ (imageRead image s).draws = s.draws ∧ (imageRead image s).pending = s.pending
      ∧ (imageRead image s).lsn.state = s.lsn.state ∧ (imageRead image s).lsn.claimAge = s.lsn.claimAge
      ∧ (imageRead image s).lsn.settle = s.lsn.settle ∧ (imageRead image s).sca.pending = s.sca.pending
      ∧ (imageRead image s).sca.pendingFlag = s.sca.pendingFlag := by
  refine ⟨rfl, rfl, rfl, rfl, rfl, rfl, rfl, rfl, rfl, rfl, rfl, rfl, rfl, rfl, rfl, rfl, rfl⟩

end Sys2Proof.Machine
end

