-- ==== Sys2Proof/Laws/LineBus.lean ====
section
/-! SUPPORT. What each operation of the line interface and the timebase leaves as it is. -/
namespace Sys2Proof.Machine

@[simp] theorem seeInputs_frame (s : State) :
    (seeInputs s).cyc = s.cyc ∧ (seeInputs s).peer = s.peer ∧ (seeInputs s).run = s.run
      ∧ (seeInputs s).lsn = s.lsn ∧ (seeInputs s).vib = s.vib ∧ (seeInputs s).sca = s.sca
      ∧ (seeInputs s).leak = s.leak ∧ (seeInputs s).dev = s.dev ∧ (seeInputs s).store = s.store
      ∧ (seeInputs s).lif = s.lif ∧ (seeInputs s).cfg = s.cfg ∧ (seeInputs s).boot = s.boot
      ∧ (seeInputs s).supplyWarning = s.supplyWarning ∧ (seeInputs s).clock = s.clock
      ∧ (seeInputs s).pending = s.pending
      ∧ (seeInputs s).draws = s.draws + 1 ∧ (seeInputs s).pins.supplyLow = s.pins.supplyLow := by
  refine ⟨rfl, rfl, rfl, rfl, rfl, rfl, rfl, rfl, rfl, rfl, rfl, rfl, rfl, rfl, rfl, rfl, rfl⟩

@[simp] theorem setBusIdle_frame (b : Bool) (s : State) :
    (setBusIdle b s).cyc = s.cyc ∧ (setBusIdle b s).peer = s.peer ∧ (setBusIdle b s).run = s.run
      ∧ (setBusIdle b s).lsn = s.lsn ∧ (setBusIdle b s).vib = s.vib ∧ (setBusIdle b s).sca = s.sca
      ∧ (setBusIdle b s).leak = s.leak ∧ (setBusIdle b s).dev = s.dev ∧ (setBusIdle b s).store = s.store
      ∧ (setBusIdle b s).cfg = s.cfg ∧ (setBusIdle b s).boot = s.boot
      ∧ (setBusIdle b s).supplyWarning = s.supplyWarning ∧ (setBusIdle b s).pins = s.pins
      ∧ (setBusIdle b s).clock = s.clock ∧ (setBusIdle b s).draws = s.draws
      ∧ (setBusIdle b s).pending = s.pending ∧ (setBusIdle b s).lif.classifier = s.lif.classifier
      ∧ (setBusIdle b s).lif.buffer = s.lif.buffer ∧ (setBusIdle b s).lif.decoder = s.lif.decoder
      ∧ (setBusIdle b s).lif.replies = s.lif.replies ∧ (setBusIdle b s).lif.tx = s.lif.tx
      ∧ (setBusIdle b s).lif.counters = s.lif.counters ∧ (setBusIdle b s).lif.restartLeft = s.lif.restartLeft
      ∧ (setBusIdle b s).lif.busIdle = b := by
  refine ⟨rfl, rfl, rfl, rfl, rfl, rfl, rfl, rfl, rfl, rfl, rfl, rfl, rfl, rfl, rfl, rfl, rfl, rfl, rfl, rfl, rfl, rfl, rfl, rfl⟩

@[simp] theorem queueReply_frame (r : Reply) (s : State) :
    (queueReply r s).cyc = s.cyc ∧ (queueReply r s).peer = s.peer ∧ (queueReply r s).run = s.run
      ∧ (queueReply r s).lsn = s.lsn ∧ (queueReply r s).vib = s.vib ∧ (queueReply r s).sca = s.sca
      ∧ (queueReply r s).leak = s.leak ∧ (queueReply r s).dev = s.dev ∧ (queueReply r s).store = s.store
      ∧ (queueReply r s).cfg = s.cfg ∧ (queueReply r s).boot = s.boot
      ∧ (queueReply r s).supplyWarning = s.supplyWarning ∧ (queueReply r s).pins = s.pins
      ∧ (queueReply r s).clock = s.clock ∧ (queueReply r s).draws = s.draws ∧ (queueReply r s).pending = s.pending
      ∧ (queueReply r s).lif.classifier = s.lif.classifier ∧ (queueReply r s).lif.buffer = s.lif.buffer
      ∧ (queueReply r s).lif.decoder = s.lif.decoder ∧ (queueReply r s).lif.tx = s.lif.tx
      ∧ (queueReply r s).lif.counters = s.lif.counters ∧ (queueReply r s).lif.restartLeft = s.lif.restartLeft := by
  refine ⟨rfl, rfl, rfl, rfl, rfl, rfl, rfl, rfl, rfl, rfl, rfl, rfl, rfl, rfl, rfl, rfl, rfl, rfl, rfl, rfl, rfl, rfl⟩

@[simp] theorem loadPhases_frame (codes : List Nat) (s : State) :
    (loadPhases codes s).cyc = s.cyc ∧ (loadPhases codes s).peer = s.peer ∧ (loadPhases codes s).run = s.run
      ∧ (loadPhases codes s).lsn = s.lsn ∧ (loadPhases codes s).vib = s.vib ∧ (loadPhases codes s).leak = s.leak
      ∧ (loadPhases codes s).dev = s.dev ∧ (loadPhases codes s).store = s.store ∧ (loadPhases codes s).lif = s.lif
      ∧ (loadPhases codes s).cfg = s.cfg ∧ (loadPhases codes s).boot = s.boot
      ∧ (loadPhases codes s).supplyWarning = s.supplyWarning ∧ (loadPhases codes s).pins = s.pins
      ∧ (loadPhases codes s).clock = s.clock ∧ (loadPhases codes s).draws = s.draws
      ∧ (loadPhases codes s).pending = s.pending ∧ (loadPhases codes s).sca.active = s.sca.active
      ∧ (loadPhases codes s).sca.pointer = s.sca.pointer ∧ (loadPhases codes s).sca.rota = s.sca.rota := by
  refine ⟨rfl, rfl, rfl, rfl, rfl, rfl, rfl, rfl, rfl, rfl, rfl, rfl, rfl, rfl, rfl, rfl, rfl, rfl, rfl⟩

@[simp] theorem ownPhases_frame (body : List Byte) (s : State) :
    (ownPhases body s).cyc = s.cyc ∧ (ownPhases body s).peer = s.peer ∧ (ownPhases body s).run = s.run
      ∧ (ownPhases body s).lsn = s.lsn ∧ (ownPhases body s).vib = s.vib ∧ (ownPhases body s).leak = s.leak
      ∧ (ownPhases body s).dev = s.dev ∧ (ownPhases body s).store = s.store ∧ (ownPhases body s).cfg = s.cfg
      ∧ (ownPhases body s).boot = s.boot ∧ (ownPhases body s).supplyWarning = s.supplyWarning
      ∧ (ownPhases body s).pins = s.pins ∧ (ownPhases body s).clock = s.clock ∧ (ownPhases body s).draws = s.draws
      ∧ (ownPhases body s).pending = s.pending ∧ (ownPhases body s).lif.classifier = s.lif.classifier
      ∧ (ownPhases body s).lif.buffer = s.lif.buffer ∧ (ownPhases body s).lif.decoder = s.lif.decoder
      ∧ (ownPhases body s).lif.tx = s.lif.tx ∧ (ownPhases body s).lif.counters = s.lif.counters
      ∧ (ownPhases body s).lif.restartLeft = s.lif.restartLeft ∧ (ownPhases body s).sca.active = s.sca.active
      ∧ (ownPhases body s).sca.pointer = s.sca.pointer ∧ (ownPhases body s).sca.rota = s.sca.rota := by
  unfold ownPhases
  (repeat' split) <;> simp

@[simp] theorem ownRead_frame (order : Byte) (r : StoreRead) (s : State) :
    (ownRead order r s).cyc = s.cyc ∧ (ownRead order r s).peer = s.peer ∧ (ownRead order r s).run = s.run
      ∧ (ownRead order r s).lsn = s.lsn ∧ (ownRead order r s).vib = s.vib ∧ (ownRead order r s).sca = s.sca
      ∧ (ownRead order r s).leak = s.leak ∧ (ownRead order r s).dev = s.dev ∧ (ownRead order r s).store = s.store
      ∧ (ownRead order r s).cfg = s.cfg ∧ (ownRead order r s).boot = s.boot
      ∧ (ownRead order r s).supplyWarning = s.supplyWarning ∧ (ownRead order r s).pins = s.pins
      ∧ (ownRead order r s).clock = s.clock ∧ (ownRead order r s).draws = s.draws
      ∧ (ownRead order r s).pending = s.pending := by
  unfold ownRead
  (repeat' split) <;> simp

@[simp] theorem ownRestart_frame (broadcast : Bool) (s : State) :
    (ownRestart broadcast s).pins = s.pins ∧ (ownRestart broadcast s).pending = s.pending := by
  unfold ownRestart
  (repeat' split) <;> simp

@[simp] theorem popBuffer_frame (s : State) :
    (popBuffer s).cyc = s.cyc ∧ (popBuffer s).peer = s.peer ∧ (popBuffer s).run = s.run ∧ (popBuffer s).lsn = s.lsn
      ∧ (popBuffer s).vib = s.vib ∧ (popBuffer s).sca = s.sca ∧ (popBuffer s).leak = s.leak
      ∧ (popBuffer s).dev = s.dev ∧ (popBuffer s).store = s.store ∧ (popBuffer s).cfg = s.cfg
      ∧ (popBuffer s).boot = s.boot ∧ (popBuffer s).supplyWarning = s.supplyWarning ∧ (popBuffer s).pins = s.pins
      ∧ (popBuffer s).clock = s.clock ∧ (popBuffer s).draws = s.draws ∧ (popBuffer s).pending = s.pending
      ∧ (popBuffer s).lif.classifier = s.lif.classifier ∧ (popBuffer s).lif.decoder = s.lif.decoder
      ∧ (popBuffer s).lif.replies = s.lif.replies ∧ (popBuffer s).lif.tx = s.lif.tx
      ∧ (popBuffer s).lif.counters = s.lif.counters ∧ (popBuffer s).lif.restartLeft = s.lif.restartLeft := by
  refine ⟨rfl, rfl, rfl, rfl, rfl, rfl, rfl, rfl, rfl, rfl, rfl, rfl, rfl, rfl, rfl, rfl, rfl, rfl, rfl, rfl, rfl, rfl⟩

@[simp] theorem setClassifier_frame (c : Classifier) (s : State) :
    (setClassifier c s).cyc = s.cyc ∧ (setClassifier c s).peer = s.peer ∧ (setClassifier c s).run = s.run
      ∧ (setClassifier c s).lsn = s.lsn ∧ (setClassifier c s).vib = s.vib ∧ (setClassifier c s).sca = s.sca
      ∧ (setClassifier c s).leak = s.leak ∧ (setClassifier c s).dev = s.dev ∧ (setClassifier c s).store = s.store
      ∧ (setClassifier c s).cfg = s.cfg ∧ (setClassifier c s).boot = s.boot
      ∧ (setClassifier c s).supplyWarning = s.supplyWarning ∧ (setClassifier c s).pins = s.pins
      ∧ (setClassifier c s).clock = s.clock ∧ (setClassifier c s).draws = s.draws
      ∧ (setClassifier c s).pending = s.pending ∧ (setClassifier c s).lif.buffer = s.lif.buffer
      ∧ (setClassifier c s).lif.decoder = s.lif.decoder ∧ (setClassifier c s).lif.replies = s.lif.replies
      ∧ (setClassifier c s).lif.tx = s.lif.tx ∧ (setClassifier c s).lif.counters = s.lif.counters
      ∧ (setClassifier c s).lif.restartLeft = s.lif.restartLeft := by
  refine ⟨rfl, rfl, rfl, rfl, rfl, rfl, rfl, rfl, rfl, rfl, rfl, rfl, rfl, rfl, rfl, rfl, rfl, rfl, rfl, rfl, rfl, rfl⟩

@[simp] theorem pulseError_frame (s : State) :
    (pulseError s).cyc = s.cyc ∧ (pulseError s).peer = s.peer ∧ (pulseError s).run = s.run
      ∧ (pulseError s).lsn = s.lsn ∧ (pulseError s).vib = s.vib ∧ (pulseError s).sca = s.sca
      ∧ (pulseError s).leak = s.leak ∧ (pulseError s).dev = s.dev ∧ (pulseError s).store = s.store
      ∧ (pulseError s).cfg = s.cfg ∧ (pulseError s).boot = s.boot ∧ (pulseError s).supplyWarning = s.supplyWarning
      ∧ (pulseError s).pins = s.pins ∧ (pulseError s).clock = s.clock ∧ (pulseError s).draws = s.draws
      ∧ (pulseError s).pending = s.pending ∧ (pulseError s).lif.buffer = s.lif.buffer
      ∧ (pulseError s).lif.decoder = s.lif.decoder ∧ (pulseError s).lif.replies = s.lif.replies
      ∧ (pulseError s).lif.tx = s.lif.tx ∧ (pulseError s).lif.restartLeft = s.lif.restartLeft := by
  refine ⟨rfl, rfl, rfl, rfl, rfl, rfl, rfl, rfl, rfl, rfl, rfl, rfl, rfl, rfl, rfl, rfl, rfl, rfl, rfl, rfl, rfl⟩

@[simp] theorem lengthError_frame (s : State) :
    (lengthError s).cyc = s.cyc ∧ (lengthError s).peer = s.peer ∧ (lengthError s).run = s.run
      ∧ (lengthError s).lsn = s.lsn ∧ (lengthError s).vib = s.vib ∧ (lengthError s).sca = s.sca
      ∧ (lengthError s).leak = s.leak ∧ (lengthError s).dev = s.dev ∧ (lengthError s).store = s.store
      ∧ (lengthError s).cfg = s.cfg ∧ (lengthError s).boot = s.boot
      ∧ (lengthError s).supplyWarning = s.supplyWarning ∧ (lengthError s).pins = s.pins
      ∧ (lengthError s).clock = s.clock ∧ (lengthError s).draws = s.draws ∧ (lengthError s).pending = s.pending
      ∧ (lengthError s).lif.buffer = s.lif.buffer ∧ (lengthError s).lif.decoder = s.lif.decoder
      ∧ (lengthError s).lif.replies = s.lif.replies ∧ (lengthError s).lif.tx = s.lif.tx
      ∧ (lengthError s).lif.restartLeft = s.lif.restartLeft := by
  refine ⟨rfl, rfl, rfl, rfl, rfl, rfl, rfl, rfl, rfl, rfl, rfl, rfl, rfl, rfl, rfl, rfl, rfl, rfl, rfl, rfl, rfl⟩

@[simp] theorem crcError_frame (s : State) :
    (crcError s).cyc = s.cyc ∧ (crcError s).peer = s.peer ∧ (crcError s).run = s.run ∧ (crcError s).lsn = s.lsn
      ∧ (crcError s).vib = s.vib ∧ (crcError s).sca = s.sca ∧ (crcError s).leak = s.leak ∧ (crcError s).dev = s.dev
      ∧ (crcError s).store = s.store ∧ (crcError s).cfg = s.cfg ∧ (crcError s).boot = s.boot
      ∧ (crcError s).supplyWarning = s.supplyWarning ∧ (crcError s).pins = s.pins ∧ (crcError s).clock = s.clock
      ∧ (crcError s).draws = s.draws ∧ (crcError s).pending = s.pending ∧ (crcError s).lif.buffer = s.lif.buffer
      ∧ (crcError s).lif.decoder = s.lif.decoder ∧ (crcError s).lif.replies = s.lif.replies
      ∧ (crcError s).lif.tx = s.lif.tx ∧ (crcError s).lif.restartLeft = s.lif.restartLeft := by
  refine ⟨rfl, rfl, rfl, rfl, rfl, rfl, rfl, rfl, rfl, rfl, rfl, rfl, rfl, rfl, rfl, rfl, rfl, rfl, rfl, rfl, rfl⟩

@[simp] theorem bitTaken_frame (b : Bool) (p : RxProgress) (s : State) :
    (bitTaken b p s).cyc = s.cyc ∧ (bitTaken b p s).peer = s.peer ∧ (bitTaken b p s).run = s.run
      ∧ (bitTaken b p s).lsn = s.lsn ∧ (bitTaken b p s).vib = s.vib ∧ (bitTaken b p s).sca = s.sca
      ∧ (bitTaken b p s).leak = s.leak ∧ (bitTaken b p s).dev = s.dev ∧ (bitTaken b p s).store = s.store
      ∧ (bitTaken b p s).cfg = s.cfg ∧ (bitTaken b p s).boot = s.boot
      ∧ (bitTaken b p s).supplyWarning = s.supplyWarning ∧ (bitTaken b p s).pins = s.pins
      ∧ (bitTaken b p s).clock = s.clock ∧ (bitTaken b p s).draws = s.draws ∧ (bitTaken b p s).pending = s.pending
      ∧ (bitTaken b p s).lif.buffer = s.lif.buffer ∧ (bitTaken b p s).lif.decoder = s.lif.decoder
      ∧ (bitTaken b p s).lif.replies = s.lif.replies ∧ (bitTaken b p s).lif.tx = s.lif.tx
      ∧ (bitTaken b p s).lif.restartLeft = s.lif.restartLeft := by
  unfold bitTaken
  (repeat' split) <;> simp

@[simp] theorem takePulse_frame (c : PulseClass) (s : State) :
    (takePulse c s).cyc = s.cyc ∧ (takePulse c s).peer = s.peer ∧ (takePulse c s).run = s.run
      ∧ (takePulse c s).lsn = s.lsn ∧ (takePulse c s).vib = s.vib ∧ (takePulse c s).sca = s.sca
      ∧ (takePulse c s).leak = s.leak ∧ (takePulse c s).dev = s.dev ∧ (takePulse c s).store = s.store
      ∧ (takePulse c s).cfg = s.cfg ∧ (takePulse c s).boot = s.boot
      ∧ (takePulse c s).supplyWarning = s.supplyWarning ∧ (takePulse c s).pins = s.pins
      ∧ (takePulse c s).clock = s.clock ∧ (takePulse c s).draws = s.draws ∧ (takePulse c s).pending = s.pending
      ∧ (takePulse c s).lif.buffer = s.lif.buffer ∧ (takePulse c s).lif.decoder = s.lif.decoder
      ∧ (takePulse c s).lif.replies = s.lif.replies ∧ (takePulse c s).lif.tx = s.lif.tx
      ∧ (takePulse c s).lif.restartLeft = s.lif.restartLeft := by
  unfold takePulse classifyPulse
  (repeat' split) <;> simp

@[simp] theorem busIdle_frame (s : State) :
    (busIdle s).cyc = s.cyc ∧ (busIdle s).peer = s.peer ∧ (busIdle s).run = s.run ∧ (busIdle s).lsn = s.lsn
      ∧ (busIdle s).vib = s.vib ∧ (busIdle s).sca = s.sca ∧ (busIdle s).leak = s.leak ∧ (busIdle s).dev = s.dev
      ∧ (busIdle s).store = s.store ∧ (busIdle s).cfg = s.cfg ∧ (busIdle s).boot = s.boot
      ∧ (busIdle s).supplyWarning = s.supplyWarning ∧ (busIdle s).pins = s.pins ∧ (busIdle s).clock = s.clock
      ∧ (busIdle s).draws = s.draws ∧ (busIdle s).pending = s.pending ∧ (busIdle s).lif.buffer = s.lif.buffer
      ∧ (busIdle s).lif.decoder = s.lif.decoder ∧ (busIdle s).lif.replies = s.lif.replies
      ∧ (busIdle s).lif.tx = s.lif.tx ∧ (busIdle s).lif.counters = s.lif.counters
      ∧ (busIdle s).lif.restartLeft = s.lif.restartLeft := by
  unfold busIdle
  (repeat' split) <;> simp

@[simp] theorem attempt_frame (s : State) :
    (attempt s).cyc = s.cyc ∧ (attempt s).peer = s.peer ∧ (attempt s).run = s.run ∧ (attempt s).lsn = s.lsn
      ∧ (attempt s).vib = s.vib ∧ (attempt s).sca = s.sca ∧ (attempt s).leak = s.leak ∧ (attempt s).dev = s.dev
      ∧ (attempt s).store = s.store ∧ (attempt s).cfg = s.cfg ∧ (attempt s).boot = s.boot
      ∧ (attempt s).supplyWarning = s.supplyWarning ∧ (attempt s).pins = s.pins ∧ (attempt s).clock = s.clock
      ∧ (attempt s).draws = s.draws ∧ (attempt s).pending = s.pending
      ∧ (attempt s).lif.classifier = s.lif.classifier ∧ (attempt s).lif.buffer = s.lif.buffer
      ∧ (attempt s).lif.decoder = s.lif.decoder ∧ (attempt s).lif.replies = s.lif.replies
      ∧ (attempt s).lif.counters = s.lif.counters ∧ (attempt s).lif.restartLeft = s.lif.restartLeft := by
  unfold attempt
  (repeat' split) <;> simp

@[simp] theorem sendFrame_frame (c : TxChoice) (f : Frame) (s : State) :
    (sendFrame c f s).cyc = s.cyc ∧ (sendFrame c f s).peer = s.peer ∧ (sendFrame c f s).run = s.run
      ∧ (sendFrame c f s).lsn = s.lsn ∧ (sendFrame c f s).vib = s.vib ∧ (sendFrame c f s).sca = s.sca
      ∧ (sendFrame c f s).leak = s.leak ∧ (sendFrame c f s).dev = s.dev ∧ (sendFrame c f s).store = s.store
      ∧ (sendFrame c f s).cfg = s.cfg ∧ (sendFrame c f s).boot = s.boot
      ∧ (sendFrame c f s).supplyWarning = s.supplyWarning ∧ (sendFrame c f s).pins = s.pins
      ∧ (sendFrame c f s).clock = s.clock ∧ (sendFrame c f s).draws = s.draws
      ∧ (sendFrame c f s).pending = s.pending ∧ (sendFrame c f s).lif.buffer = s.lif.buffer
      ∧ (sendFrame c f s).lif.decoder = s.lif.decoder ∧ (sendFrame c f s).lif.replies = s.lif.replies
      ∧ (sendFrame c f s).lif.counters = s.lif.counters ∧ (sendFrame c f s).lif.restartLeft = s.lif.restartLeft := by
  refine ⟨rfl, rfl, rfl, rfl, rfl, rfl, rfl, rfl, rfl, rfl, rfl, rfl, rfl, rfl, rfl, rfl, rfl, rfl, rfl, rfl, rfl⟩

@[simp] theorem composeFull_frame (s : State) :
    (composeFull s).cyc = s.cyc ∧ (composeFull s).run = s.run ∧ (composeFull s).lsn = s.lsn
      ∧ (composeFull s).vib = s.vib ∧ (composeFull s).sca = s.sca ∧ (composeFull s).leak = s.leak
      ∧ (composeFull s).dev = s.dev ∧ (composeFull s).store = s.store ∧ (composeFull s).lif = s.lif
      ∧ (composeFull s).cfg = s.cfg ∧ (composeFull s).boot = s.boot
      ∧ (composeFull s).supplyWarning = s.supplyWarning ∧ (composeFull s).pins = s.pins
      ∧ (composeFull s).clock = s.clock ∧ (composeFull s).draws = s.draws ∧ (composeFull s).pending = s.pending
      ∧ (composeFull s).peer.posting = s.peer.posting ∧ (composeFull s).peer.table = s.peer.table
      ∧ (composeFull s).peer.repeats = s.peer.repeats ∧ (composeFull s).peer.dupCount = s.peer.dupCount
      ∧ (composeFull s).peer.period = s.peer.period ∧ (composeFull s).peer.periodLeft = s.peer.periodLeft := by
  refine ⟨rfl, rfl, rfl, rfl, rfl, rfl, rfl, rfl, rfl, rfl, rfl, rfl, rfl, rfl, rfl, rfl, rfl, rfl, rfl, rfl, rfl, rfl⟩

@[simp] theorem won_frame (s : State) :
    (won s).cyc = s.cyc ∧ (won s).run = s.run ∧ (won s).lsn = s.lsn ∧ (won s).vib = s.vib ∧ (won s).sca = s.sca
      ∧ (won s).leak = s.leak ∧ (won s).dev = s.dev ∧ (won s).store = s.store ∧ (won s).cfg = s.cfg
      ∧ (won s).boot = s.boot ∧ (won s).supplyWarning = s.supplyWarning ∧ (won s).pins = s.pins
      ∧ (won s).clock = s.clock ∧ (won s).draws = s.draws ∧ (won s).pending = s.pending
      ∧ (won s).lif.buffer = s.lif.buffer ∧ (won s).lif.decoder = s.lif.decoder
      ∧ (won s).lif.replies = s.lif.replies ∧ (won s).lif.counters = s.lif.counters
      ∧ (won s).lif.restartLeft = s.lif.restartLeft := by
  unfold won
  (repeat' split) <;> simp

@[simp] theorem lost_frame (s : State) :
    (lost s).cyc = s.cyc ∧ (lost s).peer = s.peer ∧ (lost s).run = s.run ∧ (lost s).lsn = s.lsn
      ∧ (lost s).vib = s.vib ∧ (lost s).sca = s.sca ∧ (lost s).leak = s.leak ∧ (lost s).dev = s.dev
      ∧ (lost s).store = s.store ∧ (lost s).cfg = s.cfg ∧ (lost s).boot = s.boot
      ∧ (lost s).supplyWarning = s.supplyWarning ∧ (lost s).pins = s.pins ∧ (lost s).clock = s.clock
      ∧ (lost s).draws = s.draws ∧ (lost s).pending = s.pending ∧ (lost s).lif.classifier = s.lif.classifier
      ∧ (lost s).lif.buffer = s.lif.buffer ∧ (lost s).lif.decoder = s.lif.decoder
      ∧ (lost s).lif.replies = s.lif.replies ∧ (lost s).lif.restartLeft = s.lif.restartLeft := by
  unfold lost
  (repeat' split) <;> simp

@[simp] theorem chooseAgain_frame (s : State) :
    (chooseAgain s).cyc = s.cyc ∧ (chooseAgain s).peer = s.peer ∧ (chooseAgain s).run = s.run
      ∧ (chooseAgain s).lsn = s.lsn ∧ (chooseAgain s).vib = s.vib ∧ (chooseAgain s).sca = s.sca
      ∧ (chooseAgain s).leak = s.leak ∧ (chooseAgain s).dev = s.dev ∧ (chooseAgain s).store = s.store
      ∧ (chooseAgain s).cfg = s.cfg ∧ (chooseAgain s).boot = s.boot
      ∧ (chooseAgain s).supplyWarning = s.supplyWarning ∧ (chooseAgain s).pins = s.pins
      ∧ (chooseAgain s).clock = s.clock ∧ (chooseAgain s).draws = s.draws ∧ (chooseAgain s).pending = s.pending
      ∧ (chooseAgain s).lif.classifier = s.lif.classifier ∧ (chooseAgain s).lif.buffer = s.lif.buffer
      ∧ (chooseAgain s).lif.decoder = s.lif.decoder ∧ (chooseAgain s).lif.replies = s.lif.replies
      ∧ (chooseAgain s).lif.counters = s.lif.counters ∧ (chooseAgain s).lif.restartLeft = s.lif.restartLeft := by
  unfold chooseAgain
  (repeat' split) <;> simp

@[simp] theorem replySent_frame (s : State) :
    (replySent s).pins.supplyLow = s.pins.supplyLow ∧ (replySent s).pending = s.pending := by
  unfold replySent
  (repeat' split) <;> simp

@[simp] theorem sent_frame (s : State) :
    (sent s).pins.supplyLow = s.pins.supplyLow ∧ (sent s).pending = s.pending := by
  unfold sent
  (repeat' split) <;> simp

@[simp] theorem tickTimers_frame (s : State) :
    (tickTimers s).vib = s.vib ∧ (tickTimers s).dev = s.dev ∧ (tickTimers s).store = s.store
      ∧ (tickTimers s).cfg = s.cfg ∧ (tickTimers s).boot = s.boot ∧ (tickTimers s).supplyWarning = s.supplyWarning
      ∧ (tickTimers s).pins = s.pins ∧ (tickTimers s).draws = s.draws ∧ (tickTimers s).pending = s.pending
      ∧ (tickTimers s).cyc.station = s.cyc.station ∧ (tickTimers s).cyc.record = s.cyc.record
      ∧ (tickTimers s).cyc.programme = s.cyc.programme ∧ (tickTimers s).cyc.formed = s.cyc.formed
      ∧ (tickTimers s).peer.posting = s.peer.posting ∧ (tickTimers s).peer.table = s.peer.table
      ∧ (tickTimers s).peer.lastFull = s.peer.lastFull ∧ (tickTimers s).peer.due = s.peer.due
      ∧ (tickTimers s).peer.repeats = s.peer.repeats ∧ (tickTimers s).peer.dupCount = s.peer.dupCount
      ∧ (tickTimers s).peer.period = s.peer.period ∧ (tickTimers s).run.state = s.run.state
      ∧ (tickTimers s).run.seg = s.run.seg ∧ (tickTimers s).run.stage = s.run.stage
      ∧ (tickTimers s).run.cmd = s.run.cmd ∧ (tickTimers s).run.dir = s.run.dir
      ∧ (tickTimers s).run.measured = s.run.measured ∧ (tickTimers s).run.holds = s.run.holds
      ∧ (tickTimers s).run.torque = s.run.torque ∧ (tickTimers s).run.oilCode = s.run.oilCode
      ∧ (tickTimers s).run.leakTold = s.run.leakTold ∧ (tickTimers s).run.endReason = s.run.endReason
      ∧ (tickTimers s).leak.armed = s.leak.armed ∧ (tickTimers s).lif.classifier = s.lif.classifier
      ∧ (tickTimers s).lif.buffer = s.lif.buffer ∧ (tickTimers s).lif.decoder = s.lif.decoder
      ∧ (tickTimers s).lif.replies = s.lif.replies ∧ (tickTimers s).lif.tx = s.lif.tx
      ∧ (tickTimers s).lif.counters = s.lif.counters ∧ (tickTimers s).sca.active = s.sca.active
      ∧ (tickTimers s).sca.pending = s.sca.pending ∧ (tickTimers s).sca.pendingFlag = s.sca.pendingFlag
      ∧ (tickTimers s).sca.pointer = s.sca.pointer ∧ (tickTimers s).sca.rota = s.sca.rota := by
  refine ⟨rfl, rfl, rfl, rfl, rfl, rfl, rfl, rfl, rfl, rfl, rfl, rfl, rfl, rfl, rfl, rfl, rfl, rfl, rfl, rfl, rfl, rfl, rfl, rfl, rfl, rfl, rfl, rfl, rfl, rfl, rfl, rfl, rfl, rfl, rfl, rfl, rfl, rfl, rfl, rfl, rfl, rfl, rfl⟩

end Sys2Proof.Machine
end

