-- ==== Sys2Proof/Laws/Updates.lean ====
section
/-! SUPPORT. What each update of a block's state does to the block it updates, and what the shared operations over commands and
deviation events can do. -/
namespace Sys2Proof.Machine

@[simp] theorem withRun_run (f : Run → Run) (s : State) : (withRun f s).run = f s.run := rfl
@[simp] theorem withLsn_lsn (f : Lsn → Lsn) (s : State) : (withLsn f s).lsn = f s.lsn := rfl
@[simp] theorem withVib_vib (f : Vib → Vib) (s : State) : (withVib f s).vib = f s.vib := rfl
@[simp] theorem withSca_sca (f : Sca → Sca) (s : State) : (withSca f s).sca = f s.sca := rfl
@[simp] theorem withPeer_peer (f : Peer → Peer) (s : State) : (withPeer f s).peer = f s.peer := rfl
@[simp] theorem withLif_lif (f : Lif → Lif) (s : State) : (withLif f s).lif = f s.lif := rfl
@[simp] theorem withTx_tx (t : Tx) (s : State) : (withTx t s).lif.tx = t := rfl
@[simp] theorem withCounters_counters (f : LineCounters → LineCounters) (s : State) :
    (withCounters f s).lif.counters = f s.lif.counters := rfl
@[simp] theorem queueReply_replies (r : Reply) (s : State) : (queueReply r s).lif.replies = s.lif.replies ++ [r] := rfl
@[simp] theorem setClassifier_classifier (c : Classifier) (s : State) : (setClassifier c s).lif.classifier = c := rfl
@[simp] theorem writePosting_posting (f : Posting → Posting) (s : State) :
    (writePosting f s).peer.posting = f s.peer.posting := rfl
@[simp] theorem writePosting_latch (f : Posting → Posting) (s : State) :
    (writePosting f s).peer.latch = (s.peer.latch || eventChange s.peer.posting (f s.peer.posting)) := rfl
@[simp] theorem setStation_station (st : StationState) (s : State) : (setStation st s).cyc.station = st := rfl
@[simp] theorem setStation_cycleState (st : StationState) (s : State) :
    (setStation st s).peer.posting.cycleState = st := rfl
@[simp] theorem writeRecord_record (f : OpenRecord → OpenRecord) (s : State) :
    (writeRecord f s).cyc.record = s.cyc.record.map f := rfl
@[simp] theorem leak_set_same (k : Leak) (c : CircuitId) (x : Circuit) : (k.set c x).circuit c = x := by
  cases c <;> rfl
@[simp] theorem leak_set_other (k : Leak) (c d : CircuitId) (x : Circuit) (h : d ≠ c) :
    (k.set c x).circuit d = k.circuit d := by
  cases c <;> cases d <;> first | rfl | exact absurd rfl h
@[simp] theorem withCircuit_same (c : CircuitId) (f : Circuit → Circuit) (s : State) :
    circuitOf (withCircuit c f s) c = f (circuitOf s c) := leak_set_same s.leak c _
@[simp] theorem withCircuit_other (c d : CircuitId) (f : Circuit → Circuit) (s : State) (h : d ≠ c) :
    circuitOf (withCircuit c f s) d = circuitOf s d := leak_set_other s.leak c d _ h

/-- A command taken by a station that is not held in reset. -/
theorem whenReleased_running {f : State → State} {s : State} (h : s.boot ≠ .held) :
    whenReleased f s = .next (leaveIdle (f s)) := if_neg h

/-- A command met by a station that is held in reset. -/
theorem whenReleased_held {f : State → State} {s : State} (h : s.boot = .held) : whenReleased f s = .next s := if_pos h

/-- All that `whenReleased` can do. -/
theorem whenReleased_cases (f : State → State) (s : State) :
    (s.boot = .held ∧ whenReleased f s = .next s) ∨ (s.boot ≠ .held ∧ whenReleased f s = .next (leaveIdle (f s))) := by
  by_cases h : s.boot = .held
  · exact .inl ⟨h, whenReleased_held h⟩
  · exact .inr ⟨h, whenReleased_running h⟩

/-- All that `leaveIdle` can do: nothing, or the choice of an idle transmitter that waits from now on. -/
theorem leaveIdle_cases (s : State) :
    leaveIdle s = s
      ∨ ∃ c, s.lif.tx.state = .idle ∧ chooseTx s = some c ∧ leaveIdle s = withTx ⟨.waiting, some c, false, s.lif.tx.frame⟩ s := by
  unfold leaveIdle
  split
  · rename_i h
    cases hc : chooseTx s with
    | none => exact .inl rfl
    | some c => exact .inr ⟨c, h, rfl, rfl⟩
  · exact .inl rfl

/-- All that `takeDev` can do: it changes DEV's state alone, and that in TESTING and ABORTING alone. -/
theorem takeDev_cases (e : DevEvent) (s : State) :
    (inCycle s.cyc.station = false ∧ takeDev e s = s)
      ∨ (inCycle s.cyc.station = true ∧ ∃ d, takeDev e s = { s with dev := d }
          ∧ (d = devMasked e.cls s.dev ∨ d = devUnmasked e (cycleTime s) (severityOf s e.cls) s.dev)) := by
  unfold takeDev
  cases inCycle s.cyc.station with
  | false => exact .inl ⟨rfl, rfl⟩
  | true =>
    refine .inr ⟨rfl, _, rfl, ?_⟩
    split
    · exact .inl rfl
    · exact .inr rfl

end Sys2Proof.Machine
end

