-- ==== Sys2Proof/Tests/Slice0.lean ====
section
/-! SUPPORT. Tests. First the checks of well-formedness, then values that the manual's worked cases state, then one small test per
family of commands, and last the witnesses: for each statement with premises, states and operands that meet them, at a
boundary value where a clause ranges over values. Expected values are the manual's, by the rule or worked case that each
test names. -/
namespace Sys2Proof.Tests
open Sys2Proof Sys2Proof.Machine

-- One theorem at a time: each evaluation would else hold a thread of its own, with its stack.
set_option Elab.async false

/-! ## Well-formedness: each check refuses an ill-formed term -/

theorem test_wf_destination : wellFormed (.abort 17 []) = false := by decide +kernel
theorem test_wf_broadcast : wellFormed (.abort destAll []) = true := by decide +kernel
theorem test_wf_body_too_long : wellFormed (.phases 5 (List.replicate 160 0)) = false := by decide +kernel
theorem test_wf_body_longest : wellFormed (.phases 5 (List.replicate 159 0)) = true := by decide +kernel
theorem test_wf_posting_length : wellFormed (.fullPostingReceived true false 3 (List.replicate 15 0)) = false := by
  decide +kernel
theorem test_wf_image_length : wellFormed (.imageReadDone (List.replicate 4097 0)) = false := by decide +kernel
theorem test_wf_start_width : wellFormed (.startPulse 9999) = false ∧ wellFormed (.startPulse 10000) = true := by
  decide +kernel
theorem test_wf_bit_width : wellFormed (.bitPulse 3000) = false ∧ wellFormed (.bitPulse 2999) = true := by decide +kernel

/-! ## Values the manual states -/

/-- R177: the CRC of the digits 1 to 9, and that of no bytes. -/
theorem test_crc_check_value :
    crc16 [0x31, 0x32, 0x33, 0x34, 0x35, 0x36, 0x37, 0x38, 0x39] = 0x29B1 ∧ crc16 [] = 0xFFFF := by decide +kernel

/-- R175's widths, at each boundary. -/
theorem test_pulse_widths :
    classify 499 = .error ∧ classify 500 = .bit false ∧ classify 1499 = .bit false ∧ classify 1500 = .bit true
      ∧ classify 3000 = .error ∧ classify 5000 = .startRepeat ∧ classify 8000 = .error ∧ classify 10000 = .startFull
      ∧ classify 15000 = .error := by decide +kernel

/-- The circuit of the worked cases of Leak Rate Arithmetic. -/
def workedParams : CircuitParams :=
  { paramsZero with volume := 12000, measureTenths := 300, leakLimit := 500, riseTolerance := 50 }

/-- Leak Rate Arithmetic: a leaking circuit. -/
theorem test_leaking_circuit :
    judgeLeak ⟨16000, 8000, 15976, 7984⟩ workedParams = ⟨201, 595, .leakHigh, some (.leakRate, 595, 500)⟩ := by
  decide +kernel

/-- Leak Rate Arithmetic: a circuit that does not leak, and the same at a tolerance of 24 Pa. -/
theorem test_rise_within_tolerance :
    judgeLeak ⟨16000, 8000, 15992, 7984⟩ workedParams = ⟨-199, 0, .passed, none⟩
      ∧ judgeLeak ⟨16000, 8000, 15992, 7984⟩ { workedParams with riseTolerance := 24 }
        = ⟨-199, 0, .rise, some (.pressureRise, 24, 24)⟩ := by decide +kernel

/-- Leak Rate Arithmetic: a saturating circuit. -/
theorem test_saturating_circuit :
    judgeLeak ⟨32000, 8000, 16000, 8000⟩ { workedParams with volume := 60000, measureTenths := 10, leakLimit := 2000 }
      = ⟨400000, 65535, .leakHigh, some (.leakRate, 65535, 2000)⟩ := by decide +kernel

/-- Running In: the demand of 350 N·m at 2390 rpm under a cap of 120 kW. -/
theorem test_demand_of_worked_case : demandOf 350 2390 120 = 88 := by decide +kernel

/-- Noise Check: one revolution at E = 128. -/
theorem test_rms_of_worked_case : rmsOf 128 665600 = 101 := by decide +kernel

/-- The Result Store: where a record goes. -/
theorem test_slot_of_sequence :
    slotOf 1 = 0 ∧ slotOf 84 = 83 ∧ slotOf 85 = 0 ∧ slotOf 1207 = 4 * 7 + 2 ∧ slotOf 1212 = 5 * 7 := by decide +kernel

/-! ## States of the tests -/

/-- A RAMP segment to 600 rpm at 500 rpm/s. -/
def rampSeg : Segment := { segmentZero with target := 600, rate := 500, duration := 1, yieldable := true }

/-- A SWEEP segment. -/
def sweepSeg : Segment := { segmentZero with kindCode := 2, startSpeed := 100, endSpeed := 600, rate := 500, duration := 1 }

/-- A DWELL segment of 100 ms at 600 rpm. -/
def dwellSeg : Segment := { segmentZero with kindCode := 1, target := 600, rate := 500, duration := 1 }

/-- A STOP segment. -/
def stopSeg : Segment := { segmentZero with kindCode := 3, rate := 500, duration := 1 }

/-- Programme 2: a RAMP, then a SWEEP, with circuit 1 enabled. -/
def prog : Programme :=
  { programmeZero with
    definedFlag := true
    segCount := 2
    enable1 := true
    maxSpeed := 600
    abortRate := 500
    oilRiseLimit := 4
    powerWaitLimit := 1
    nmin := 1
    rmax := 1
    noiseBase := 600
    bandWidth := 100
    segments := rampSeg :: sweepSeg :: List.replicate 14 segmentZero
    params1 := { paramsZero with testPressure := 2000, grossFloor := 1900, fillMs := 100, stabiliseMs := 100, measureTenths := 10,
                                 ventMs := 100, volume := 100, leakLimit := 10, airWaitLimit := 60, drift := 3 }
    params2 := { paramsZero with testPressure := 1, fillMs := 100, stabiliseMs := 100, measureTenths := 10, ventMs := 100,
                                 volume := 1, airWaitLimit := 1 } }

/-- The station section of the tests: all stations are neighbours and share the header. -/
def section5 : StationSection :=
  { stationDefault with acousticSet := 0xFFFF, airSet := 0xFFFF, stationCap := 120, quietLimit := 500, speedLimit := 4000,
                        yieldBudget := 10, deferralMax := 10, lineBudget := 400, floorShare := 50 }

/-- Station 5 in IDLE, with the store ready and a driven, clamped axle. -/
def up : State :=
  { State.reset with
    boot := .up
    cfg := ⟨5, section5, [programmeZero, programmeZero, prog, programmeZero, programmeZero, programmeZero, programmeZero,
      programmeZero], true, 0⟩
    cyc := { cycReset with station := .idle }
    peer := { peerReset .powerOn with posting := { postingReset .powerOn with cycleState := .idle } }
    sca := scaReset builtinTable true
    leak := leakClear
    store := { storeReset [] with state := .ready, nextSeq := 1 }
    lif := { lifReset with classifier := .waitStart }
    pins := ⟨true, true, false, true, 4, false⟩ }

/-- The same station in another station state, posted. -/
def at' (st : StationState) : State :=
  { up with
    cyc := { cycReset with station := st, programme := 2 }
    peer := { up.peer with posting := { up.peer.posting with cycleState := st, programme := 2 } } }

/-- The record of an open cycle of sequence 1. -/
def rec1 : OpenRecord := openedRecord 1 2 5 prog [65] [1, 2, 3, 4]

/-- TESTING, in the first segment. -/
def testing : State :=
  { at' .testing with
    cyc := ⟨.testing, some rec1, 2, 0, .unset⟩
    peer := { up.peer with posting := { up.peer.posting with cycleState := .testing, programme := 2, openSeq := 1 } }
    run := { runReset with state := .segment, rampLeft := 20 } }

/-- TESTING, in the SWEEP segment, waiting for its quiet window. -/
def deferring : State :=
  { testing with
    run := { testing.run with seg := 1, state := .held, holds := ⟨false, false, true, false⟩ }
    lsn := { lsnReset with state := .deferring, deferralMs := 999 } }

/-- A peer's entry. -/
def peerOf (n : Nat) (f : Posting → Posting) : PeerEntry := ⟨n, f (postingReset .pin), 0, 0⟩

/-- A state with a peer table. -/
def withPeers (l : List PeerEntry) (s : State) : State := { s with peer := { s.peer with table := l } }

/-- Circuit 1 in a state. -/
def circ1 (k : Circuit) (s : State) : State := { s with leak := { s.leak with c1 := k } }

/-- The circuit of the tests in a circuit state. -/
def inState (st : CircuitState) : Circuit := (circuitClear false).enter st

/-- Sampling in LISTENING, with a revolution open. -/
def sampling (r : Rev) : State :=
  { testing with
    run := { testing.run with seg := 1, stage := .sweeping }
    lsn := { lsnReset with state := .listening }
    vib := { vibReset with state := .sampling, openRev := some r } }

/-- A state with a swap in flight. -/
def swapping (w : Swap) : State := { testing with store := { up.store with state := .swapping, swap := some w } }

/-- The swap of a FINAL at a step. -/
def swapAt (kind : CommitKind) (step : Nat) : Swap := ⟨⟨kind, 1, recordImage rec1⟩, false, 0, .a, 0, 1, step⟩

/-! ## Stores that hold one record -/

/-- The three stores of the tests: the record is PROVISIONAL, or FINAL, or PROVISIONAL under a header of the highest generation. -/
inductive Stored where
  | opened
  | ended
  | worn
  deriving DecidableEq, Repr

/-- The byte of a record's state. -/
def Stored.code : Stored → Byte
  | .opened => 1
  | .ended => 2
  | .worn => 1

/-- The generation of the page that holds it. -/
def Stored.gen : Stored → Nat
  | .opened => 1
  | .ended => 1
  | .worn => 2 ^ 32 - 2

/-- The first 76 bytes of a record of sequence 1, with a serial of one character. -/
def recordBody (v : Stored) : List Byte :=
  [0, 0, 0, 1, v.code, 5, 2, 5, 0, 1, 0, 0, 0, 0, 0, 0] ++ ([0, 0, 0, 0, 65, 0, 0, 0, 0, 0, 0, 0, 0, 0, 0, 0]
    ++ (List.replicate 16 0 ++ (List.replicate 16 0 ++ List.replicate 12 0)))

/-- R177's CRC over it. -/
def recordCrc : Stored → List Byte
  | .opened => [0xD0, 0x86]
  | .ended => [0xB7, 0x06]
  | .worn => [0xD0, 0x86]

/-- The record, closed by its CRC and two bytes of 00h. -/
def storedRecord (v : Stored) : List Byte := recordBody v ++ recordCrc v ++ [0, 0]
abbrev record1 : List Byte := storedRecord .opened

/-- R177's CRC over the record, taken 16 bytes at a time. -/
theorem test_record_crc (v : Stored) : crcBytes (recordBody v) = recordCrc v := by
  unfold crcBytes crc16 recordBody
  simp only [List.foldl_append]
  cases v
  · rw [show List.foldl crcByte 0xFFFF#16 [0, 0, 0, 1, Stored.opened.code, 5, 2, 5, 0, 1, 0, 0, 0, 0, 0, 0] = 46133#16 by decide +kernel,
      show List.foldl crcByte 46133#16 [0, 0, 0, 0, 65, 0, 0, 0, 0, 0, 0, 0, 0, 0, 0, 0] = 54616#16 by decide +kernel,
      show List.foldl crcByte 54616#16 (List.replicate 16 0) = 52323#16 by decide +kernel,
      show List.foldl crcByte 52323#16 (List.replicate 16 0) = 16694#16 by decide +kernel]
    decide +kernel
  · rw [show List.foldl crcByte 0xFFFF#16 [0, 0, 0, 1, Stored.ended.code, 5, 2, 5, 0, 1, 0, 0, 0, 0, 0, 0] = 45482#16 by decide +kernel,
      show List.foldl crcByte 45482#16 [0, 0, 0, 0, 65, 0, 0, 0, 0, 0, 0, 0, 0, 0, 0, 0] = 47332#16 by decide +kernel,
      show List.foldl crcByte 47332#16 (List.replicate 16 0) = 1111#16 by decide +kernel,
      show List.foldl crcByte 1111#16 (List.replicate 16 0) = 40134#16 by decide +kernel]
    decide +kernel
  · rw [show List.foldl crcByte 0xFFFF#16 [0, 0, 0, 1, Stored.worn.code, 5, 2, 5, 0, 1, 0, 0, 0, 0, 0, 0] = 46133#16 by decide +kernel,
      show List.foldl crcByte 46133#16 [0, 0, 0, 0, 65, 0, 0, 0, 0, 0, 0, 0, 0, 0, 0, 0] = 54616#16 by decide +kernel,
      show List.foldl crcByte 54616#16 (List.replicate 16 0) = 52323#16 by decide +kernel,
      show List.foldl crcByte 52323#16 (List.replicate 16 0) = 16694#16 by decide +kernel]
    decide +kernel

/-- Flash that holds the record in slot 0 of page A of pair 0, under a CURRENT header, and a damaged slot 1. -/
def flashWith (v : Stored) : List Host.Cell :=
  (((be 4 0 ++ (fillingHeader v.gen 0).drop 4 ++ storedRecord v).zipIdx).map (fun x => ((x.2, x.1) : Host.Cell))).filter
      (fun c => decide (c.2 ≠ 0xFF))
    ++ [(160, 0), (161, 0), (162, 0), (163, 2)]
abbrev flash1 : List Host.Cell := flashWith .opened

/-- A store in READY over that flash. -/
def storeWith (v : Stored) : Store :=
  { storeReset (flashWith v) with
    pairs := ⟨some .a, v.gen⟩ :: List.replicate 11 ⟨none, 0⟩, state := .ready, nextSeq := 2 }
abbrev store1 : Store := storeWith .opened

theorem record_body1 (v : Stored) : (storedRecord v ++ List.replicate 64 0xFF).take 76 = recordBody v := by cases v <;> decide +kernel

theorem test_slot_valid (v : Stored) : slotCond 0 (storedRecord v ++ List.replicate 64 0xFF) = .valid 1 (storedRecord v) := by
  have h : recordSound 0 (storedRecord v ++ List.replicate 64 0xFF) = true := by
    unfold recordSound
    rw [show recordLength (field (storedRecord v ++ List.replicate 64 0xFF) 8 1) = 80 by cases v <;> decide +kernel, record_body1,
      test_record_crc]
    cases v <;> decide +kernel
  unfold slotCond
  rw [if_pos h, if_neg (by cases v <;> decide +kernel)]
  cases v <;> decide +kernel

theorem slot_bytes1 (v : Stored) : slotBytes (storeWith v) 0 = storedRecord v ++ List.replicate 64 0xFF := by
  cases v <;> decide +kernel
theorem slot_valid (v : Stored) : slotNow (storeWith v) 0 = .valid 1 (storedRecord v) := by
  unfold slotNow; rw [slot_bytes1]; exact test_slot_valid v
theorem slot1_valid : slotNow store1 0 = .valid 1 record1 := slot_valid .opened

theorem other_slots1 (v : Stored) (i : Nat) (h : i < 84) (hi : i ≠ 0) : (slotNow (storeWith v) i).record? = none := by
  have low : ∀ j < 7, j ≠ 0 → (slotNow (storeWith v) j).record? = none := by cases v <;> decide +kernel
  have none' : ∀ l < 12, l ≠ 0 → pairOf (storeWith v) l = ⟨none, 0⟩ := by cases v <;> decide +kernel
  by_cases h7 : i < 7
  · exact low i h7 hi
  · unfold slotNow slotBytes
    rw [none' (i / 7) (by omega) (by omega)]
    rfl

theorem filterMap_head {α β : Type} (f : α → Option β) (a : α) (l : List α) (b : β) (h : f a = some b)
    (hl : ∀ x ∈ l, f x = none) : (a :: l).filterMap f = [b] := by
  rw [List.filterMap_cons_some h, List.filterMap_eq_nil_iff.mpr hl]

theorem valid_records (v : Stored) : validRecords (storeWith v) = [(1, storedRecord v)] := by
  unfold validRecords
  rw [show List.range 84 = 0 :: (List.range 83).map (· + 1) by decide]
  refine filterMap_head _ _ _ _ ?_ ?_
  · rw [slot_valid, SlotCond.record?]
  · intro i hi
    obtain ⟨j, hj, rfl⟩ := List.mem_map.mp hi
    exact other_slots1 v _ (by have := List.mem_range.mp hj; omega) (by omega)
theorem valid_records1 : validRecords store1 = [(1, record1)] := valid_records .opened

theorem scan_pairs (v : Stored) : (scanned (storeReset (flashWith v))).pairs = (storeWith v).pairs := by
  show (List.range 12).map (scanPair (flashWith v)) = _
  cases v <;> decide +kernel

theorem validRecords_congr (st st' : Store) (h : st.pairs = st'.pairs) (hf : st.flash = st'.flash) :
    validRecords st = validRecords st' := by
  unfold validRecords slotNow slotBytes pairOf
  rw [h, hf]

theorem scanned_flash (st : Store) : (scanned st).flash = st.flash := rfl

theorem storeWith_flash (v : Stored) : (storeWith v).flash = flashWith v := rfl
theorem storeReset_flash (m : List Host.Cell) : (storeReset m).flash = m := rfl
theorem scan_flash (v : Stored) : (scanned (storeReset (flashWith v))).flash = (storeWith v).flash := by
  rw [scanned_flash, storeWith_flash, storeReset_flash]
theorem scan_records (v : Stored) : validRecords (scanned (storeReset (flashWith v))) = [(1, storedRecord v)] :=
  (validRecords_congr _ _ (scan_pairs v) (scan_flash v)).trans (valid_records v)
theorem recovery_of_one (st : Store) (q : Nat) (r : List Byte) (h : validRecords st = [(q, r)]) (hr : field r 4 1 = 1) :
    recoveryOf st = some ⟨.final, q, recoveryImage r⟩ := by
  unfold recoveryOf
  rw [h, newestOf, List.foldl_cons, List.foldl_nil, laterRecord]
  exact if_pos hr
theorem scan_recovers (v : Stored) (hv : v ≠ .ended) :
    recoveryOf (scanned (storeReset (flashWith v))) = some ⟨.final, 1, recoveryImage (storedRecord v)⟩ := by
  refine recovery_of_one _ _ _ (scan_records v) ?_
  cases v
  · decide +kernel
  · exact absurd rfl hv
  · decide +kernel

/-! ## One step of each family -/

/-- R4: an accepted START puts the station in TESTING, posts it and consumes the sequence number. -/
theorem test_start_accepted : ∃ t, exec (.start ⟨true, true, false, true⟩ 5 [2, 1, 1, 2, 3, 4, 65]) up = .next t
    ∧ t.cyc.station = .testing ∧ t.peer.posting.openSeq = 1 ∧ t.store.nextSeq = 2 := by
  refine ⟨_, rfl, ?_⟩; decide +kernel

/-- R3: the supply warning refuses it, as the last reason tested. -/
theorem test_start_supply_warning :
    firstReason 2 { up with supplyWarning := true } = some .supplyWarning
      ∧ firstReason 2 { up with supplyWarning := true, pins := { up.pins with driveReady := false } } = some .driveNotReady := by
  decide +kernel

/-- R15: a stand stop in TESTING zeroes the commanded speed at once and aborts. -/
theorem test_stand_stop_aborts : ∃ t, exec .standStopOpen { testing with run := { testing.run with cmd := 300 } } = .next t
    ∧ t.run.cmd = 0 ∧ t.cyc.station = .aborting ∧ t.dev.first = some .standStop := by
  refine ⟨_, rfl, ?_⟩; decide +kernel

/-- R45: a ramp step moves the setpoint by (500 + 25) div 50 = 10 rpm. -/
theorem test_ramp_step_size : ∃ t, exec .rampStep testing = .next t ∧ t.run.cmd = 10 := by refine ⟨_, rfl, ?_⟩; decide +kernel

/-- R41: a period of 48 622 µs is 1234 rpm. -/
theorem test_index_pulse_speed : ∃ t, exec (.indexPulse 48722) { testing with run := { testing.run with lastIndex := some 100 } }
    = .next t ∧ t.run.measured = 1234 := by refine ⟨_, rfl, ?_⟩; decide +kernel

/-- R89: the revolution of the worked case is entered in band 6 with peak 101. -/
theorem test_revolution_in_band : ∃ t, exec (.indexPulse 48722)
    { sampling ⟨128, 665600, 0, false, false, 100⟩ with
      cfg := { up.cfg with station := { section5 with eCode := 1 } } } = .next t
    ∧ t.vib.pass.kept = 1 ∧ t.vib.cells1.getD 6 cellZero = ⟨101, 1, false⟩ := by refine ⟨_, rfl, ?_⟩; decide +kernel

/-- R102: the pointer wraps from 31 to 0, and the built-in table's first phase converts PRS1. -/
theorem test_phase_wrap : ∃ t, exec .phaseBoundary { up with sca := { up.sca with pointer := 31 } } = .next t
    ∧ t.sca.pointer = 0 ∧ t.sca.inFlight = some .prs1 := by refine ⟨_, rfl, ?_⟩; decide +kernel

/-- R122: a code at the test pressure ends the fill. -/
theorem test_fill_reaches_pressure : ∃ t, exec (.slowConversionComplete 2000)
    { circ1 (inState .fill) testing with sca := { up.sca with inFlight := some .prs1 } } = .next t
    ∧ t.leak.c1.state = .stabilise ∧ t.leak.c1.fillValve = false := by refine ⟨_, rfl, ?_⟩; decide +kernel

/-- R31: an entry of age 7 is removed at the next expiry. -/
theorem test_peer_entry_removed : ∃ t, exec (.postingPeriodExpiry false false)
    (withPeers [{ peerOf 3 id with age := 7 }, { peerOf 4 id with age := 6 }] up) = .next t
    ∧ t.peer.table.map PeerEntry.station = [4] := by refine ⟨_, rfl, ?_⟩; decide +kernel

/-- R35: another station's posting with the own number raises the duplicate-station condition. -/
theorem test_duplicate_station : ∃ t, exec (.repeatPostingReceived false 5) up = .next t
    ∧ t.peer.posting.dupStation = true ∧ t.peer.dupCount = 8 := by refine ⟨_, rfl, ?_⟩; decide +kernel

/-- R175: a start and a bit open a frame. -/
theorem test_start_pulse_opens_frame : ∃ t, exec (.startPulse 12000) up = .next t
    ∧ t.lif.classifier = .inFrame ⟨false, [], [], false⟩ := by refine ⟨_, rfl, ?_⟩; decide +kernel

/-- R163: a failed verify of a final commit faults STORE and ends CLOSING. -/
theorem test_verify_failure : ∃ t, exec (.swapStepDone false)
    { swapping (swapAt .final 5) with cyc := ⟨.closing, some { rec1 with final := true, verdict := .pass }, 2, 0, .pass⟩ } = .next t
    ∧ t.store.state = .faulted ∧ t.store.cause = some .verify ∧ t.cyc.station = .done ∧ t.peer.posting.lastVerdict = .pass := by
  refine ⟨_, rfl, ?_, ?_, ?_, ?_⟩ <;> rfl

/-- R196: a RESET holds the station in reset, and nothing but its release is taken. -/
theorem test_reset_holds : ∃ t, exec (.reset .pin) testing = .next t ∧ t.boot = .held ∧ t.peer.posting.resetCause = .pin
    ∧ exec .rampStep t = .next t := by refine ⟨_, rfl, rfl, rfl, rfl⟩

/-- R192: the strap value 1111 is station 16. -/
theorem test_straps_number : ∃ t, exec (.resetRelease 15 false) State.reset = .next t ∧ t.cfg.number = 16 := by
  refine ⟨_, rfl, ?_⟩; decide +kernel

/-! ## Witnesses -/

theorem wit_StepRunsFront : ({ up with pending := [.rampStep, .busIdle] } : State).pending = .rampStep :: [.busIdle] := rfl

theorem wit_StepTicksWhenIdle_held : State.reset.pending = [] ∧ State.reset.boot = .held := by decide +kernel
theorem wit_StepTicksWhenIdle_quarter :
    ({ up with clock := ⟨2, 7⟩ } : State).pending = [] ∧ up.boot ≠ .held ∧ ({ up with clock := ⟨2, 7⟩ } : State).clock.quarter < 3 := by
  decide +kernel
/-- The whole millisecond with every timer of the statement at its last ms. -/
def lastMs : State :=
  { circ1 { inState .measure with timer := 1 } testing with
    clock := ⟨3, 9⟩
    peer := { testing.peer with periodLeft := 1 }
    run := { testing.run with rampLeft := 1 }
    lif := { testing.lif with restartLeft := some 1 } }
theorem wit_StepTicksWhenIdle_whole : lastMs.pending = [] ∧ lastMs.boot ≠ .held ∧ 3 ≤ lastMs.clock.quarter
    ∧ lastMs.peer.periodLeft = 1 ∧ lastMs.run.rampLeft = 1 ∧ lastMs.sca.rota = true ∧ lastMs.leak.c1.timer = 1
    ∧ lastMs.leak.c1.state = .measure ∧ lastMs.lif.restartLeft = some 1 := by decide +kernel
theorem wit_StepTicksWhenIdle_fill : (circuitOf (circ1 { inState .fill with fillTime := 65535 } lastMs) .one).state = .fill
    ∧ (circuitOf (circ1 { inState .fill with fillTime := 65535 } lastMs) .two).state ≠ .fill := by decide +kernel

/-- Circuit 1 waiting for air at the last ms that its limit leaves it, or one past it, in a run-in at a whole second. -/
def longWait (ms : Nat) : State :=
  let s := circ1 { inState .wait with airWaitMs := ms } lastMs
  { s with run := { s.run with sinceIndex := 1499, lastIndex := some 0 }, cyc := { s.cyc with timerMs := 1999 } }
theorem wit_StepTicksWhenIdle_limits : seeksAir (circuitOf (longWait 60000) .one).state = true ∧ (longWait 60000).leak.airWaitMark = false
    ∧ (paramsOf (longWait 60000) .one).airWaitLimit * 1000 < (circuitOf (longWait 60000) .one).airWaitMs + 1
    ∧ ¬ (paramsOf (longWait 59999) .one).airWaitLimit * 1000 < (circuitOf (longWait 59999) .one).airWaitMs + 1
    ∧ (longWait 0).run.sinceIndex = 1499 ∧ (longWait 0).run.lastIndex.isSome = true ∧ inCycle (longWait 0).cyc.station = true
    ∧ inRunIn (longWait 0).run.state = true ∧ ((longWait 0).cyc.timerMs + 1) % 1000 = 0
    ∧ deferring.lsn.state = .deferring ∧ deferring.cfg.station.deferralMax * 100 ≤ deferring.lsn.deferralMs + 1 := by decide +kernel

theorem wit_HeldStationTakesNothing : State.reset.boot = .held ∧ ∀ straps low, Instr.rampStep ≠ .resetRelease straps low :=
  ⟨rfl, fun _ _ h => by cases h⟩

theorem wit_ResetClearsEveryBlock : testing.boot ≠ .held ∧ testing.store.swap = none := by decide +kernel
theorem wit_ResetClearsEveryBlock_swap : (swapping { swapAt .final 4 with pair := 11, pos := 6 }).boot ≠ .held
    ∧ (swapping { swapAt .final 4 with pair := 11, pos := 6 }).store.swap = some { swapAt .final 4 with pair := 11, pos := 6 }
    ∧ flashLaw (swapping { swapAt .final 4 with pair := 11, pos := 6 }) :=
  ⟨by decide, rfl, List.Pairwise.nil, fun _ h => by cases h⟩

/-- A status word as the steps before step 7 leave it, in page A of pair 0. -/
def filling : List Host.Cell := writeBytes [] 0 [0x00, 0x00, 0xFF, 0xFF]
theorem wit_ResetClearsEveryBlock_cut : readBytes filling (pageBase 0 .a) 4 = [0x00, 0x00, 0xFF, 0xFF]
    ∧ readBytes ([] : List Host.Cell) (pageBase 0 .a) 4 = [0xFF, 0xFF, 0xFF, 0xFF] ∧ flashWf filling ∧ 3 ≤ (swapAt .final 3).step
    ∧ (swapAt .final 7).step ≠ 3 ∧ (swapAt .final 2).step = 2 := by decide +kernel
/-- R155: a page whose header is sound counts as current with status 0 alone. -/
theorem test_never_current : headerCurrent 0 (readBytes (neverCurrent 0 .a (writeBytes [] 0 (be 4 0 ++ (fillingHeader 1 0).drop 4))) 0 16)
    = false ∧ headerCurrent 0 (be 4 0 ++ (fillingHeader 1 0).drop 4) = true := by decide +kernel
/-- R155: programming clears bits and an erase sets them. -/
theorem test_cut_bits : cutByteOf false 0x00 0x00 0xFF = 0x00 ∧ cutByteOf false 0xFF 0x0F 0xA0 = 0xAF
    ∧ cutByteOf true 0x0F 0xFF 0xA0 = 0xAF := by decide +kernel

theorem wit_ReleaseStartsTheStation : State.reset.boot = .held := rfl

theorem wit_ReleaseStartsTheStation_image : ({ up with boot := .readImage } : State).boot = .readImage ∧ up.vib.openRev = none := by
  decide +kernel

theorem wit_LoadedImageIsInRange :
    ((loadImage 5 (List.replicate 400 1)).programmes.any (fun p => p.definedFlag)) = true := by decide +kernel

/-- Two CURRENT headers on pair 0: generations 5 and 6, and two equal ones. -/
def headers (a b : Nat) : List Host.Cell :=
  writeBytes (writeBytes (writeBytes (writeBytes [] (pageBase 0 .a) (fillingHeader a 0)) (pageBase 0 .a) (be 4 0))
    (pageBase 0 .b) (fillingHeader b 0)) (pageBase 0 .b) (be 4 0)
theorem wit_ScanEndsStarting_pages : (scanPair (headers 5 6) 0).current = some .b ∧ (scanPair (headers 5 5) 0).current = some .a
    ∧ headerCurrent 0 (readBytes (headers 5 6) (pageBase 0 .a) 16) = true ∧ (scanPair [] 11).current = none := by decide +kernel
/-- STARTING at the end of the scan. -/
def scanState (flash : List Host.Cell) (low : Bool) : State :=
  { State.reset with boot := .scan, store := storeReset flash, supplyWarning := low }
theorem wit_ScanEndsStarting_none : (scanState [] false).boot = .scan ∧ recoveryOf (scanned (scanState [] false).store) = none := by
  decide +kernel
theorem wit_ScanEndsStarting_recovery : (scanState flash1 true).boot = .scan
    ∧ recoveryOf (scanned (scanState flash1 true).store) = some ⟨.final, 1, recoveryImage record1⟩
    ∧ (scanState flash1 true).supplyWarning = true ∧ (scanState flash1 false).supplyWarning = false
    ∧ (swapOf (scanned (scanState flash1 false).store) true ⟨.final, 1, recoveryImage record1⟩).gen < spentSeq := by
  refine ⟨rfl, scan_recovers .opened (by decide), rfl, rfl, ?_⟩
  show (pairOf (scanned (storeReset flash1)) (slotOf 1 / 7)).gen + 1 < spentSeq
  unfold pairOf
  rw [scan_pairs .opened]
  decide +kernel
theorem wit_ScanEndsStarting_worn : (scanState (flashWith .worn) false).boot = .scan
    ∧ recoveryOf (scanned (scanState (flashWith .worn) false).store) = some ⟨.final, 1, recoveryImage (storedRecord .worn)⟩
    ∧ spentSeq ≤ (swapOf (scanned (scanState (flashWith .worn) false).store) true
        ⟨.final, 1, recoveryImage (storedRecord .worn)⟩).gen := by
  refine ⟨rfl, scan_recovers .worn (by decide), ?_⟩
  show spentSeq ≤ (pairOf (scanned (storeReset (flashWith .worn))) (slotOf 1 / 7)).gen + 1
  unfold pairOf
  rw [scan_pairs .worn]
  decide +kernel
theorem wit_ScanEndsStarting_newest (v : Stored) : (1, storedRecord v) ∈ validRecords (storeWith v)
    ∧ (∀ x ∈ validRecords (storeWith v), x.1 < 1 ∨ x = (1, storedRecord v))
    ∧ (field (storedRecord v) 4 1 = 1 ↔ v ≠ .ended) := by
  rw [valid_records]
  exact ⟨.head _, fun x h => .inr (List.mem_singleton.mp h), by cases v <;> decide +kernel⟩

/-- The stand's lines of an accepted START. -/
def clear : StandLines := ⟨true, true, false, true⟩
/-- A well-formed START body for programme 2. -/
def startBody : List Byte := [2, 1, 1, 2, 3, 4, 65]
theorem wit_StartIsRefused_first : takesOrders (at' .starting) ∧ addressed (at' .starting) 5
    ∧ wellFormedBody codeStart startBody = true
    ∧ firstReason (field startBody 0 1) (withInputs (.start clear 5 startBody) (at' .starting)) = some .starting := by decide +kernel
theorem wit_StartIsRefused_last : takesOrders { up with supplyWarning := true } ∧ addressed up 5
    ∧ firstReason (field startBody 0 1) (withInputs (.start clear 5 startBody) { up with supplyWarning := true })
      = some .supplyWarning := by decide +kernel
theorem wit_StartIsAccepted : takesOrders up ∧ addressed up 5 ∧ wellFormedBody codeStart startBody = true ∧ cycleLaw up
    ∧ firstReason (field startBody 0 1) (withInputs (.start clear 5 startBody) up) = none :=
  ⟨by decide, by decide, by decide, ⟨rfl, rfl, rfl, by decide, fun _ h => by cases h⟩, by decide +kernel⟩

theorem wit_AbortByStationState : ∀ st : StationState,
    takesOrders (at' st) ∧ addressed (at' st) 5 ∧ orderHeard (at' st) ∧ (at' st).cyc.station = st := by
  intro st; cases st <;> decide +kernel

theorem wit_AbortCauseStopsTheJobs : testing.cyc.station = .testing ∧ holdLaw testing ∧ takesOrders testing ∧ addressed testing 5
    ∧ testing.boot ≠ .held := by decide +kernel

/-- A cycle caught in its last step: RUN in COMPLETE and the one enabled circuit in DONE. -/
def lastStep (st : StoreState) : State :=
  { circ1 (inState .done) testing with run := { runReset with state := .complete }, store := { up.store with state := st } }
theorem wit_AbortCauseStopsTheJobs_closes : (lastStep .ready).run.state = .complete ∧ holdLaw (lastStep .ready)
    ∧ (∀ c, enabledOf (lastStep .ready) c = true → (circuitOf (lastStep .ready) c).state ∈ [.off, .done])
    ∧ (lastStep .ready).cyc.record = some rec1 ∧ (lastStep .swapping).store.state = .swapping
    ∧ (lastStep .faulted).store.state = .faulted ∧ (lastStep .ready).supplyWarning = false
    ∧ (swapOf (lastStep .ready).store false (requestOf .final rec1)).gen < spentSeq :=
  ⟨rfl, by decide, fun c => by cases c <;> decide, rfl, rfl, rfl, rfl, by decide⟩
theorem wit_AbortCauseStopsTheJobs_vents : enabledOf (circ1 (inState .vent) (lastStep .ready)) .one = true
    ∧ (circuitOf (circ1 (inState .vent) (lastStep .ready)) .one).state ∉ [.off, .done] := by decide +kernel

theorem wit_StandInputsByStationState : (at' .aborting).boot ≠ .held ∧ (at' .aborting).cyc.station = .aborting
    ∧ (at' .done).cyc.station = .done ∧ (at' .idle).cyc.station ≠ .testing ∧ (at' .idle).cyc.station ≠ .aborting
    ∧ (at' .idle).cyc.station ≠ .done := by decide +kernel

/-- Circuit 1 venting, with RUN at rest or not. -/
def venting (run : RunState) : State :=
  { circ1 (inState .vent) testing with run := { runReset with state := run } }
theorem wit_VentExpiryEndsTheCircuit_closes : (venting .complete).boot ≠ .held ∧ (circuitOf (venting .complete) .one).state = .vent
    ∧ (venting .complete).cyc.record = some rec1 ∧ inCycle (venting .complete).cyc.station = true
    ∧ jobsAtRest (withCircuit .one enterDone (venting .complete)) = true ∧ (venting .complete).store.state = .ready
    ∧ (venting .complete).supplyWarning = false
    ∧ (swapOf (venting .complete).store false (requestOf .final rec1)).gen < spentSeq := by decide +kernel
theorem wit_VentExpiryEndsTheCircuit_runs : (circuitOf (venting .segment) .one).state = .vent
    ∧ jobsAtRest (withCircuit .one enterDone (venting .segment)) = false
    ∧ (swapOf (venting .segment).store false (requestOf .checkpoint rec1)).gen < spentSeq := by decide +kernel
/-- STORE in a state, with an image pending. -/
def storing (st : StoreState) (pending : Option Request) (s : State) : State :=
  { s with store := { s.store with state := st, pending := pending } }
theorem wit_VentExpiryEndsTheCircuit_waits : (circuitOf (storing .swapping none (venting .complete)) .one).state = .vent
    ∧ jobsAtRest (withCircuit .one enterDone (storing .swapping none (venting .complete))) = true
    ∧ (storing .swapping none (venting .complete)).store.state = .swapping
    ∧ (storing .faulted none (venting .complete)).store.state = .faulted
    ∧ ({ venting .complete with supplyWarning := true } : State).supplyWarning = true := by decide +kernel

/-- A station with replies waiting. -/
def replying (n : Nat) : State := { up with lif := { up.lif with replies := List.replicate n (plainReply codeItem .data) } }
theorem wit_OrderIsRoutedAndJudged : Machine.orderOf (.item 5 [0, 0]) = some (codeItem, 5, [0, 0]) ∧ up.boot ≠ .held
    ∧ (6 : Byte).toNat ≠ up.cfg.number ∧ (6 : Byte) ≠ destAll ∧ addressed up 5
    ∧ up.lif.buffer = [] ∧ orderHeard (replying 4) ∧ 4 ≤ (replying 4).lif.replies.length ∧ takesOrders (replying 3)
    ∧ wellFormedBody codeItem [0] = false ∧ codeItem ≠ codeAbort ∧ codeItem ≠ codeRestart := by decide +kernel
theorem wit_OrderIsRoutedAndJudged_waits :
    ({ up with lif := { up.lif with decoder := .restarting } } : State).lif.decoder ≠ .free
    ∧ 2 ≤ ({ up with lif := { up.lif with buffer := [⟨.short 3, false⟩, ⟨.short 4, false⟩] } } : State).lif.buffer.length := by
  decide +kernel

theorem wit_PhasesLoadsThePendingTable : takesOrders up ∧ addressed up 5 ∧ (List.replicate 32 (6 : Byte)).length = 32
    ∧ up.cyc.station ≠ .starting ∧ (∀ x ∈ List.replicate 32 (6 : Byte), x.toNat ≤ 6)
    ∧ (∃ x ∈ List.replicate 31 (0 : Byte) ++ [7], 6 < x.toNat) ∧ (List.replicate 31 (0 : Byte) ++ [7]).length = 32 := by decide +kernel

/-- A station whose accepted RESTART waits for its reply. -/
def restarting : State :=
  { up with lif := { up.lif with decoder := .restarting, restartLeft := some 100, replies := [plainReply codeRestart .accepted],
                                 tx := ⟨.sending, some .reply, false, none⟩ } }
theorem wit_RestartIsAnsweredAndTaken : takesOrders (at' .starting) ∧ takesOrders up ∧ addressed up 5 ∧ orderHeard (replying 4)
    ∧ restarting.boot ≠ .held ∧ restarting.lif.restartLeft.isSome = true ∧ restarting.lif.tx.state = .sending
    ∧ restarting.lif.tx.choice = some .reply ∧ restarting.lif.decoder = .restarting
    ∧ restarting.lif.replies = plainReply codeRestart .accepted :: [] ∧ restarting.store.swap = none := by decide +kernel

theorem wit_ItemShowsLiveState : takesOrders up ∧ addressed up 5 ∧ 10 < (11 : Byte).toNat
    ∧ (10 : Byte) ∈ ([0, 3, 4, 5, 6, 9, 10] : List Byte) ∧ (0 : Byte) ∈ ([0, 3, 4, 6, 9, 10] : List Byte) := by decide +kernel

theorem wit_ItemShowsLiveState_bytes : slowOfCode (1 : Byte).toNat = some .torq ∧ slowOfCode (6 : Byte).toNat = some .airt2
    ∧ testing.cyc.record = some rec1 ∧ rec1.stamp.length = 4 := by decide +kernel

theorem wit_ReadsAreTakenAndServed_taken : takesOrders (at' .starting) ∧ takesOrders up ∧ addressed up 5
    ∧ ([0, 0, 0, 1] : List Byte).length = 4 ∧ (List.replicate 20 (0x7E : Byte)).length = 20
    ∧ (∀ b ∈ List.replicate 20 (0x7E : Byte), 0x20 ≤ b.toNat ∧ b.toNat ≤ 0x7E)
    ∧ (∀ b ∈ ([0x20] : List Byte), 0x20 ≤ b.toNat ∧ b.toNat ≤ 0x7E) := by decide +kernel
/-- A read in hand over the store of one record. -/
def readingOf (r : StoreRead) : State := { up with store := store1, lif := { up.lif with decoder := .reading r } }
theorem wit_ReadsAreTakenAndServed_valid : (readingOf .newest).boot ≠ .held ∧ (readingOf .newest).lif.buffer = []
    ∧ (readingOf (.seq 1)).lif.decoder = .reading (.seq 1) ∧ slotNow store1 ((1 - 1) % 84) = .valid 1 record1
    ∧ slotNow store1 ((85 - 1) % 84) = .valid 1 record1 := ⟨by decide, rfl, rfl, slot1_valid, slot1_valid⟩
theorem wit_ReadsAreTakenAndServed_waiting :
    ({ readingOf .newest with lif := { (readingOf .newest).lif with buffer := [⟨.full kindOrder 0 5 [codeItem, 0, 0], false⟩] } }
      : State).lif.buffer = [⟨.full kindOrder 0 5 (codeItem :: [0, 0]), false⟩] := rfl

theorem wit_ReadsAreTakenAndServed_no_record : slotNow store1 ((3 - 1) % 84) = .empty
    ∧ slotNow store1 ((2 ^ 32 - 2 - 1) % 84) = .damaged := by decide +kernel
theorem wit_ReadsAreTakenAndServed_newest : validRecords store1 = [(1, record1)] ∧ recordSerial record1 = [65] :=
  ⟨valid_records1, by decide +kernel⟩
theorem wit_ReadsAreTakenAndServed_none : validRecords up.store = [] := by decide +kernel

/-- A posting of a station in its ranges. -/
def payload1 : List Byte := postingBytes { postingReset .pin with listenAge := 255, demand := 120, acoustic := .loud }
theorem wit_FullPostingIsEntered : up.boot ≠ .held ∧ up.lif.buffer = [] ∧ payload1.length = 16
    ∧ postingOf payload1 = some { postingReset .pin with listenAge := 255, demand := 120, acoustic := .loud }
    ∧ (1 : Byte).toNat ≠ up.cfg.number ∧ (16 : Byte).toNat ≤ 16 ∧ (16 : Byte).toNat ≠ up.cfg.number := by decide +kernel
/-- Sampling in LISTENING with a clean revolution, beside a quiet neighbour that a posting of payload1 makes loud. -/
theorem wit_FullPostingIsEntered_marks : ∃ t,
    exec (.fullPostingReceived true false 3 payload1) (withPeers [peerOf 3 id] (sampling ⟨0, 0, 0, false, false, 100⟩)) = .next t
    ∧ contaminationOf t = true ∧ (sampling ⟨0, 0, 0, false, false, 100⟩).lsn.contamination = false
    ∧ (t.vib.openRev.map Rev.contaminated) = some true := by refine ⟨_, rfl, ?_⟩; decide +kernel

theorem wit_RepeatPostingRefreshesTheEntry : entryOf (withPeers [peerOf 16 id] up) 16 = some (peerOf 16 id) ∧ entryOf up 16 = none
    ∧ (withPeers [peerOf 16 id] up).boot ≠ .held ∧ (16 : Byte).toNat ≠ up.cfg.number := by decide +kernel
theorem wit_FullPostingIsEntered_others : up.boot ≠ .held ∧ (0 : Byte).toNat = 0 ∧ 16 < (17 : Byte).toNat ∧ (5 : Byte).toNat = up.cfg.number
    ∧ postingOf (List.replicate 16 7) = none ∧ (List.replicate 16 (7 : Byte)).length = 16 := by decide +kernel
theorem wit_PeriodExpiryAgesThePeerTable :
    ({ up with peer := { up.peer with dupCount := 1, posting := { up.peer.posting with dupStation := true } } } : State).boot ≠ .held
    ∧ up.peer.posting.dupStation = false := by decide +kernel

/-- LSN in a state with a settle count, beside a neighbour's posted listen state. -/
def listenIn (st : LsnState) (settle : Nat) (l : Listen) : State :=
  withPeers [peerOf 3 (fun p => { p with listen := l, listenAge := 1 })]
    { testing with lsn := { lsnReset with state := st, settle := settle } }
theorem wit_PeriodExpiryMovesTheListenState : (listenIn .deferring 0 .claim).boot ≠ .held
    ∧ (listenIn .deferring 0 .claim).lsn.state ≠ .inactive ∧ testing.lsn.state = .inactive
    ∧ neighbourClaims (tableSeen true (listenIn .deferring 0 .claim)) = true
    ∧ neighbourClaims (tableSeen true (listenIn .deferring 0 .unclaimed)) = false
    ∧ (listenIn .claiming 2 .claim).lsn.state = .claiming ∧ (listenIn .listening 0 .unclaimed).lsn.state = .listening := by
  decide +kernel
theorem wit_PeriodExpiryMovesTheListenState_settles : (listenIn .claiming 1 .claim).lsn.settle = 1
    ∧ (acousticPeers (tableSeen false (listenIn .claiming 1 .claim))).any
        (hasPrecedence (min ((listenIn .claiming 1 .claim).lsn.claimAge + 1) 255) 5) = true
    ∧ (acousticPeers (tableSeen false (listenIn .claiming 1 .unclaimed))).any
        (hasPrecedence (min ((listenIn .claiming 1 .unclaimed).lsn.claimAge + 1) 255) 5) = false := by decide +kernel

/-- A SWEEP held under DEFER, with REVERSAL or not, at the settle expiry that leads to LISTENING. -/
def settling (reversal : Bool) : State :=
  { listenIn .claiming 1 .unclaimed with
    run := { testing.run with seg := 1, state := .held, holds := ⟨false, false, true, reversal⟩ } }
theorem wit_PeriodExpiryMovesTheListenState_listens : inSegment (settling true).run.state = true
    ∧ segKind (settling true) = .sweep ∧ (settling true).run.stage = .deferred ∧ (settling true).lsn.settle = 1
    ∧ (acousticPeers (tableSeen false (settling false))).any (hasPrecedence 1 5) = false := by decide +kernel

theorem wit_WaitsReachTheirLimits_deferral : deferring.boot ≠ .held ∧ deferring.lsn.state = .deferring
    ∧ deferring.peer.posting.listen ≠ .listen ∧ inSegment deferring.run.state = true ∧ segKind deferring = .sweep
    ∧ deferring.run.stage = .deferred ∧ testing.lsn.state ≠ .deferring := by decide +kernel
theorem wit_WaitsReachTheirLimits_air :
    seeksAir (circuitOf (circ1 { inState .wait with airWaitMs := 60001 } testing) .one).state = true
    ∧ (circuitOf (circ1 { inState .wait with airWaitMs := 60001 } testing) .one).state ≠ .done
    ∧ testing.leak.airWaitMark = false ∧ (paramsOf testing .one).airWaitLimit * 1000 < 60001 := by decide +kernel
theorem wit_WaitsReachTheirLimits_early :
    seeksAir (circuitOf (circ1 { inState .wait with airWaitMs := 60000 } testing) .one).state = true
    ∧ 60000 ≤ (paramsOf testing .one).airWaitLimit * 1000 := by decide +kernel
theorem wit_WaitsReachTheirLimits_silent : ({ testing with leak := { testing.leak with airWaitMark := true } } : State).leak.airWaitMark = true
    ∧ (circuitOf (circ1 (inState .done) testing) .one).state = .done ∧ seeksAir (circuitOf testing .two).state = false
    ∧ (circuitOf testing .two).airWaitMs ≤ (paramsOf testing .two).airWaitLimit * 1000 := by decide +kernel

/-- R120: the limit passed in the ms that also admits the circuit to FILL, or aborts it, is still reported. -/
theorem test_airWait_passed : [CircuitState.intent, .fill, .vent].map (fun st =>
      match exec (.airWaitLimit .one) (circ1 { inState st with airWaitMs := 60001 } testing) with
      | .next t => some (t.leak.airWaitMark, t.leak.c1.airWaitMs, t.dev.first, t.dev.detail.measured, t.dev.detail.limit)
      | .fault _ => none
      | .refused _ => none)
    = List.replicate 3 (some (true, 60001, some .airWait, 60, 60)) := by decide +kernel

/-- A circuit seeking air, beside a peer's air state. -/
def airIn (k : Circuit) (a : AirState) : State := circ1 k (withPeers [peerOf 3 (fun p => { p with air1 := a })] testing)
theorem wit_PeriodExpiryDecidesAirAdmission_settles :
    (airIn { inState .intent with settle := 1 } .fill).leak.c1.state = .intent
    ∧ (airIn { inState .intent with settle := 1 } .fill).leak.c1.settle = 1
    ∧ section5.headerLimit ≤ peerFills (airIn { inState .intent with settle := 1 } .fill)
    ∧ peerFills (airIn { inState .intent with settle := 1 } .unclaimed) + ownFills (airIn { inState .intent with settle := 1 } .unclaimed)
      + precedingIntents .one (airIn { inState .intent with settle := 1 } .unclaimed) < section5.headerLimit
    ∧ 2 ≤ (airIn { inState .intent with settle := 2 } .fill).leak.c1.settle := by decide +kernel
theorem wit_PeriodExpiryDecidesAirAdmission_waits :
    (airIn { inState .wait with backoff := 1 } .fill).leak.c1.state = .wait
    ∧ section5.headerLimit ≤ peerFills (tableSeen true (airIn { inState .wait with backoff := 1 } .fill))
    ∧ peerFills (tableSeen true (airIn { inState .wait with backoff := 1 } .unclaimed))
      + ownFills (airIn { inState .wait with backoff := 1 } .unclaimed) < section5.headerLimit
    ∧ 2 ≤ (airIn { inState .wait with backoff := 2 } .fill).leak.c1.backoff := by decide +kernel
/-- Both circuits seeking air, circuit 1 ahead. -/
def seeking (s1 s2 : Nat) : State :=
  { circ1 { inState .intent with settle := s1 } testing with
    leak := { (circ1 { inState .intent with settle := s1 } testing).leak with c2 := { inState .intent with settle := s2 } } }
theorem wit_PeriodExpiryDecidesAirAdmission_second : (circuitOf (seeking 2 1) .two).state = .intent
    ∧ (circuitOf (seeking 2 1) .two).settle = 1 ∧ section5.headerLimit = 1
    ∧ (∃ t, exec (.postingPeriodExpiry true true) (seeking 2 1) = .next t ∧ t.leak.c1.state = .intent ∧ t.leak.c2.state = .wait)
    ∧ (∃ t, exec (.postingPeriodExpiry true true) (seeking 1 1) = .next t ∧ t.leak.c1.state = .fill ∧ t.leak.c2.state = .wait)
    ∧ seeksAir (circuitOf testing .two).state = false := by
  refine ⟨?_, ?_, ?_, ⟨_, rfl, ?_⟩, ⟨_, rfl, ?_⟩, ?_⟩ <;> decide +kernel

theorem wit_FillAndStabiliseTimersExpire : (circuitOf (circ1 (inState .fill) testing) .one).state = .fill
    ∧ (circuitOf (circ1 (inState .stabilise) testing) .one).state = .stabilise ∧ testing.boot ≠ .held
    ∧ driftHigh prog.params1 4 (inState .stabilise) = true ∧ driftHigh prog.params1 3 (inState .stabilise) = false := by
  decide +kernel

/-- A circuit at its measure expiry with `n` samples in each window. -/
def measured (n : Nat) : State :=
  circ1 { inState .measure with startPrs := List.replicate n 2000, startAirt := List.replicate n 1000,
                                endPrs := List.replicate n 1997, endAirt := List.replicate n 998 } testing
theorem wit_MeasureExpiryJudgesTheWindows : (measured 7).boot ≠ .held ∧ (circuitOf (measured 7) .one).state = .measure
    ∧ smallestWindow (circuitOf (measured 7) .one) < 8 ∧ 8 ≤ smallestWindow (circuitOf (measured 8) .one) := by decide +kernel
theorem wit_MeasureExpiryJudgesTheWindows_raises : (circuitOf (measured 7) .one).leakRate = none ∧ (circuitOf (measured 7) .one).d8 = 0
    ∧ (judgeLeak (windowSums (circuitOf (measured 8) .one)) (paramsOf (measured 8) .one)).raised.isSome = true
    ∧ (judgeLeak ⟨16000, 8000, 16000, 8000⟩ (paramsOf (measured 8) .one)).raised = none := by decide +kernel

/-- The corners of R135's and R136's ranges. -/
theorem wit_LeakRateStaysInItsRanges : expectedPressure8 ⟨0, 32760, 0, 0⟩ = 448140 ∧ expectedPressure8 ⟨32760, 0, 0, 32760⟩ = 2947635
    ∧ leakDrop8 ⟨0, 32760, 32760, 0⟩ = -1181460 ∧ leakDrop8 ⟨32760, 0, 0, 32760⟩ = 2137035
    ∧ (32760 : Nat) ≤ 32760 := by decide +kernel
theorem wit_LeakRateStaysInItsRanges_branches : 0 < leakDrop8 ⟨16000, 8000, 15976, 7984⟩ ∧ leakDrop8 ⟨16000, 8000, 15992, 7984⟩ < 0
    ∧ leakDrop8 ⟨16000, 8000, 16000, 8000⟩ = 0
    ∧ (judgeLeak ⟨16000, 8000, 15992, 7984⟩ { workedParams with riseTolerance := 24 }).outcome = .rise
    ∧ (judgeLeak ⟨16000, 8000, 15976, 7984⟩ workedParams).outcome = .leakHigh := by decide +kernel

/-- A classifier in a state. -/
def classing (c : Classifier) : State := { up with lif := { up.lif with classifier := c } }
theorem wit_ClassifierTakesPulsesAndGaps : up.boot ≠ .held ∧ up.lif.classifier = .waitStart ∧ up.lif.classifier ≠ .stopped
    ∧ isComplete (openFrame false) = false ∧ tooLong { openFrame false with bits := (openFrame false).bits ++ [true] } = false
    ∧ (classing (.waitIdle true)).lif.classifier = .waitIdle true
    ∧ (classing (.inFrame (openFrame false))).lif.classifier = .inFrame (openFrame false) := by decide +kernel
theorem wit_ClassifierTakesPulsesAndGaps_ends : isComplete ⟨true, [5, 250], [], false⟩ = true
    ∧ isComplete ⟨true, [5, 251], [], false⟩ = true
    ∧ ((frameOf ⟨true, [5, 250], [], false⟩).isSome != (frameOf ⟨true, [5, 251], [], false⟩).isSome) = true := by decide +kernel
theorem wit_ClassifierTakesPulsesAndGaps_byte : byteBits 0xA1 = ([true, false, true, false, false, false, false] : List Bool) ++ [true]
    ∧ tooLong ⟨false, [160, 9, 31, 160], [], false⟩ = false ∧ (160 : Nat) < (0xA1 : Byte).toNat
    ∧ ([160, 9, 31] : List Byte).length = 3 ∧ isComplete ⟨false, [160, 9, 31], List.replicate 7 true, false⟩ = false := by
  decide +kernel

/-- A transmitter in a stand, with replies. -/
def transmitting (tx : Tx) (replies : List Reply) : State := { up with lif := { up.lif with tx := tx, replies := replies } }
theorem wit_TransmitterSendsAndCounts_chooses :
    (transmitting ⟨.waiting, none, false, none⟩ []).lif.tx.state = .waiting
    ∧ (transmitting ⟨.waiting, none, false, none⟩ [plainReply 1 .data]).lif.replies ≠ []
    ∧ ({ up with peer := { up.peer with latch := true } } : State).peer.latch = true
    ∧ ({ up with peer := { up.peer with due := true } } : State).peer.due = true ∧ up.peer.latch = false := by decide +kernel
theorem wit_TransmitterSendsAndCounts_idle : up.lif.tx.state = .idle ∧ up.lif.replies = [] ∧ up.peer.latch = false
    ∧ up.peer.due = false ∧ (transmitting up.lif.tx [plainReply 1 .data]).lif.tx.state = .idle := by decide +kernel
theorem wit_TransmitterSendsAndCounts_sends :
    (transmitting ⟨.waiting, some .short, true, none⟩ []).lif.tx.attempting = true
    ∧ (transmitting ⟨.waiting, some (.full true), true, none⟩ []).lif.tx.choice = some (.full true)
    ∧ (transmitting ⟨.waiting, some .reply, true, none⟩ [plainReply 1 .data]).lif.replies = plainReply 1 .data :: []
    ∧ (transmitting ⟨.sending, some .short, false, none⟩ []).lif.tx.state = .sending
    ∧ (transmitting ⟨.sending, some (.full false), false, none⟩ []).lif.tx.choice = some (.full false)
    ∧ (transmitting ⟨.sending, some .reply, false, none⟩ [plainReply 1 .data]).lif.decoder ≠ .restarting := by decide +kernel
theorem wit_TransmitterSendsAndCounts_bus : up.lif.busIdle = false
    ∧ ({ up with lif := { up.lif with busIdle := true } } : State).lif.busIdle = true
    ∧ (transmitting ⟨.waiting, some .short, false, none⟩ []).lif.tx.choice = some .short
    ∧ (transmitting ⟨.sending, some .short, false, none⟩ []).lif.replies = []
    ∧ ({ up with peer := { up.peer with due := true } } : State).peer.latch = false := by decide +kernel

theorem wit_FrameIsReceivedAsSent : (List.replicate 160 (0xFF : Byte)).length ≤ 160 := by decide +kernel

/-- A posting with every count at its top. -/
def topPosting : Posting :=
  { postingReset .restart with programme := 7, openSeq := 2 ^ 32 - 1, lastVerdict := .reject, acoustic := .other 2, listenAge := 255,
                               airAge := 255, demand := 255 }
theorem wit_PostingIsReadAsWritten : topPosting.programme ≤ 7 ∧ topPosting.openSeq < 2 ^ 32 ∧ topPosting.lastVerdict.code ≤ 4
    ∧ topPosting.acoustic = .other 2 ∧ 2 ≤ (2 : Byte).toNat ∧ topPosting.listenAge ≤ 255 ∧ topPosting.airAge ≤ 255
    ∧ topPosting.demand ≤ 255 := by decide +kernel

theorem wit_StoredRecordIsValid : 1 ≤ ({ rec1 with seq := 2 ^ 32 - 2 } : OpenRecord).seq
    ∧ ({ rec1 with seq := 2 ^ 32 - 2 } : OpenRecord).seq < 2 ^ 32 - 1 ∧ rec1.serial.length ≤ 20 ∧ rec1.stamp.length = 4 := by
  decide +kernel

/-- The worked case of a withheld step: 350 N·m at 2390 rpm, with 325 kW posted by the peers. -/
def pressed (torque : Int) : State :=
  withPeers [peerOf 1 (fun p => { p with demand := 95 }), peerOf 2 (fun p => { p with demand := 120 }),
      peerOf 3 (fun p => { p with demand := 110 })]
    { testing with
      cfg := { up.cfg with programmes := [programmeZero, programmeZero,
        { prog with segments := [{ rampSeg with target := 3000 }] }] }
      run := { testing.run with cmd := 2390, torque := torque }
      peer := { testing.peer with posting := { testing.peer.posting with demand := 80 } } }
theorem wit_RampStepMovesTheSetpoint : (pressed 350).boot ≠ .held ∧ inSegment (pressed 350).run.state = true
    ∧ segKind (pressed 350) = .ramp ∧ freeToMove (pressed 350) ∧ freeToMove (pressed 0)
    ∧ (pressed 350).run.cmd < (segOf (pressed 350)).target ∧ withheld (pressed 350) 2400 = true
    ∧ withheld (pressed 0) 2400 = false ∧ 2400 ≠ (segOf (pressed 0)).target := by decide +kernel
theorem wit_RampStepMovesTheSetpoint_down : (segOf { testing with run := { testing.run with cmd := 700 } }).target < 700 := by
  decide +kernel
/-- A run-in over a profile of segments. -/
def profile (segs : List Segment) (run : Run) : State :=
  { testing with
    cfg := { up.cfg with programmes := [programmeZero, programmeZero, { prog with segCount := segs.length, segments := segs }] }
    run := run }
/-- RUN at a commanded speed, in SEGMENT. -/
def runAt (rpm : Nat) : Run := { runReset with state := .segment, rampLeft := 20, cmd := rpm }
theorem wit_RampStepMovesTheSetpoint_kinds : freeToMove (profile [stopSeg] (runAt 10)) ∧ segKind (profile [stopSeg] (runAt 10)) = .stop
    ∧ freeToMove (profile [dwellSeg] (runAt 599)) ∧ segKind (profile [dwellSeg] (runAt 599)) = .dwell
    ∧ (profile [dwellSeg] (runAt 599)).run.cmd ≠ (segOf (profile [dwellSeg] (runAt 599))).target
    ∧ max (10 - ((segOf (profile [stopSeg] (runAt 10))).rate + 25) / 50) 0 = 0
    ∧ freeToMove (profile [rampSeg, sweepSeg] (runAt 590)) := by decide +kernel
/-- The power-wait limit of 100 ms, and the step before it is passed. -/
theorem wit_RampStepMovesTheSetpoint_waits : (progOf (pressed 350)).powerWaitLimit * 100 < 81 + 20
    ∧ 80 + 20 ≤ (progOf (pressed 350)).powerWaitLimit * 100 ∧ (pressed 350).run.powerWaitMark = false := by decide +kernel
theorem wit_RampStepMovesTheSetpoint_dwells : freeToMove (profile [dwellSeg] (runAt 600))
    ∧ (profile [dwellSeg] (runAt 600)).run.cmd = (segOf (profile [dwellSeg] (runAt 600))).target
    ∧ (progOf (profile [dwellSeg] (runAt 600))).trackTolerance < ((0 : Int) - (600 : Int)).natAbs
    ∧ (99 ≤ ({ runAt 600 with trackCount := 99 } : Run).trackCount ∧ ¬ 99 ≤ ({ runAt 600 with trackCount := 98 } : Run).trackCount)
    ∧ inSet (runAt 600).trackMarks 0 = false ∧ maskedClass (profile [dwellSeg] (runAt 600)) .speedTrack = false
    ∧ (segOf (profile [dwellSeg] (runAt 600))).duration * 100 ≤ 80 + 20
    ∧ 79 + 20 < (segOf (profile [dwellSeg] (runAt 600))).duration * 100 := by decide +kernel

theorem wit_SegmentsAreEnteredAndHeld_enters : freeToMove (profile [rampSeg, sweepSeg] (runAt 600))
    ∧ segKind (profile [rampSeg, sweepSeg] (runAt 600)) = .ramp
    ∧ (profile [rampSeg, sweepSeg] (runAt 600)).run.cmd = (segOf (profile [rampSeg, sweepSeg] (runAt 600))).target
    ∧ 0 + 1 < (progOf (profile [rampSeg, sweepSeg] (runAt 600))).segCount ∧ testing.lsn.state = .inactive
    ∧ freeToMove (profile [rampSeg, { dwellSeg with leakStart := true, dirCode := 1 }] (runAt 600))
    ∧ directionOfCode 1 ≠ (runAt 600).dir ∧ (runAt 600).leakTold = false ∧ testing.leak.armed = false := by decide +kernel
/-- The holds of a ramp step. -/
def heldBy (h : Holds) (seg : Segment) (meas : Nat) : State :=
  let s := profile [seg] { runAt 0 with state := .held, holds := h, measured := meas }
  { s with peer := { s.peer with posting := { s.peer.posting with yielding := h.yields } } }
theorem wit_SegmentsAreEnteredAndHeld_reverses : holdLaw (heldBy ⟨false, false, false, true⟩ rampSeg 1)
    ∧ inSegment (heldBy ⟨false, false, false, true⟩ rampSeg 1).run.state = true
    ∧ (heldBy ⟨false, false, false, true⟩ rampSeg 1).run.measured ≠ 0
    ∧ holdLaw (heldBy ⟨false, false, true, true⟩ sweepSeg 0) ∧ (heldBy ⟨false, false, true, true⟩ sweepSeg 0).run.holds.defer = true
    ∧ holdLaw (heldBy ⟨false, false, false, true⟩ rampSeg 0) ∧ yieldCondition (heldBy ⟨false, false, false, true⟩ rampSeg 0) = false
    ∧ ((500 + 25) / 50 : Nat) < 600 ∧ withheld (heldBy ⟨false, false, false, true⟩ rampSeg 0) 10 = false
    ∧ holdLaw (heldBy ⟨false, false, true, false⟩ sweepSeg 0) ∧ segKind (heldBy ⟨false, false, true, false⟩ sweepSeg 0) = .sweep := by
  decide +kernel
/-- A neighbour listens beside a yieldable RAMP whose target is above Vq. -/
def yieldsAt (used : Nat) : State :=
  withPeers [peerOf 3 (fun p => { p with listen := .listen })] (profile [rampSeg] { runAt 500 with yieldMs := used })
theorem wit_SegmentsAreEnteredAndHeld_yields : yieldCondition (yieldsAt 979) = true ∧ holdLaw (yieldsAt 979)
    ∧ (yieldsAt 979).run.yieldMs + 20 < (yieldsAt 979).cfg.station.yieldBudget * 100
    ∧ (yieldsAt 980).cfg.station.yieldBudget * 100 ≤ (yieldsAt 980).run.yieldMs + 20 ∧ yieldCondition (yieldsAt 980) = true
    ∧ yieldCondition (heldBy ⟨false, true, false, false⟩ rampSeg 0) = false
    ∧ holdLaw (heldBy ⟨false, true, false, false⟩ rampSeg 0) := by decide +kernel

/-- A SWEEP in a stage at a commanded speed, LSN in LISTENING. -/
def sweeping (stage : SweepStage) (rpm : Nat) : State :=
  { profile [sweepSeg] { runAt rpm with stage := stage } with
    lsn := { lsnReset with state := .listening }
    vib := { vibReset with state := .sampling }
    peer := { testing.peer with posting := { testing.peer.posting with listen := .listen } } }
theorem wit_SweepRunsByStages : freeToMove (sweeping .sweeping 590) ∧ segKind (sweeping .sweeping 590) = .sweep
    ∧ (sweeping .approach 90).run.stage = .approach ∧ freeToMove (sweeping .approach 90) ∧ freeToMove (sweeping .deferred 0)
    ∧ withheld (sweeping .sweeping 590) 600 = false ∧ min (590 + ((500 + 25) / 50)) 600 = 600
    ∧ listenLaw (sweeping .sweeping 590) ∧ (sweeping .sweeping 590).lsn.state = .listening
    ∧ (sweeping .sweeping 590).run.dir = segDir (sweeping .sweeping 590)
    ∧ ((assessSweep (sweeping .sweeping 590)).map Prod.snd) = some true
    ∧ ((assessSweep { sweeping .sweeping 590 with vib := { vibReset with state := .sampling, repeatCount := 1 } }).map Prod.snd)
      = some false := by decide +kernel
theorem wit_SweepRunsByStages_held : withheld { sweeping .sweeping 590 with
      run := { runAt 590 with stage := .sweeping, torque := 4000 } } 600 = true := by decide +kernel
theorem wit_SweepIsAssessed : (sweeping .sweeping 600).vib.state ≠ .idle ∧ (sweeping .sweeping 600).vib.cells1.length = 32
    ∧ (sweeping .sweeping 600).vib.cells2.length = 32 := by decide +kernel

/-- RUN stopping. -/
def stopping (cmd meas : Nat) : State := { testing with run := { testing.run with state := .stopping, cmd := cmd, measured := meas } }
theorem wit_StoppingStepFallsToComplete : (stopping 0 1).boot ≠ .held ∧ (stopping 0 1).run.state = .stopping
    ∧ 0 < (stopping 0 1).run.measured ∧ (stopping 0 0).run.cmd = 0 ∧ (stopping 0 0).run.measured = 0
    ∧ (stopping 0 0).cyc.record = some rec1 := by decide +kernel
theorem wit_StoppingStepFallsToComplete_ends : inCycle (stopping 0 0).cyc.station = true
    ∧ jobsAtRest { stopping 0 0 with run := { (stopping 0 0).run with state := .complete } } = false
    ∧ jobsAtRest { circ1 (inState .done) (stopping 0 0) with run := { (stopping 0 0).run with state := .complete } } = true
    ∧ (stopping 0 0).store.state = .ready ∧ (stopping 0 0).supplyWarning = false
    ∧ (swapOf (stopping 0 0).store false (requestOf .final rec1)).gen < spentSeq
    ∧ (stopping 0 0).run.leakTold = false ∧ (stopping 0 0).run.endReason ∈ [.profileEnd, .fatalStop, .trackStop]
    ∧ (stopping 0 0).leak.armed = false ∧ (stopping 0 0).leak.armRefused = false
    ∧ enabledOf (stopping 0 0) .one = true ∧ enabledOf (stopping 0 0) .two = false := by decide +kernel

theorem wit_IndexPulseGivesTheMeasuredSpeed : up.boot ≠ .held ∧ up.run.lastIndex = none ∧ up.vib.state ≠ .sampling
    ∧ ({ up with run := { up.run with lastIndex := some 0 } } : State).run.lastIndex = some 0 ∧ 0 < 1 := by decide +kernel

theorem wit_DriveReadyFallStopsTheRunIn : up.boot ≠ .held ∧ inSegment up.run.state = false ∧ inSegment testing.run.state = true
    ∧ maskedClass testing .speedTrack = false
    ∧ maskedClass { testing with cfg := { up.cfg with station := { section5 with mask := 0xFFFF } } } .speedTrack = true := by decide +kernel

/-- A run-in with `n` codes in the oil history and a latest code. -/
def oily (n code : Nat) : State := { testing with run := { testing.run with oilHistory := List.replicate n 100, oilCode := some code } }
theorem wit_OilHistoryTakesTheLatestCode : (oily 9 100).boot ≠ .held ∧ inRunIn (oily 9 100).run.state = true
    ∧ (oily 9 100).run.oilCode = some 100 ∧ (oily 9 100).run.oilHistory.length < 10 ∧ inRunIn up.run.state = false
    ∧ testing.run.oilCode = none ∧ (oily 11 105).run.oilHistory = 100 :: List.replicate 10 100
    ∧ (List.replicate 10 100).getD 0 0 + (progOf (oily 11 105)).oilRiseLimit < 105
    ∧ 104 ≤ (List.replicate 10 100).getD 0 0 + (progOf (oily 11 104)).oilRiseLimit ∧ (oily 11 105).run.oilRiseMark = false := by decide +kernel
theorem wit_OilHistoryTakesTheLatestCode_eleventh : (oily 10 105).run.oilHistory = 100 :: List.replicate 9 100
    ∧ 100 + (progOf (oily 10 105)).oilRiseLimit < 105 ∧ 104 ≤ 100 + (progOf (oily 10 104)).oilRiseLimit := by decide +kernel

/-- A revolution as it opens. -/
def rev0 : Rev := ⟨0, 0, 0, false, false, 100⟩
/-- Sampling with a conversion in flight. -/
def converting (c : Conv) : State := { sampling rev0 with vib := { (sampling rev0).vib with conv := some c } }
theorem wit_CountingPulseKicksAConversion : (sampling rev0).boot ≠ .held ∧ (sampling rev0).vib.state = .sampling
    ∧ (sampling rev0).vib.openRev = some rev0 ∧ (sampling rev0).vib.conv = none ∧ up.vib.state ≠ .sampling
    ∧ (converting ⟨.v1, .opened⟩).vib.conv = some ⟨.v1, .opened⟩ ∧ (converting ⟨.v2, .opened⟩).vib.conv = some ⟨.v2, .opened⟩
    ∧ (converting ⟨.v2, .discarded⟩).vib.conv = some ⟨.v2, .discarded⟩ := by decide +kernel

theorem wit_IndexPulseJudgesTheRevolution : (sampling ⟨64, 665600, 0, false, false, 100⟩).boot ≠ .held
    ∧ (sampling rev0).vib.cells1.length = 32 ∧ (sampling rev0).vib.cells2.length = 32
    ∧ revFails (pulsesPerRev (sampling rev0)) ⟨64, 665600, 0, false, false, 100⟩ = false
    ∧ revFails (pulsesPerRev (sampling rev0)) rev0 = true ∧ 100 < 48722 ∧ 48722 - 100 < 2 ^ 32
    ∧ (progOf (sampling rev0)).noiseBase + 6 * (progOf (sampling rev0)).bandWidth ≤ 60000000 / (48722 - 100)
    ∧ 60000000 / (48722 - 100) < (progOf (sampling rev0)).noiseBase + 7 * (progOf (sampling rev0)).bandWidth := by decide +kernel
theorem wit_IndexPulseJudgesTheRevolution_out : 60000000 / (100101 - 100) < (progOf (sampling rev0)).noiseBase
    ∧ (progOf (sampling rev0)).noiseBase + 32 * (progOf (sampling rev0)).bandWidth ≤ 60000000 / (15889 - 100)
    ∧ revFails (pulsesPerRev (sampling rev0)) ⟨64, 0, 0, true, false, 100⟩ = true := by decide +kernel

/-- A closed revolution that waits for its conversion. -/
def waiting (ch : FastChannel) : State :=
  { sampling rev0 with vib := { (sampling rev0).vib with conv := some ⟨ch, .closed⟩, closedRev := some (⟨64, 1, 2, false, false, 0⟩, 37500) } }
theorem wit_IndexPulseJudgesTheRevolution_waits : (converting ⟨.v2, .opened⟩).vib.state = .sampling
    ∧ (converting ⟨.v2, .opened⟩).vib.openRev = some rev0 ∧ rev0.openedAt ≤ 100
    ∧ (waiting .v1).vib.conv = some ⟨.v1, .closed⟩ ∧ (waiting .v2).vib.closedRev = some (⟨64, 1, 2, false, false, 0⟩, 37500)
    ∧ (waiting .v2).vib.conv.map Conv.owner ≠ some .opened ∧ (waiting .v1).vib.cells1.length = 32 := by decide +kernel
/-- R83: the waiting revolution is judged when its conversion completes, and the shadow channel stays. -/
theorem test_waiting_revolution : ∃ t, exec (.conversionComplete 2048) (waiting .v1) = .next t ∧ t.vib.conv = none
    ∧ t.vib.closedRev = none ∧ t.vib.pass.kept = 1 ∧ t.vib.shadow = (waiting .v1).vib.shadow := ⟨_, rfl, by decide +kernel⟩

theorem wit_IndexPulseJudgesTheRevolution_root : 2 ^ 32 - 1 < 2 ^ 32 ∧ isqrt (2 ^ 32 - 1) = 65535 := by decide +kernel

theorem wit_PhaseBoundaryServesTheTable : up.boot ≠ .held ∧ up.sca.rota = true ∧ up.sca.pointer ≠ 31 ∧ State.reset.sca.rota = false
    ∧ ({ up with sca := { up.sca with pointer := 31, pendingFlag := true } } : State).sca.pointer = 31 ∧ up.sca.pendingFlag = false
    ∧ (measured 8).leak.c1.state = .measure ∧ (measured 8).leak.c2.state ≠ .measure := by decide +kernel

/-- A slow conversion of PRS1 in flight, with circuit 1 in a state. -/
def sampled (k : Circuit) : State := { circ1 k testing with sca := { up.sca with inFlight := some .prs1 } }
theorem wit_SlowSampleIsDelivered : up.boot ≠ .held ∧ up.sca.inFlight = none ∧ (sampled (inState .fill)).sca.inFlight = some .prs1
    ∧ prsOf .one = .prs1 ∧ (circuitOf (sampled (inState .fill)) .one).state = .fill
    ∧ (paramsOf (sampled (inState .fill)) .one).testPressure ≤ (2000#12).toNat
    ∧ (1999#12).toNat < (paramsOf (sampled (inState .fill)) .one).testPressure
    ∧ (circuitOf (sampled (inState .measure)) .one).state = .measure
    ∧ (1899#12).toNat < (paramsOf (sampled (inState .measure)) .one).grossFloor
    ∧ (paramsOf (sampled (inState .measure)) .one).grossFloor ≤ (1900#12).toNat := by decide +kernel
/-- A slow conversion in flight in a run-in. -/
def converted (ch : Slow) (s : State) : State := { s with sca := { up.sca with inFlight := some ch } }
theorem wit_SlowSampleIsDelivered_run : (converted .torq testing).sca.inFlight = some .torq ∧ inRunIn testing.run.state = true
    ∧ (segOf testing).torqueLimit < (((2049#12).toNat : Int) - 2048).natAbs * 2
    ∧ ((((2048#12).toNat : Int) - 2048) * 2).natAbs ≤ (segOf testing).torqueLimit
    ∧ inSet testing.run.torqueMarks testing.run.seg = false ∧ maskedClass testing .torqueHigh = false
    ∧ maskedClass testing .oilTempHigh = false ∧ (progOf testing).oilLimit < (1#12).toNat
    ∧ (0#12).toNat ≤ (progOf testing).oilLimit ∧ testing.run.oilTempMark = false
    ∧ severityOf { testing with cfg := { up.cfg with station := { section5 with severity := List.replicate 16 2 } } } .torqueHigh = .fatal
    ∧ severityOf { testing with cfg := { up.cfg with station := { section5 with severity := List.replicate 16 0 } } } .torqueHigh ≠ .fatal := by
  decide +kernel
theorem wit_SlowSampleIsDelivered_windows : (circuitOf (sampled (inState .stabilise)) .one).state = .stabilise
    ∧ airtOf .one = .airt1 ∧ (circuitOf (converted .airt1 (measured 7)) .one).startAirt.length < 8
    ∧ 8 ≤ (circuitOf (converted .airt1 (measured 8)) .one).startAirt.length
    ∧ (circuitOf (converted .airt1 (measured 8)) .one).endAirt.length = 8
    ∧ (circuitOf (converted .prs1 (measured 8)) .one).endPrs.length = 8 := by decide +kernel

theorem wit_SwapRunsStepByStep : (swapping (swapAt .final 2)).boot ≠ .held
    ∧ (swapping (swapAt .final 2)).store.swap = some (swapAt .final 2) ∧ (swapAt .final 2).pos ≤ 6
    ∧ (swapAt .final 6).step < 7 ∧ 2 ≤ (swapAt .final 2).step ∧ (swapAt .final 2).recovery = false
    ∧ lostFinal (swapAt .final 2) none = true ∧ lostFinal (swapAt .checkpoint 2) none = false
    ∧ (swapAt .checkpoint 7).step = 7 ∧ (swapping (swapAt .final 7)).store.pending = none
    ∧ (swapAt .final 7).req.seq + 1 < spentSeq
    ∧ ({ swapping (swapAt .final 7) with cyc := { testing.cyc with station := .closing } } : State).cyc.station = .closing := by decide +kernel
theorem wit_SwapRunsStepByStep_flash : flashLaw (swapping (swapAt .final 2)) ∧ (swapAt .final 2).pair ≤ 11
    ∧ (closeRecord (recordImage rec1)).length ≤ 144 ∧ (pairOf (swapping (swapAt .final 4)).store 0).current = none := by
  refine ⟨⟨List.Pairwise.nil, fun _ h => by cases h⟩, ?_, ?_, ?_⟩ <;> decide +kernel
theorem wit_SwapRunsStepByStep_copies : (pairOf store1 0).current = some .a
    ∧ ({ swapAt .final 6 with side := .b, pos := 5 } : Swap).side = Side.a.other
    ∧ 0 < ({ swapAt .final 4 with side := .b, pos := 1 } : Swap).pos ∧ flashWf store1.flash :=
  ⟨rfl, rfl, by decide, by decide +kernel, by decide +kernel⟩
theorem wit_SwapRunsStepByStep_ends : ({ swapAt .final 7 with recovery := true } : Swap).recovery = true
    ∧ ({ swapAt .final 7 with req := ⟨.final, 2 ^ 32 - 2, []⟩ } : Swap).req.seq + 1 = spentSeq
    ∧ (storing .swapping (some ⟨.checkpoint, 2, []⟩) (swapping (swapAt .final 7))).store.pending = some ⟨.checkpoint, 2, []⟩
    ∧ (swapping (swapAt .final 7)).supplyWarning = false ∧ (swapping (swapAt .final 7)).store.nextSeq ≠ spentSeq
    ∧ (∃ t, exec .swapEnd (storing .swapping (some ⟨.checkpoint, 2, []⟩) (swapping (swapAt .final 7))) = .next t
      ∧ (swapOf t.store false ⟨.checkpoint, 2, []⟩).gen < spentSeq) := by
  refine ⟨rfl, rfl, rfl, rfl, by decide, _, rfl, ?_⟩; decide +kernel

theorem wit_SupplyWarningHoldsSwaps : up.boot ≠ .held ∧ up.store.pending = none ∧ up.store.recovery = none ∧ up.store.state = .ready
    ∧ ({ up with store := { up.store with pending := some ⟨.final, 1, []⟩ } } : State).store.pending = some ⟨.final, 1, []⟩
    ∧ (swapOf up.store false ⟨.final, 1, []⟩).gen < spentSeq := by decide +kernel
theorem wit_SupplyWarningHoldsSwaps_recovery :
    ({ up with store := { up.store with state := .scanning, recovery := some ⟨.final, 1, []⟩ } } : State).store.recovery = some ⟨.final, 1, []⟩
    ∧ (swapOf up.store true ⟨.final, 1, []⟩).gen < spentSeq ∧ up.supplyWarning = false := by decide +kernel
theorem wit_SupplyWarningHoldsSwaps_requests : (storing .swapping (some ⟨.final, 1, []⟩) up).store.pending = some ⟨.final, 1, []⟩
    ∧ (storing .swapping none up).store.state = .swapping ∧ (storing .faulted none up).store.state = .faulted
    ∧ (storing .scanning none up).store.state = .scanning
    ∧ spentSeq ≤ (swapOf (storeWith .worn) false ⟨.checkpoint, 1, []⟩).gen
    ∧ ({ testing with cyc := { testing.cyc with station := .closing } } : State).cyc.station = .closing := by decide +kernel

theorem wit_DeviationIsTaken : inCycle up.cyc.station = false ∧ inCycle testing.cyc.station = true
    ∧ maskedClass testing .grossLeak = false ∧ testing.dev.first = none ∧ (65535 : Nat) ≤ 65535
    ∧ maskedClass { testing with cfg := { up.cfg with station := { section5 with mask := 0xFFFF } } } .grossLeak = true
    ∧ ({ testing with dev := { devClear with first := some .grossLeak } } : State).dev.first = some .grossLeak := by decide +kernel

/-- A state that is no reset state and meets every law: TESTING with a command waiting. -/
def busy : State := { testing with pending := [.rampStep] }
theorem wit_laws_of_start_up : bootLaw busy ∧ storeLaw busy ∧ flashLaw busy ∧ lineLaw busy ∧ deviationLaw busy :=
  ⟨⟨by decide, by decide, fun _ h => (by cases h), by decide, by decide⟩,
    ⟨by decide, by decide, by decide, by decide, by decide, rfl⟩, ⟨List.Pairwise.nil, fun _ h => by cases h⟩, by decide,
    ⟨by decide, fun _ h => (by cases h), by decide, by decide, by decide, by decide⟩⟩
theorem wit_laws_of_jobs : peerLaw busy ∧ contaminationLaw busy ∧ speedLaw busy ∧ holdLaw busy ∧ listenLaw busy ∧ airLaw busy
    ∧ phaseLaw busy := by
  refine ⟨?_, ?_, ?_, ?_, ?_, ?_, ?_⟩ <;> decide +kernel
theorem wit_laws_of_cycle : cycleLaw busy :=
  ⟨rfl, rfl, rfl, fun _ => rfl, fun r h => by obtain rfl := Option.some.inj h; decide⟩
theorem prog_in_range : programmeInRange 4000 prog := by
  repeat' (first | decide +kernel | refine And.intro ?_ ?_)
theorem wit_laws_of_config : configLaw busy ∧ boundLaw busy := by
  have h : (up.cfg.programmes.all fun p => !p.definedFlag || decide (p = prog)) = true := by decide +kernel
  refine ⟨⟨by decide +kernel, fun p hp hd => ?_⟩, by decide +kernel⟩
  have hq := List.all_eq_true.mp h p hp
  rw [hd] at hq
  exact of_decide_eq_true hq ▸ prog_in_range

theorem wit_laws_step : ∃ t, step busy = .next t := ⟨_, rfl⟩

end Sys2Proof.Tests
end

section
/-! SUPPORT. What a step can do to the station state, the open record, STORE and the start-up sequence: every step is a
sequence of the moves listed here, and the laws of the start-up, of STORE and of the cycle are kept move by move. -/
namespace Sys2Proof.Machine

/-! ## The core: what CYC, STORE and the start-up sequence hold and post -/

/-- The part of the state that the laws of the start-up, of STORE and of the cycle speak of. -/
structure CoreView where
  boot : Boot
  station : StationState
  record : Option OpenRecord
  programme : Nat
  store : Store
  warning : Bool
  cycleState : StationState
  postedProgramme : Nat
  openSeq : Nat
  storeFault : Bool
  postedWarning : Bool

/-- The core of a state. -/
def coreView (s : State) : CoreView where
  boot := s.boot
  station := s.cyc.station
  record := s.cyc.record
  programme := s.cyc.programme
  store := s.store
  warning := s.supplyWarning
  cycleState := s.peer.posting.cycleState
  postedProgramme := s.peer.posting.programme
  openSeq := s.peer.posting.openSeq
  storeFault := s.peer.posting.storeFault
  postedWarning := s.peer.posting.supplyWarning

@[simp] theorem coreView_withRun (f : Run → Run) (s : State) : coreView (withRun f s) = coreView s := rfl
@[simp] theorem coreView_withVib (f : Vib → Vib) (s : State) : coreView (withVib f s) = coreView s := rfl
@[simp] theorem coreView_withLsn (f : Lsn → Lsn) (s : State) : coreView (withLsn f s) = coreView s := rfl
@[simp] theorem coreView_withSca (f : Sca → Sca) (s : State) : coreView (withSca f s) = coreView s := rfl
@[simp] theorem coreView_withLif (f : Lif → Lif) (s : State) : coreView (withLif f s) = coreView s := rfl
@[simp] theorem coreView_withTx (t : Tx) (s : State) : coreView (withTx t s) = coreView s := rfl
@[simp] theorem coreView_withPins (f : Pins → Pins) (s : State) : coreView (withPins f s) = coreView s := rfl
@[simp] theorem coreView_withCounters (f : LineCounters → LineCounters) (s : State) :
    coreView (withCounters f s) = coreView s := rfl
@[simp] theorem coreView_seeInputs (s : State) : coreView (seeInputs s) = coreView s := rfl
@[simp] theorem coreView_popBuffer (s : State) : coreView (popBuffer s) = coreView s := rfl
@[simp] theorem coreView_queueReply (r : Reply) (s : State) : coreView (queueReply r s) = coreView s := rfl
@[simp] theorem coreView_leaveIdle (s : State) : coreView (leaveIdle s) = coreView s := by simp [coreView]
@[simp] theorem coreView_takeDev (e : DevEvent) (s : State) : coreView (takeDev e s) = coreView s := by simp [coreView]

/-! ## The jobs leave the core -/

@[simp] theorem coreView_lsnSweepEnded (s : State) : coreView (lsnSweepEnded s) = coreView s := by simp [coreView]
@[simp] theorem coreView_abandonSweep (s : State) : coreView (abandonSweep s) = coreView s := by simp [coreView]
@[simp] theorem coreView_assessShare (s : State) : coreView (assessShare s) = coreView s := by simp [coreView]
@[simp] theorem coreView_withCircuit (c : CircuitId) (f : Circuit → Circuit) (s : State) :
    coreView (withCircuit c f s) = coreView s := by simp [coreView]
@[simp] theorem coreView_armLeak (s : State) : coreView (armLeak s) = coreView s := by simp [coreView]
@[simp] theorem coreView_postSpeed (s : State) : coreView (postSpeed s) = coreView s := by simp [coreView]
@[simp] theorem coreView_setSpeed (rpm : Nat) (s : State) : coreView (setSpeed rpm s) = coreView s := by simp [coreView]
@[simp] theorem coreView_faceDirection (s : State) : coreView (faceDirection s) = coreView s := by simp [coreView]
@[simp] theorem coreView_tellLeak (s : State) : coreView (tellLeak s) = coreView s := by simp [coreView]
@[simp] theorem coreView_beginSweep (s : State) : coreView (beginSweep s) = coreView s := by simp [coreView]
@[simp] theorem coreView_toStopping (why : EndReason) (s : State) : coreView (toStopping why s) = coreView s := by
  simp [coreView]
@[simp] theorem coreView_stopForAbort (s : State) : coreView (stopForAbort s) = coreView s := by simp [coreView]
@[simp] theorem coreView_stopAtOnce (s : State) : coreView (stopAtOnce s) = coreView s := by simp [coreView]
@[simp] theorem coreView_moveTo (target rate : Nat) (s : State) : coreView (moveTo target rate s) = coreView s := by
  simp [coreView]
@[simp] theorem coreView_trackDwell (s : State) : coreView (trackDwell s) = coreView s := by simp [coreView]
@[simp] theorem coreView_clearTrack (s : State) : coreView (clearTrack s) = coreView s := rfl
@[simp] theorem coreView_setStage (g : SweepStage) (s : State) : coreView (setStage g s) = coreView s := rfl
@[simp] theorem coreView_beginStep (s : State) : coreView (beginStep s) = coreView s := rfl
@[simp] theorem coreView_updateHolds (s : State) : coreView (updateHolds s) = coreView s := by simp [coreView]
@[simp] theorem coreView_countPower (s : State) : coreView (countPower s) = coreView s := by simp [coreView]
@[simp] theorem coreView_countYield (s : State) : coreView (countYield s) = coreView s := by simp [coreView]
@[simp] theorem coreView_armAtComplete (s : State) : coreView (armAtComplete s) = coreView s := by simp [coreView]
@[simp] theorem coreView_appendOil (s : State) : coreView (appendOil s) = coreView s := by simp [coreView]
@[simp] theorem coreView_takeFullPosting (own : Bool) (source : Nat) (payload : List Byte) (s : State) :
    coreView (takeFullPosting own source payload s) = coreView s := by simp [coreView]
@[simp] theorem coreView_takeRepeatPosting (own : Bool) (station : Nat) (s : State) :
    coreView (takeRepeatPosting own station s) = coreView s := by simp [coreView]
@[simp] theorem coreView_ownPhases (body : List Byte) (s : State) : coreView (ownPhases body s) = coreView s := by
  simp [coreView]
@[simp] theorem coreView_ownRead (order : Byte) (r : StoreRead) (s : State) :
    coreView (ownRead order r s) = coreView s := by simp [coreView]

@[simp] theorem coreView_enterSegment (i : Nat) (s : State) : coreView (enterSegment i s) = coreView s := by
  simp [enterSegment]

@[simp] theorem coreView_startRun (s : State) : coreView (startRun s) = coreView s := by simp [startRun]

@[simp] theorem coreView_segmentEnd (s : State) : coreView (segmentEnd s) = coreView s := by
  unfold segmentEnd
  dsimp only
  split <;> simp

@[simp] theorem coreView_takeOutcome (again : Bool) (s : State) : coreView (takeOutcome again s) = coreView s := by
  unfold takeOutcome
  split <;> simp

@[simp] theorem coreView_dwellStep (g : Segment) (s : State) : coreView (dwellStep g s) = coreView s := by
  unfold dwellStep
  dsimp only
  split <;> simp

@[simp] theorem coreView_moveStep (target rate : Nat) (s : State) : coreView (moveStep target rate s) = coreView s := by
  unfold moveStep
  dsimp only
  split <;> simp

theorem foldl_coreView {f : State → Nat → State} (h : ∀ s b, coreView (f s b) = coreView s) (l : List Nat) (s : State) :
    coreView (l.foldl f s) = coreView s := by
  induction l generalizing s with
  | nil => rfl
  | cons b l ih => rw [List.foldl_cons, ih, h]

@[simp] theorem coreView_assessLimits (s : State) : coreView (assessLimits s) = coreView s := by
  have hcell (ch : FastChannel) (s : State) (b : Nat) : coreView (assessCell ch s b) = coreView s := by
    unfold assessCell
    dsimp only
    split <;> simp
  rw [assessLimits, foldl_coreView (hcell .v2), foldl_coreView (hcell .v1)]

@[simp] theorem coreView_assessCoverage (s : State) : coreView (assessCoverage s).1 = coreView s := by
  unfold assessCoverage
  (repeat' split) <;> simp

/-! ## The moves -/

/-- A change of the open record that leaves its sequence, state and verdict. -/
def keepsOutcome (f : OpenRecord → OpenRecord) : Prop :=
  ∀ r, (f r).seq = r.seq ∧ (f r).final = r.final ∧ (f r).verdict = r.verdict

/-- One move of the core: what a job, CYC, STORE or the reset logic does to it at once. -/
inductive CoreMove : State → State → Prop
  /-- The core stays as it is. -/
  | still {s t : State} (h : coreView t = coreView s) : CoreMove s t
  /-- A section of the open record is written. -/
  | record (s : State) (f : OpenRecord → OpenRecord) (h : keepsOutcome f) : CoreMove s (writeRecord f s)
  /-- STORE takes a commit request. -/
  | commit (s : State) (req : Request) : CoreMove s (commitRequest req s)
  /-- The cycle closes (R10), up to the handing over of the FINAL. -/
  | close (s : State) (v : Verdict) (hs : inCycle s.cyc.station = true) (hv : v ≠ .opened) :
      CoreMove s (setStation .closing (writeRecord (fun r => { r with verdict := v, final := true }) s))
  /-- An abort cause brings ABORTING (R13). -/
  | abort (s : State) (hs : s.cyc.station = .testing) : CoreMove s (setStation .aborting s)
  /-- The axle leaves a station in DONE (R12). -/
  | leave (s : State) (hs : s.cyc.station = .done) : CoreMove s (leaveDone s)
  /-- An accepted START (R4). -/
  | start (s : State) (programme : Nat) (serial stamp : List Byte) (hs : s.cyc.station = .idle ∨ s.cyc.station = .done) :
      CoreMove s (startCycle programme serial stamp s)
  /-- The supply warning is raised (R197). -/
  | warn (s : State) : CoreMove s (setWarning true s)
  /-- The supply warning is cleared, and a swap held back begins (R164). -/
  | unwarn (s : State) : CoreMove s (heldSwap (setWarning false s))
  /-- A step of the swap in flight (R161). -/
  | swapStep (s : State) (w : Swap) (hw : s.store.swap = some w) : CoreMove s (swapStep w s)
  /-- The end of the swap in flight (R162). -/
  | swapEnd (s : State) (w : Swap) (hw : s.store.swap = some w) : CoreMove s (endSwap w s)
  /-- A verify failure (R163). -/
  | verifyFail (s : State) (w : Swap) (hw : s.store.swap = some w) : CoreMove s (verifyFailure w s)
  /-- The scan's end (R168, R169). -/
  | scan (s : State) (hb : s.boot = .scan) : CoreMove s (scanDone s)
  /-- The image is read (R193). -/
  | image (s : State) (bytes : List Byte) (hb : s.boot = .readImage) : CoreMove s (imageRead bytes s)
  /-- A reset is held (R196). -/
  | hold (s : State) (k : HardReset) : CoreMove s (holdReset k s)
  /-- A reset ends (R192). -/
  | release (s : State) (straps : BitVec 4) (low : Bool) (hb : s.boot = .held) : CoreMove s (releaseReset straps low s)
  /-- A RESTART (R188). -/
  | restart (s : State) : CoreMove s (takeRestart s)

/-- A sequence of moves. -/
abbrev CoreMoves : State → State → Prop := Relation.ReflTransGen CoreMove

theorem CoreMoves.of_view {s t : State} (h : coreView t = coreView s) : CoreMoves s t := .single (.still h)

/-- What the core of the state reached shows is all that a sequence of moves depends on. -/
theorem CoreMoves.view_right {s t u : State} (h : CoreMoves s t) (hu : coreView u = coreView t) : CoreMoves s u :=
  h.tail (.still hu)

/-! ## CYC's operations as moves -/

theorem refreshRecord_moves (s : State) : CoreMoves s (refreshRecord s) := .single (.record s _ fun _ => ⟨rfl, rfl, rfl⟩)

theorem handOver_moves (kind : CommitKind) (s : State) : CoreMoves s (handOver kind s) := by
  unfold handOver
  split
  · exact .single (.commit s _)
  · exact .refl

theorem checkpoint_moves (s : State) : CoreMoves s (checkpoint s) := by
  unfold checkpoint
  split
  · exact (refreshRecord_moves s).trans (handOver_moves _ _)
  · exact .refl

theorem verdictOf_ne_opened (severity : List Nat) (status : Set16) : verdictOf severity status ≠ .opened := by
  unfold verdictOf
  (repeat' split) <;> simp

theorem closeCycle_moves (s : State) (hs : inCycle s.cyc.station = true) : CoreMoves s (closeCycle s) := by
  have hclose := CoreMove.close (refreshRecord s) (verdictOf s.cfg.station.severity s.dev.status)
    (by simpa using hs) (verdictOf_ne_opened _ _)
  unfold closeCycle
  refine Relation.ReflTransGen.trans ?_ (handOver_moves .final _)
  exact CoreMoves.view_right ((refreshRecord_moves s).tail hclose) rfl

theorem jobEnded_moves (s : State) : CoreMoves s (jobEnded s) := by
  unfold jobEnded
  split
  · split
    · exact closeCycle_moves s ‹_›
    · exact checkpoint_moves s
  · exact .refl

theorem closeIfAtRest_moves (s : State) : CoreMoves s (closeIfAtRest s) := by
  unfold closeIfAtRest
  split
  · rename_i h
    exact closeCycle_moves s (by rw [h.1]; rfl)
  · exact .refl

theorem writeCircuit_moves (c : CircuitId) (s : State) : CoreMoves s (writeCircuit c s) :=
  .single (.record s _ fun _ => by cases c <;> exact ⟨rfl, rfl, rfl⟩)

theorem ventExpired_moves (c : CircuitId) (s : State) : CoreMoves s (ventExpired c s) := by
  unfold ventExpired
  split
  · exact ((CoreMoves.of_view (coreView_withCircuit c enterDone s)).trans (writeCircuit_moves c _)).trans (jobEnded_moves _)
  · exact .refl

theorem abortCircuit_moves (c : CircuitId) (s : State) : CoreMoves s (abortCircuit c s) := by
  unfold abortCircuit
  (repeat' split)
  · exact (CoreMoves.of_view (coreView_withCircuit c _ s)).trans (writeCircuit_moves c _)
  · exact .refl
  · exact .of_view (by simp)

theorem abortLeak_moves (s : State) : CoreMoves s (abortLeak s) :=
  CoreMoves.view_right ((abortCircuit_moves .one s).trans (abortCircuit_moves .two _)) rfl

theorem abortCycle_moves (e : DevEvent) (stop : State → State) (s : State) (hs : s.cyc.station = .testing)
    (hstop : ∀ u, coreView (stop u) = coreView u) : CoreMoves s (abortCycle e stop s) := by
  have hview : coreView (abandonSweep (stop (takeDev e s))) = coreView s := by simp [hstop]
  have hstation : (abortLeak (abandonSweep (stop (takeDev e s)))).cyc.station = .testing := by
    have : (abandonSweep (stop (takeDev e s))).cyc.station = .testing := (congrArg CoreView.station hview).trans hs
    simpa using this
  exact (((CoreMoves.of_view hview).trans (abortLeak_moves _)).tail (.abort _ hstation)).trans (closeIfAtRest_moves _)

theorem standAbort_moves (input : Nat) (s : State) : CoreMoves s (standAbort input s) := by
  unfold standAbort
  split
  · exact abortCycle_moves _ _ s ‹_› coreView_stopAtOnce
  · exact .of_view (by simp)
  · exact .refl

theorem axleFall_moves (which : AxleInput) (s : State) : CoreMoves s (axleFall which s) := by
  unfold axleFall
  split
  · split
    · exact .single (.leave s ‹_›)
    · exact standAbort_moves _ s
  · exact standAbort_moves _ s

/-! ## RUN's operations as moves -/

theorem writeSummary_moves (s : State) : CoreMoves s (writeSummary s) :=
  (CoreMoves.of_view (coreView_withVib _ s)).tail (.record _ _ fun _ => ⟨rfl, rfl, rfl⟩)

theorem assessSweep_moves {s : State} {r : State × Bool} (h : assessSweep s = some r) : CoreMoves s r.1 := by
  unfold assessSweep at h
  split at h
  · cases h
  · obtain rfl := Option.some.inj h
    have hbefore : coreView (assessShare (assessCoverage (assessLimits (withVib dropRevs s))).1) = coreView s := by simp
    refine CoreMoves.view_right (t := writeSummary (assessShare (assessCoverage (assessLimits (withVib dropRevs s))).1)) ?_ ?_
    · exact (CoreMoves.of_view hbefore).trans (writeSummary_moves _)
    · dsimp only
      rw [coreView_withVib]

theorem sweepEnd_moves (s : State) : CoreMoves s (sweepEnd s) := by
  have hleft : coreView (lsnSweepEnded (setStage .assessing s)) = coreView s := by simp
  unfold sweepEnd
  split
  · rename_i r hr
    exact (CoreMoves.view_right ((CoreMoves.of_view hleft).trans (assessSweep_moves hr)) (coreView_takeOutcome _ _)).trans
      (checkpoint_moves _)
  · exact .of_view hleft

theorem sweepStep_moves (g : Segment) (s : State) : CoreMoves s (sweepStep g s) := by
  unfold sweepStep
  split
  · exact .of_view (by dsimp only; split <;> simp)
  · dsimp only
    split
    · exact (CoreMoves.of_view (coreView_moveTo g.endSpeed g.rate s)).trans (sweepEnd_moves _)
    · exact .of_view (by simp)
  · exact .refl
  · exact .refl

theorem actStep_moves (s : State) : CoreMoves s (actStep s) := by
  unfold actStep
  split
  · exact .of_view (by simp)
  · exact .of_view (by simp)
  · exact .of_view (by split <;> simp)
  · exact (CoreMoves.of_view (coreView_clearTrack s)).trans (sweepStep_moves _ _)

theorem activeStep_moves (s : State) : CoreMoves s (activeStep s) := by
  unfold activeStep
  dsimp only
  refine CoreMoves.view_right (t := if (updateHolds s).run.holds.isEmpty then _ else _) ?_ (by simp; rfl)
  split
  · exact (CoreMoves.of_view (coreView_updateHolds s)).trans (actStep_moves _)
  · exact .of_view (by simp)

theorem complete_moves (s : State) : CoreMoves s (complete s) := by
  refine CoreMoves.view_right ?_ (coreView_armAtComplete _)
  refine Relation.ReflTransGen.trans ?_ (jobEnded_moves _)
  refine Relation.ReflTransGen.tail (CoreMoves.of_view ?_) (.record _ _ fun _ => ⟨rfl, rfl, rfl⟩)
  simp

theorem stoppingStep_moves (s : State) : CoreMoves s (stoppingStep s) := by
  unfold stoppingStep
  split
  · exact (CoreMoves.of_view (coreView_clearTrack s)).trans (complete_moves _)
  · exact .of_view (by simp)

theorem rampStep_moves (s : State) : CoreMoves s (rampStep s) := by
  have hb := CoreMoves.of_view (coreView_beginStep s)
  unfold rampStep
  split
  · exact hb.trans (activeStep_moves _)
  · exact hb.trans (activeStep_moves _)
  · exact hb.trans (stoppingStep_moves _)
  · exact .refl
  · exact .refl

/-! ## Orders as moves -/

theorem ownAbort_moves (broadcast : Bool) (s : State) : CoreMoves s (ownAbort broadcast s) := by
  have htaken (b : Bool) : CoreMoves s (abortTaken b s) := by
    unfold abortTaken
    split
    · exact abortCycle_moves _ _ s ‹_› coreView_stopForAbort
    · exact .refl
  unfold ownAbort
  split
  · exact htaken true
  · split
    · exact .of_view (by simp)
    · exact CoreMoves.view_right (htaken false) (coreView_queueReply _ _)

/-- A START finds no reason to be refused in IDLE and DONE alone (R3). -/
theorem station_of_startRefusal_none {programme : Nat} {s : State} (h : startRefusal programme s = none) :
    s.cyc.station = .idle ∨ s.cyc.station = .done := by
  unfold startRefusal at h
  cases hst : s.cyc.station <;> simp [hst] at h <;> simp

theorem ownStart_moves (body : List Byte) (s : State) : CoreMoves s (ownStart body s) := by
  unfold ownStart
  split
  · exact .of_view (by simp)
  · exact CoreMoves.view_right (.single (.start s _ _ _ (station_of_startRefusal_none ‹_›))) (coreView_queueReply _ _)

theorem ownRestart_moves (broadcast : Bool) (s : State) : CoreMoves s (ownRestart broadcast s) := by
  unfold ownRestart
  split
  · exact .of_view (by split <;> simp)
  · split
    · exact .single (.restart s)
    · exact .of_view (by simp)

theorem ownOrder_moves (broadcast : Bool) (order : Byte) (body : List Byte) (s : State) :
    CoreMoves s (ownOrder broadcast order body s) := by
  unfold ownOrder
  split
  · exact ownAbort_moves _ s
  split
  · exact .of_view (by simp)
  split
  · exact .of_view (by simp)
  split
  · exact .of_view (by simp)
  split
  · exact .of_view (by simp)
  split
  · exact .of_view (by simp)
  split
  · exact ownRestart_moves _ s
  · exact ownStart_moves _ s

theorem judgeOrder_moves (broadcast : Bool) (order : Byte) (body : List Byte) (s : State) :
    CoreMoves s (judgeOrder broadcast order body s) := by
  unfold judgeOrder
  split
  · exact .of_view (by simp)
  split
  · exact .of_view (by simp)
  split
  · exact .of_view (by simp)
  split
  · exact .of_view (by split <;> simp)
  · exact ownOrder_moves _ _ _ s

theorem takeOrder_moves (dest : Byte) (payload : List Byte) (s : State) : CoreMoves s (takeOrder dest payload s) := by
  unfold takeOrder
  split
  · exact .of_view (by split <;> simp)
  · exact judgeOrder_moves _ _ _ s

theorem drain_moves (n : Nat) (s : State) : CoreMoves s (drain n s) := by
  induction n generalizing s with
  | zero => exact .refl
  | succ n ih =>
    have hpop := CoreMoves.of_view (coreView_popBuffer s)
    unfold drain
    split
    · exact .refl
    · exact (CoreMoves.of_view (by simp)).trans (ih _)
    · split
      · split
        · exact (hpop.trans (takeOrder_moves _ _ _)).trans (ih _)
        · exact .refl
      · exact (CoreMoves.of_view (by simp)).trans (ih _)

theorem receive_moves (f : Frame) (own : Bool) (s : State) : CoreMoves s (receive f own s) := by
  unfold receive
  split
  · split
    · exact .of_view (by simp)
    · exact (CoreMoves.of_view (coreView_withLif _ s)).trans (drain_moves _ _)
  · exact .refl

/-- A read's answer queued, the decoder freed, and what waited in the buffer taken (R165). -/
def readServed (answer : Reply) (s : State) : State :=
  let s := withLif (fun l => { l with decoder := .free }) (queueReply answer s)
  if s.lif.buffer = [] then s else drain s.lif.buffer.length (seeInputs s)

theorem serveRead_reading {r : StoreRead} {s : State} (h : s.lif.decoder = .reading r) :
    ∃ answer, serveRead s = readServed answer s := by
  unfold serveRead
  rw [h]
  exact ⟨_, rfl⟩

theorem readServed_moves (answer : Reply) (s : State) : CoreMoves s (readServed answer s) := by
  unfold readServed
  dsimp only
  split
  · exact .of_view (by simp)
  · exact Relation.ReflTransGen.trans (CoreMoves.of_view (by simp)) (drain_moves _ _)

theorem serveRead_moves (s : State) : CoreMoves s (serveRead s) := by
  cases hd : s.lif.decoder with
  | reading r =>
    obtain ⟨answer, h⟩ := serveRead_reading hd
    exact h ▸ readServed_moves answer s
  | free => unfold serveRead; rw [hd]
  | restarting => unfold serveRead; rw [hd]

theorem frameEnded_moves (s : State) : CoreMoves s (frameEnded s) := by
  unfold frameEnded
  split
  · split
    · split
      · exact (CoreMoves.of_view (by simp [setClassifier])).trans (receive_moves _ _ _)
      · exact .of_view (by simp [crcError, setClassifier])
    · exact .of_view (by simp [lengthError, setClassifier])
  · exact .refl

theorem sent_moves (s : State) : CoreMoves s (sent s) := by
  have hagain (u : State) : coreView (chooseAgain u) = coreView u := by simp [coreView]
  unfold sent
  split
  · split
    · unfold replySent
      split
      · split
        · exact (CoreMoves.of_view (coreView_seeInputs s)).tail (.restart _)
        · exact .of_view (by simp [hagain])
      · exact .of_view (hagain s)
    · exact .of_view (by rw [hagain]; rfl)
    · exact .of_view (by rw [hagain]; rfl)
    · exact .of_view (hagain s)
  · exact .refl

/-! ## Every step as moves -/

/-- A command that a running station takes moves the core as its meaning does; a station held in reset takes nothing. -/
theorem whenReleased_moves {f : State → State} {s t : State} (h : whenReleased f s = .next t)
    (hf : s.boot ≠ .held → CoreMoves s (f s)) : CoreMoves s t := by
  rcases whenReleased_cases f s with ⟨_, hs⟩ | ⟨hb, hs⟩
  · obtain rfl := Host.Outcome.next.inj (hs.symm.trans h)
    exact .refl
  · obtain rfl := Host.Outcome.next.inj (hs.symm.trans h)
    exact CoreMoves.view_right (hf hb) (coreView_leaveIdle _)

/-- The same for a meaning that leaves the core as it is. -/
theorem whenReleased_still {f : State → State} {s t : State} (h : whenReleased f s = .next t)
    (hf : coreView (f s) = coreView s) : CoreMoves s t :=
  whenReleased_moves h fun _ => .of_view hf

/-- The same for a command that shows input levels first. -/
theorem whenReleased_seen {f : State → State} {s t : State} {p : Pins} (h : whenReleased f { s with pins := p } = .next t)
    (hf : CoreMoves { s with pins := p } (f { s with pins := p })) : CoreMoves s t :=
  Relation.ReflTransGen.trans (b := { s with pins := p }) (CoreMoves.of_view rfl) (whenReleased_moves h fun _ => hf)

theorem exec_moves {c : Instr} {s t : State} (h : exec c s = .next t) : CoreMoves s t := by
  cases c with
  | abort dest body => exact whenReleased_moves h fun _ => receive_moves _ _ s
  | find dest body => exact whenReleased_moves h fun _ => receive_moves _ _ s
  | item dest body => exact whenReleased_moves h fun _ => receive_moves _ _ s
  | phases dest body => exact whenReleased_moves h fun _ => receive_moves _ _ s
  | rdnew dest body => exact whenReleased_moves h fun _ => receive_moves _ _ s
  | rdseq dest body => exact whenReleased_moves h fun _ => receive_moves _ _ s
  | restart straps dest body => exact whenReleased_seen h (receive_moves _ _ _)
  | start lines dest body => exact whenReleased_seen h (receive_moves _ _ _)
  | storeReadServed => exact whenReleased_moves h fun _ => serveRead_moves s
  | fullPostingReceived event own source payload => exact whenReleased_moves h fun _ => receive_moves _ _ s
  | repeatPostingReceived own station => exact whenReleased_moves h fun _ => receive_moves _ _ s
  | frameEnd => exact whenReleased_moves h fun _ => frameEnded_moves s
  | pulseError ns => exact whenReleased_still h (by simp [coreView])
  | lineStuck =>
    unfold exec execLineStuck at h
    exact whenReleased_still h (by split <;> simp [coreView])
  | transmitAttempt => exact whenReleased_still h (by simp [coreView])
  | arbitrationWon =>
    exact whenReleased_still h (by unfold won; (repeat' split) <;> simp [coreView])
  | arbitrationLost => exact whenReleased_still h (by simp [coreView])
  | frameSent => exact whenReleased_moves h fun _ => sent_moves s
  | restartTimeout =>
    unfold exec execRestartTimeout at h
    refine whenReleased_moves h fun _ => ?_
    split
    · exact (CoreMoves.of_view (coreView_seeInputs s)).tail (.restart _)
    · exact .refl
  | postingPeriodExpiry a b =>
    exact whenReleased_still h (by unfold periodExpiry expiryReaders; split <;> simp [coreView, leakExpiry])
  | rampStep => exact whenReleased_moves h fun _ => rampStep_moves s
  | indexPulse us =>
    unfold exec execIndexPulse at h
    exact whenReleased_still h rfl
  | indexTimeout =>
    unfold exec execIndexTimeout at h
    exact whenReleased_still h rfl
  | countingPulse =>
    unfold exec execCountingPulse at h
    exact whenReleased_still h (by split <;> simp)
  | conversionComplete code =>
    unfold exec execConversionComplete at h
    exact whenReleased_still h (by split <;> simp)
  | phaseBoundary => exact whenReleased_still h (by simp [coreView])
  | slowConversionComplete code => exact whenReleased_still h (by simp [coreView])
  | oilHistoryAppend =>
    unfold exec execOilHistoryAppend at h
    exact whenReleased_still h (by split <;> simp)
  | deferralLimit => exact whenReleased_still h (by simp [coreView])
  | airWaitLimit c => exact whenReleased_still h (by simp [coreView])
  | fillTimerExpiry c => exact whenReleased_still h (by simp [coreView])
  | stabiliseTimerExpiry c => exact whenReleased_still h (by simp [coreView])
  | measureTimerExpiry c => exact whenReleased_still h (by simp [coreView])
  | ventTimerExpiry c => exact whenReleased_moves h fun _ => ventExpired_moves c s
  | swapStepDone verified =>
    unfold exec execSwapStepDone at h
    refine whenReleased_moves h fun _ => ?_
    split
    · rename_i w hw
      split
      · split
        · exact .single (.swapStep s w hw)
        · exact .refl
      · exact .single (.verifyFail s w hw)
    · exact .refl
  | swapEnd =>
    unfold exec execSwapEnd at h
    refine whenReleased_moves h fun _ => ?_
    split
    · rename_i w hw
      split
      · exact .single (.swapEnd s w hw)
      · exact .refl
    · exact .refl
  | driveReadyFall => exact whenReleased_seen h (.of_view (by simp [coreView]))
  | standStopOpen => exact whenReleased_seen h (standAbort_moves _ _)
  | axleInputFall which => exact whenReleased_seen h (axleFall_moves _ _)
  | supplyWarningRaised => exact whenReleased_seen h (.single (.warn _))
  | supplyWarningCleared =>
    unfold exec execSupplyWarningCleared at h
    exact whenReleased_seen h (.single (.unwarn _))
  | reset kind =>
    obtain rfl := Host.Outcome.next.inj h
    exact .single (.hold s kind)
  | resetRelease straps supplyLow =>
    unfold exec execResetRelease at h
    dsimp only at h
    split at h
    · obtain rfl := Host.Outcome.next.inj h
      exact CoreMoves.view_right (.single (.release s _ _ ‹_›)) (coreView_leaveIdle _)
    · obtain rfl := Host.Outcome.next.inj h
      exact .refl
  | imageReadDone image =>
    unfold exec execImageReadDone at h
    refine whenReleased_moves h fun _ => ?_
    split
    · exact .single (.image s _ ‹_›)
    · exact .refl
  | storeScanDone =>
    unfold exec execStoreScanDone at h
    refine whenReleased_moves h fun _ => ?_
    split
    · exact .single (.scan s ‹_›)
    · exact .refl
  | busIdle => exact whenReleased_still h (by simp [coreView])
  | startPulse ns => exact whenReleased_still h (by simp [coreView])
  | bitPulse ns => exact whenReleased_still h (by simp [coreView])

/-- A quarter of a millisecond leaves the core. -/
theorem coreView_tick (s : State) : coreView (tick s) = coreView s := by
  unfold tick
  (repeat' split) <;> simp [coreView, enqueue]

theorem step_moves {s t : State} (h : step s = .next t) : CoreMoves s t := by
  unfold step at h
  split at h
  · rename_i c rest _
    exact Relation.ReflTransGen.trans (b := { s with pending := rest }) (CoreMoves.of_view rfl) (exec_moves h)
  · obtain rfl := Host.Outcome.next.inj h
    exact .of_view (coreView_tick s)

end Sys2Proof.Machine
end

section
/-! SUPPORT. The laws of the start-up, of STORE and of the cycle, kept by every move and so by every step. -/
namespace Sys2Proof.Machine

/-! ## What the operations of STORE do to the laws -/

theorem commitEnded_cases (s : State) :
    (s.cyc.station ≠ .closing ∧ commitEnded s = s)
      ∨ (s.cyc.station = .closing ∧ commitEnded s
          = writePosting (fun p => { p with lastVerdict := (s.cyc.record.map OpenRecord.verdict).getD .unset })
              (setStation .done s)) := by
  unfold commitEnded
  split
  · exact .inr ⟨‹_›, rfl⟩
  · exact .inl ⟨‹_›, rfl⟩

theorem failRequest_cases (req : Request) (s : State) :
    (req.kind = .checkpoint ∧ failRequest req s = s) ∨ (req.kind = .final ∧ failRequest req s = commitEnded s) := by
  unfold failRequest
  cases req.kind with
  | checkpoint => exact .inl ⟨rfl, rfl⟩
  | final => exact .inr ⟨rfl, rfl⟩

theorem bootLaw_of_view {s t : State} (h : coreView t = coreView s) (hs : bootLaw s) : bootLaw t := by
  simp only [coreView, CoreView.mk.injEq] at h
  obtain ⟨hb, hst, -, -, hstore, -⟩ := h
  unfold bootLaw
  rw [hb, hst, hstore]
  exact hs

theorem storeLaw_of_view {s t : State} (h : coreView t = coreView s) (hs : storeLaw s) : storeLaw t := by
  simp only [coreView, CoreView.mk.injEq] at h
  obtain ⟨-, -, -, -, hstore, hw, -, -, -, hf, hp⟩ := h
  unfold storeLaw
  rw [hstore, hw, hf, hp]
  exact hs

theorem cycleLaw_of_view {s t : State} (h : coreView t = coreView s) (hs : cycleLaw s) : cycleLaw t := by
  simp only [coreView, CoreView.mk.injEq] at h
  obtain ⟨-, hst, hr, hp, -, -, hcs, hpp, hq, -⟩ := h
  unfold cycleLaw
  rw [hst, hr, hp, hcs, hpp, hq]
  exact hs

theorem bootLaw_commitEnded {s : State} (hs : bootLaw s) : bootLaw (commitEnded s) := by
  rcases commitEnded_cases s with ⟨_, h⟩ | ⟨hc, h⟩
  · rwa [h]
  · rw [h]
    simp [bootLaw, hc] at hs ⊢
    exact hs

theorem bootLaw_failRequest (req : Request) {s : State} (hs : bootLaw s) : bootLaw (failRequest req s) := by
  rcases failRequest_cases req s with ⟨_, h⟩ | ⟨_, h⟩ <;> rw [h]
  · exact hs
  · exact bootLaw_commitEnded hs

/-- A station that is up has no recovery waiting, and a swap in flight is no recovery's. -/
theorem up_of_bootLaw {s : State} (hs : bootLaw s) (hb : s.boot = .up) :
    s.cyc.station ≠ .starting ∧ s.store.state ≠ .scanning ∧ (∀ w ∈ s.store.swap, w.recovery = false)
      ∧ s.store.recovery = none := by
  obtain ⟨h1, h2, h3, h4, h5⟩ := hs
  simp [hb] at h1 h2 h3 h4
  exact ⟨h1, h2, h3, h4⟩

/-- A station that is up meets the law of the start-up. -/
theorem bootLaw_up {s : State} (hb : s.boot = .up) (hst : s.cyc.station ≠ .starting) (hsc : s.store.state ≠ .scanning)
    (hw : ∀ w ∈ s.store.swap, w.recovery = false) (hr : s.store.recovery = none) : bootLaw s := by
  refine ⟨by simp [hb, hst], by simp [hb, hsc], fun w hm => by simp [hb, hw w hm], by simp [hr], by simp [hb]⟩

theorem bootLaw_enterFaulted (cause : FaultCause) {s : State} (hs : bootLaw s) (hb : s.boot = .up) :
    bootLaw (enterFaulted cause s) := by
  obtain ⟨hst, -, hw, hr⟩ := up_of_bootLaw hs hb
  exact bootLaw_up (by simpa using hb) (by simpa using hst) (by simp [enterFaulted]) (by simpa using hw) (by simpa using hr)

/-- The end of the start-up, with no recovery's swap left. -/
theorem bootLaw_startUpEnd {s : State} (hsc : s.store.state ≠ .scanning) (hw : ∀ w ∈ s.store.swap, w.recovery = false)
    (hr : s.store.recovery = none) : bootLaw (startUpEnd s) := by
  refine bootLaw_up rfl ?_ hsc hw hr
  unfold startUpEnd
  simp only [writePosting_frame, setStation_station]
  split <;> simp

theorem bootLaw_beginSwap {req : Request} {s : State} (hs : bootLaw s) (hb : s.boot = .up) :
    bootLaw (beginSwap false req s) := by
  obtain ⟨hst, hsc, -, hr⟩ := up_of_bootLaw hs hb
  unfold beginSwap
  split
  · exact bootLaw_failRequest req (bootLaw_enterFaulted .worn hs hb)
  · refine bootLaw_up hb hst (by simp) (fun w hw => ?_) hr
    obtain rfl := Option.some.inj hw
    rfl

theorem boot_up_of_state {s : State} (hs : bootLaw s) (h : s.store.state ≠ .scanning) : s.boot = .up := by
  by_contra hb
  exact h (hs.2.1.mp hb)

theorem bootLaw_commitRequest (req : Request) {s : State} (hs : bootLaw s) : bootLaw (commitRequest req s) := by
  unfold commitRequest
  split
  · exact hs
  · rename_i hst
    split
    · exact hs
    · exact bootLaw_beginSwap hs (boot_up_of_state hs (by simp [hst]))
  · exact hs
  · exact bootLaw_failRequest req hs

/-! ### Resets and the start-up -/

theorem bootLaw_setWarning (on : Bool) {s : State} (hs : bootLaw s) : bootLaw (setWarning on s) := by
  simpa [bootLaw] using hs

/-- A reset's values with a stand of the start-up sequence before its recovery. -/
theorem bootLaw_resetBlocks (k : ResetCause) (table : List Nat) (rota : Bool) (s : State) (boot : Boot)
    (hb : boot = .held ∨ boot = .readImage ∨ boot = .scan) : bootLaw { resetBlocks k table rota s with boot := boot } := by
  rcases hb with rfl | rfl | rfl <;> simp [bootLaw, resetBlocks, cycReset, storeReset]

theorem bootLaw_beginStarting (boot : Boot) {s : State} (hs : bootLaw { s with boot := boot }) :
    bootLaw { beginStarting s with boot := boot } := by
  unfold beginStarting
  dsimp only
  split
  · simpa [bootLaw] using hs
  · exact hs

theorem bootLaw_takeRestart (s : State) : bootLaw (takeRestart s) :=
  bootLaw_beginStarting .scan (bootLaw_resetBlocks _ _ _ s .scan (by simp))

theorem bootLaw_holdReset (k : HardReset) {s : State} (hs : bootLaw s) : bootLaw (holdReset k s) := by
  unfold holdReset
  split
  · exact hs
  · exact bootLaw_resetBlocks _ _ _ s .held (by simp)

/-- The start-up goes on from one stand before the recovery to another. -/
theorem bootLaw_next {s : State} (boot : Boot) (hs : bootLaw s) (hb : s.boot = .held ∨ s.boot = .readImage ∨ s.boot = .scan)
    (hn : boot = .held ∨ boot = .readImage ∨ boot = .scan) : bootLaw { s with boot := boot } := by
  obtain ⟨h1, h2, -, h4, h5⟩ := hs
  have hup : s.boot ≠ .up := by rcases hb with h | h | h <;> simp [h]
  have hrec : s.boot ≠ .recover := by rcases hb with h | h | h <;> simp [h]
  have hup' : boot ≠ .up := by rcases hn with h | h | h <;> simp [h]
  exact ⟨⟨fun _ => h1.mp hup, fun _ => hup'⟩, ⟨fun _ => h2.mp hup, fun _ => hup'⟩, by simp [h5 hb],
    fun h => absurd (h4 h).1 hrec, fun _ => h5 hb⟩

theorem bootLaw_releaseReset (straps : BitVec 4) (low : Bool) {s : State} (hs : bootLaw s) (hb : s.boot = .held) :
    bootLaw (releaseReset straps low s) :=
  bootLaw_beginStarting .readImage
    (s := { s with pins := { s.pins with straps := straps, supplyLow := low } })
    (bootLaw_next .readImage hs (by simp [hb]) (by simp))

theorem bootLaw_imageRead (image : List Byte) {s : State} (hs : bootLaw s) (hb : s.boot = .readImage) :
    bootLaw (imageRead image s) :=
  bootLaw_next .scan hs (by simp [hb]) (by simp)

/-- Before the recovery no swap is in flight and none waits. -/
theorem store_of_scan {s : State} (hs : bootLaw s) (hb : s.boot = .scan) :
    s.store.swap = none ∧ s.store.recovery = none ∧ s.store.state = .scanning ∧ s.cyc.station = .starting := by
  obtain ⟨h1, h2, -, h4, h5⟩ := hs
  refine ⟨h5 (by simp [hb]), ?_, h2.mp (by simp [hb]), h1.mp (by simp [hb])⟩
  cases hr : s.store.recovery with
  | none => rfl
  | some r =>
    have := (h4 (by simp [hr])).1
    simp [hb] at this

/-- In the recovery the station is STARTING, STORE is SCANNING, and a swap is the recovery's own. -/
theorem store_of_recover {s : State} (hs : bootLaw s) (hb : s.boot = .recover) :
    s.cyc.station = .starting ∧ s.store.state = .scanning ∧ (s.store.recovery.isSome = true → s.store.swap = none) :=
  ⟨hs.1.mp (by simp [hb]), hs.2.1.mp (by simp [hb]), fun h => (hs.2.2.2.1 h).2⟩

/-- A station whose swap is the recovery's stands in the recovery, and nothing waits. -/
theorem recover_of_swap {s : State} {w : Swap} (hs : bootLaw s) (hw : s.store.swap = some w) (hr : w.recovery = true) :
    s.boot = .recover ∧ s.store.recovery = none := by
  refine ⟨(hs.2.2.1 w hw).mp hr, ?_⟩
  cases hq : s.store.recovery with
  | none => rfl
  | some r =>
    have := (hs.2.2.2.1 (by simp [hq])).2
    simp [hw] at this

/-- A station whose swap is a request's is up. -/
theorem up_of_swap {s : State} {w : Swap} (hs : bootLaw s) (hw : s.store.swap = some w) (hr : w.recovery = false) :
    s.boot = .up := by
  have hrec : s.boot ≠ .recover := fun h => by simp [(hs.2.2.1 w hw).mpr h] at hr
  have hearly : ¬ (s.boot = .held ∨ s.boot = .readImage ∨ s.boot = .scan) := fun h => by
    simp [hs.2.2.2.2 h] at hw
  cases hb : s.boot <;> simp_all

theorem bootLaw_scanEnd {s : State} (hw : s.store.swap = none) (hr : s.store.recovery = none) : bootLaw (scanEnd s) := by
  unfold scanEnd
  split
  · exact bootLaw_startUpEnd (by simp [enterFaulted]) (by simp [hw]) (by simpa using hr)
  · exact bootLaw_startUpEnd (by simp) (by simp [hw]) hr

/-- A recovery's swap begins, or the scan ends WORN. -/
theorem bootLaw_beginRecovery {req : Request} {s : State} (hb : s.boot = .recover) (hst : s.cyc.station = .starting)
    (hw : s.store.swap = none) (hr : s.store.recovery = none) : bootLaw (beginSwap true req s) := by
  unfold beginSwap
  split
  · exact bootLaw_startUpEnd (by simp [enterFaulted]) (by simp [hw]) (by simpa using hr)
  · refine ⟨by simp [hb, hst], by simp [hb], fun w hm => ?_, by simp [hr], by simp [hb]⟩
    obtain rfl := Option.some.inj hm
    simp [hb, swapOf]

theorem bootLaw_scanDone {s : State} (hs : bootLaw s) (hb : s.boot = .scan) : bootLaw (scanDone s) := by
  obtain ⟨hw, hr, hsc, hst⟩ := store_of_scan hs hb
  have hw' : (scanned s.store).swap = none := hw
  have hr' : (scanned s.store).recovery = none := hr
  have hsc' : (scanned s.store).state = .scanning := hsc
  unfold scanDone
  dsimp only
  split
  · exact bootLaw_scanEnd hw' hr'
  · split
    · simp [bootLaw, hst, hsc', hw']
    · exact bootLaw_beginRecovery rfl hst hw' hr'

theorem bootLaw_heldSwap {s : State} (hs : bootLaw s) : bootLaw (heldSwap s) := by
  unfold heldSwap
  split
  · rename_i q _ hst _
    have hb := boot_up_of_state hs (by simp [hst])
    obtain ⟨h1, h2, h3, h4⟩ := up_of_bootLaw hs hb
    exact bootLaw_beginSwap (bootLaw_up hb h1 h2 h3 h4) hb
  · rename_i q _ hq
    obtain ⟨hb, hw⟩ := hs.2.2.2.1 (by simp [hq])
    exact bootLaw_beginRecovery hb (store_of_recover hs hb).1 hw rfl
  · exact hs

theorem bootLaw_verifyFailure {s : State} {w : Swap} (hs : bootLaw s) (hw : s.store.swap = some w) :
    bootLaw (verifyFailure w s) := by
  unfold verifyFailure
  dsimp only
  cases hr : w.recovery with
  | true =>
    rw [if_pos rfl]
    exact bootLaw_startUpEnd (by simp [enterFaulted]) (by simp [cutSwap]) (by simpa using (recover_of_swap hs hw hr).2)
  | false =>
    have hb := up_of_swap hs hw hr
    obtain ⟨hst, hsc, -, hq⟩ := up_of_bootLaw hs hb
    have hcut : bootLaw (enterFaulted .verify { cutSwap w s with store := { (cutSwap w s).store with pending := none } }) :=
      bootLaw_up (by simpa using hb) (by simpa using hst) (by simp [enterFaulted]) (by simp [cutSwap]) (by simpa using hq)
    rw [if_neg (by simp)]
    split
    · exact bootLaw_commitEnded hcut
    · exact hcut

theorem bootLaw_nextSwap {s : State} (hs : bootLaw s) (hb : s.boot = .up) : bootLaw (nextSwap s) := by
  obtain ⟨h1, h2, h3, h4⟩ := up_of_bootLaw hs hb
  unfold nextSwap
  split
  · split
    · exact bootLaw_up hb h1 (by simp) h3 h4
    · exact bootLaw_beginSwap (bootLaw_up hb h1 h2 h3 h4) hb
  · exact bootLaw_up hb h1 (by simp) h3 h4

theorem bootLaw_failPending {s : State} (hs : bootLaw s) : bootLaw (failPending s) := by
  unfold failPending
  split
  · exact bootLaw_failRequest _ hs
  · exact hs

theorem bootLaw_endSwap {s : State} {w : Swap} (hs : bootLaw s) (hw : s.store.swap = some w) : bootLaw (endSwap w s) := by
  unfold endSwap
  dsimp only
  cases hr : w.recovery with
  | true =>
    rw [if_pos rfl]
    exact bootLaw_scanEnd rfl (recover_of_swap hs hw hr).2
  | false =>
    have hb := up_of_swap hs hw hr
    obtain ⟨hst, hsc, -, hq⟩ := up_of_bootLaw hs hb
    have hcur : bootLaw { s with store := swapCurrent w s.store } := bootLaw_up hb hst hsc (by simp [swapCurrent, recount]) hq
    rw [if_neg (by simp)]
    unfold requestDone
    split
    · split
      · exact bootLaw_failPending (bootLaw_enterFaulted .spent (bootLaw_commitEnded hcur) (by simpa using hb))
      · exact bootLaw_nextSwap (bootLaw_commitEnded hcur) (by simpa using hb)
    · exact bootLaw_nextSwap hcur hb

theorem bootLaw_swapStep {s : State} {w : Swap} (hs : bootLaw s) (hw : s.store.swap = some w) : bootLaw (swapStep w s) := by
  obtain ⟨h1, h2, h3, h4, h5⟩ := hs
  refine ⟨h1, h2, fun v hv => ?_, fun h => ?_, fun h => ?_⟩
  · obtain rfl := Option.some.inj hv
    exact h3 w hw
  · have := (h4 h).2
    simp [hw] at this
  · have := h5 h
    simp [hw] at this

/-- A change of the station state between two that are not STARTING. -/
theorem bootLaw_setStation {st : StationState} {s : State} (hs : bootLaw s) (h : s.cyc.station ≠ .starting)
    (hst : st ≠ .starting) : bootLaw (setStation st s) := by
  obtain ⟨h1, h2⟩ := hs
  exact ⟨by simp [h1, h, hst], h2⟩

/-- The station TESTING, with its programme and open sequence posted (R4, step 8). -/
def showCycle (programme seq : Nat) (s : State) : State :=
  setStation .testing (writePosting (fun p => { p with programme := programme, openSeq := seq }) s)

theorem coreView_showCycle (programme seq : Nat) {s t : State} (h : coreView t = coreView s) :
    coreView (showCycle programme seq t) = coreView (showCycle programme seq s) := by
  simp only [coreView, CoreView.mk.injEq] at h
  simp [showCycle, coreView, h]

/-- Of the core a START moves what it opens and shows (R4). -/
theorem coreView_startCycle (programme : Nat) (serial stamp : List Byte) (s : State) :
    coreView (startCycle programme serial stamp s)
      = coreView (showCycle programme s.store.nextSeq (openCycle programme serial stamp s)) := by
  refine coreView_showCycle programme s.store.nextSeq ?_
  rw [coreView_startRun, coreView_withVib]
  simp [coreView]

theorem bootLaw_of_move {s t : State} (h : CoreMove s t) (hs : bootLaw s) : bootLaw t := by
  cases h with
  | still h => exact bootLaw_of_view h hs
  | record f _ => exact hs
  | commit req => exact bootLaw_commitRequest req hs
  | close v hst _ => exact bootLaw_setStation hs (fun h : s.cyc.station = .starting => by simp [h, inCycle] at hst) (by simp)
  | abort hst => exact bootLaw_setStation hs (by simp [hst]) (by simp)
  | leave hst =>
    rw [leaveDone, if_pos hst]
    exact bootLaw_setStation (s := writePosting _ s) hs (by simp [hst]) (by simp)
  | start p serial stamp hst =>
    refine bootLaw_of_view (coreView_startCycle p serial stamp s) (bootLaw_setStation ?_ ?_ (by simp))
    · exact hs
    · rcases hst with h | h <;> simp [h, openCycle]
  | warn => exact bootLaw_setWarning true hs
  | unwarn => exact bootLaw_heldSwap (bootLaw_setWarning false hs)
  | swapStep w hw => exact bootLaw_swapStep hs hw
  | swapEnd w hw => exact bootLaw_endSwap hs hw
  | verifyFail w hw => exact bootLaw_verifyFailure hs hw
  | scan hb => exact bootLaw_scanDone hs hb
  | image bytes hb => exact bootLaw_imageRead bytes hs hb
  | hold k => exact bootLaw_holdReset k hs
  | release straps low hb => exact bootLaw_releaseReset straps low hs hb
  | restart => exact bootLaw_takeRestart s

/-! ### STORE's states -/

theorem storeLaw_commitEnded {s : State} (hs : storeLaw s) : storeLaw (commitEnded s) := by
  rcases commitEnded_cases s with ⟨_, h⟩ | ⟨_, h⟩ <;> rw [h]
  · exact hs
  · simpa [storeLaw] using hs

theorem storeLaw_failRequest (req : Request) {s : State} (hs : storeLaw s) : storeLaw (failRequest req s) := by
  rcases failRequest_cases req s with ⟨_, h⟩ | ⟨_, h⟩ <;> rw [h]
  · exact hs
  · exact storeLaw_commitEnded hs

theorem storeLaw_startUpEnd {s : State} (hs : storeLaw s) : storeLaw (startUpEnd s) := by
  simpa [storeLaw] using hs

/-- A fault leaves no swap in flight and no image pending. -/
theorem storeLaw_enterFaulted (cause : FaultCause) {s : State} (hw : s.store.swap = none) (hp : s.store.pending = none)
    (hn : s.peer.posting.supplyWarning = s.supplyWarning) : storeLaw (enterFaulted cause s) := by
  simp [storeLaw, enterFaulted, hw, hp, hn]

/-- A swap begins with none in flight and no image pending, or STORE faults. -/
theorem storeLaw_beginSwap {req : Request} {s : State} (recovery : Bool) (hf : s.peer.posting.storeFault = false)
    (hc : s.store.cause = none) (hw : s.store.swap = none) (hp : s.store.pending = none)
    (hn : s.peer.posting.supplyWarning = s.supplyWarning) : storeLaw (beginSwap recovery req s) := by
  unfold beginSwap
  split
  · split
    · exact storeLaw_startUpEnd (storeLaw_enterFaulted .worn hw hp hn)
    · exact storeLaw_failRequest req (storeLaw_enterFaulted .worn hw hp hn)
  · cases recovery <;> simp [storeLaw, hf, hc, hp, hn]

/-- What STORE's law says of a state without a fault. -/
theorem unfaulted_of_storeLaw {s : State} (hs : storeLaw s) (hf : s.store.state ≠ .faulted) :
    s.peer.posting.storeFault = false ∧ s.store.cause = none := by
  obtain ⟨h1, h2, -⟩ := hs
  simpa [hf] using And.intro h1 h2

/-- What STORE's law says of READY. -/
theorem ready_of_storeLaw {s : State} (hs : storeLaw s) (hr : s.store.state = .ready) :
    s.store.swap = none ∧ (s.store.pending.isSome = true → s.supplyWarning = true) := by
  obtain ⟨-, -, -, h4, h5, -⟩ := hs
  simpa [hr] using And.intro h4 h5

theorem storeLaw_commitRequest (req : Request) {s : State} (hs : storeLaw s) : storeLaw (commitRequest req s) := by
  obtain ⟨h1, h2, h3, h4, h5, h6⟩ := hs
  have hpend (p : Option Request) (h : s.store.state = .swapping ∨ s.store.state = .ready ∧ s.supplyWarning = true) :
      storeLaw { s with store := { s.store with pending := p } } := ⟨h1, h2, h3, h4, fun _ => h, h6⟩
  unfold commitRequest
  split
  · exact ⟨h1, h2, h3, h4, h5, h6⟩
  · rename_i hst
    split
    · exact hpend _ (.inr ⟨hst, ‹_›⟩)
    · rename_i hn
      obtain ⟨hw, hp⟩ := ready_of_storeLaw ⟨h1, h2, h3, h4, h5, h6⟩ hst
      obtain ⟨hf, hc⟩ := unfaulted_of_storeLaw ⟨h1, h2, h3, h4, h5, h6⟩ (by simp [hst])
      refine storeLaw_beginSwap false hf hc hw ?_ h6
      simpa [hn] using hp
  · exact hpend _ (.inl ‹_›)
  · exact storeLaw_failRequest req ⟨h1, h2, h3, h4, h5, h6⟩

theorem storeLaw_setWarning_true {s : State} (hs : storeLaw s) : storeLaw (setWarning true s) := by
  obtain ⟨h1, h2, h3, h4, h5, -⟩ := hs
  refine ⟨h1, h2, h3, h4, fun h => (h5 h).imp_right fun hr => ⟨hr.1, rfl⟩, rfl⟩

/-- Outside SWAPPING an image is pending in READY alone. -/
theorem pending_none_of_storeLaw {s : State} (hs : storeLaw s) (h : s.store.state ≠ .swapping)
    (hr : s.store.state ≠ .ready) : s.store.pending = none := by
  obtain ⟨-, -, -, -, h5, -⟩ := hs
  simpa [h, hr] using h5

theorem storeLaw_unwarn {s : State} (hb : bootLaw s) (hs : storeLaw s) : storeLaw (heldSwap (setWarning false s)) := by
  unfold heldSwap
  split
  · rename_i q _ hst _
    replace hst : s.store.state = .ready := hst
    obtain ⟨hf, hc⟩ := unfaulted_of_storeLaw hs (by simp [hst])
    exact storeLaw_beginSwap false hf hc (ready_of_storeLaw hs hst).1 rfl rfl
  · rename_i q hst hq
    replace hst : s.store.state = .scanning := hst
    replace hq : s.store.recovery = some q := hq
    obtain ⟨hf, hc⟩ := unfaulted_of_storeLaw hs (by simp [hst])
    have hp := pending_none_of_storeLaw hs (by simp [hst]) (by simp [hst])
    exact storeLaw_beginSwap true hf hc (hb.2.2.2.1 (by simp [hq])).2 hp rfl
  · rename_i hready _
    obtain ⟨h1, h2, h3, h4, h5, h6⟩ := hs
    refine ⟨h1, h2, h3, h4, fun hp => (h5 hp).imp_right fun hr => ?_, rfl⟩
    obtain ⟨q, hq⟩ := Option.isSome_iff_exists.mp hp
    exact (hready q hr.1 hq).elim

theorem storeLaw_verifyFailure {s : State} {w : Swap} (hs : storeLaw s) : storeLaw (verifyFailure w s) := by
  have hcut : storeLaw (enterFaulted .verify { cutSwap w s with store := { (cutSwap w s).store with pending := none } }) :=
    storeLaw_enterFaulted .verify rfl rfl hs.2.2.2.2.2
  unfold verifyFailure
  dsimp only
  split
  · exact storeLaw_startUpEnd hcut
  · split
    · exact storeLaw_commitEnded hcut
    · exact hcut

/-- A swap in flight shows in a state that is no fault. -/
theorem unfaulted_of_swap {s : State} {w : Swap} (hs : storeLaw s) (hw : s.store.swap = some w) :
    s.peer.posting.storeFault = false ∧ s.store.cause = none := by
  refine unfaulted_of_storeLaw hs fun hf => ?_
  rcases hs.2.2.2.1 (by simp [hw]) with h | h <;> simp [hf] at h

theorem storeLaw_scanEnd {s : State} (hf : s.peer.posting.storeFault = false) (hc : s.store.cause = none)
    (hw : s.store.swap = none) (hp : s.store.pending = none) (hn : s.peer.posting.supplyWarning = s.supplyWarning) :
    storeLaw (scanEnd s) := by
  unfold scanEnd
  split
  · exact storeLaw_startUpEnd (storeLaw_enterFaulted .spent hw hp hn)
  · exact storeLaw_startUpEnd (by simp [storeLaw, hf, hc, hw, hp, hn])

theorem storeLaw_nextSwap {s : State} (hf : s.peer.posting.storeFault = false) (hc : s.store.cause = none)
    (hw : s.store.swap = none) (hn : s.peer.posting.supplyWarning = s.supplyWarning) : storeLaw (nextSwap s) := by
  unfold nextSwap
  split
  · split
    · rename_i q _ hwarn
      simp [storeLaw, hf, hc, hw, hn, hwarn]
    · exact storeLaw_beginSwap false hf hc hw rfl hn
  · rename_i hq
    simp [storeLaw, hf, hc, hw, hn, hq]

/-- A fault after which the pending image fails as well. -/
theorem storeLaw_failPending {s : State} (hw : s.store.swap = none) (cause : FaultCause)
    (hn : s.peer.posting.supplyWarning = s.supplyWarning) : storeLaw (failPending (enterFaulted cause s)) := by
  unfold failPending
  split
  · refine storeLaw_failRequest _ ?_
    simp [storeLaw, enterFaulted, hw, hn]
  · rename_i hq
    exact storeLaw_enterFaulted cause hw (by simpa using hq) hn

theorem storeLaw_endSwap {s : State} {w : Swap} (hb : bootLaw s) (hs : storeLaw s) (hw : s.store.swap = some w) :
    storeLaw (endSwap w s) := by
  obtain ⟨hf, hc⟩ := unfaulted_of_swap hs hw
  have hn := hs.2.2.2.2.2
  unfold endSwap
  dsimp only
  cases hr : w.recovery with
  | true =>
    rw [if_pos rfl]
    have hst := (store_of_recover hb (recover_of_swap hb hw hr).1).2.1
    have hp := pending_none_of_storeLaw hs (by simp [hst]) (by simp [hst])
    exact storeLaw_scanEnd hf hc rfl hp hn
  | false =>
    rw [if_neg (by simp)]
    unfold requestDone
    have hcf {u : State} (h : u.peer.posting.storeFault = false ∧ u.peer.posting.supplyWarning = u.supplyWarning) :
        (commitEnded u).peer.posting.storeFault = false
          ∧ (commitEnded u).peer.posting.supplyWarning = (commitEnded u).supplyWarning := by
      rcases commitEnded_cases u with ⟨_, hu⟩ | ⟨_, hu⟩ <;> rw [hu] <;> simpa using h
    obtain ⟨hf', hn'⟩ := hcf (u := { s with store := swapCurrent w s.store }) ⟨hf, hn⟩
    split
    · split
      · exact storeLaw_failPending (by simp [swapCurrent, recount]) .spent hn'
      · exact storeLaw_nextSwap hf' (by simpa [swapCurrent, recount] using hc) (by simp [swapCurrent, recount]) hn'
    · exact storeLaw_nextSwap hf hc rfl hn

theorem storeLaw_scanDone {s : State} (hb : bootLaw s) (hs : storeLaw s) (h : s.boot = .scan) : storeLaw (scanDone s) := by
  obtain ⟨hw, -, hst, -⟩ := store_of_scan hb h
  obtain ⟨hf, hc⟩ := unfaulted_of_storeLaw hs (by simp [hst])
  have hp := pending_none_of_storeLaw hs (by simp [hst]) (by simp [hst])
  have hn := hs.2.2.2.2.2
  unfold scanDone
  dsimp only
  split
  · exact storeLaw_scanEnd hf hc hw hp hn
  · split
    · exact hs
    · exact storeLaw_beginSwap true hf hc hw hp hn

theorem storeLaw_swapStep {s : State} {w : Swap} (hs : storeLaw s) (hw : s.store.swap = some w) :
    storeLaw (swapStep w s) := by
  obtain ⟨h1, h2, -, h4, h5, h6⟩ := hs
  exact ⟨h1, h2, fun _ => rfl, fun _ => h4 (by simp [hw]), h5, h6⟩

theorem storeLaw_resetBlocks (k : ResetCause) (table : List Nat) (rota : Bool) (s : State) :
    storeLaw (resetBlocks k table rota s) := by
  simp [storeLaw, resetBlocks, storeReset, peerReset, postingReset]

theorem storeLaw_beginStarting {s : State} (hs : storeLaw s) : storeLaw (beginStarting s) := by
  unfold beginStarting
  dsimp only
  split
  · exact storeLaw_setWarning_true hs
  · exact hs

theorem storeLaw_of_move {s t : State} (h : CoreMove s t) (hb : bootLaw s) (hs : storeLaw s) : storeLaw t := by
  cases h with
  | still h => exact storeLaw_of_view h hs
  | record f _ => exact hs
  | commit req => exact storeLaw_commitRequest req hs
  | close v _ _ => exact hs
  | abort _ => exact hs
  | leave hst =>
    rw [leaveDone, if_pos hst]
    exact hs
  | start p serial stamp _ => exact storeLaw_of_view (coreView_startCycle p serial stamp s) hs
  | warn => exact storeLaw_setWarning_true hs
  | unwarn => exact storeLaw_unwarn hb hs
  | swapStep w hw => exact storeLaw_swapStep hs hw
  | swapEnd w hw => exact storeLaw_endSwap hb hs hw
  | verifyFail w _ => exact storeLaw_verifyFailure hs
  | scan hscan => exact storeLaw_scanDone hb hs hscan
  | image bytes _ => exact hs
  | hold k =>
    unfold holdReset
    split
    · exact hs
    · exact storeLaw_resetBlocks (hardCause k) idleTable false s
  | release straps low _ =>
    exact storeLaw_beginStarting (s := { s with pins := { s.pins with straps := straps, supplyLow := low } }) hs
  | restart => exact storeLaw_beginStarting (storeLaw_resetBlocks _ _ _ s)

/-! ### The cycle and its record -/

/-- A station state in which no record is shown as open: what CYC posts, and an open record FINAL. -/
theorem cycleLaw_unshown {s : State} (hst : showsOpen s.cyc.station = false)
    (hc : s.peer.posting.cycleState = s.cyc.station) (hp : s.peer.posting.programme = s.cyc.programme)
    (hq : s.peer.posting.openSeq = 0)
    (hr : ∀ r ∈ s.cyc.record, r.final = true ∧ r.verdict ≠ .opened) : cycleLaw s := by
  have hcyc : inCycle s.cyc.station = false := by
    cases h : s.cyc.station <;> simp [h, showsOpen, inCycle] at hst ⊢
  refine ⟨hc, hp, by simp [hst, hq], by simp [hst], fun r h => ?_⟩
  obtain ⟨hf, hv⟩ := hr r h
  simp [hf, hv, hcyc]

/-- What the cycle's law says of a station that shows no open record. -/
theorem unshown_of_cycleLaw {s : State} (hs : cycleLaw s) (hst : showsOpen s.cyc.station = false) :
    s.peer.posting.openSeq = 0 ∧ ∀ r ∈ s.cyc.record, r.final = true ∧ r.verdict ≠ .opened := by
  obtain ⟨-, -, hq, -, hr⟩ := hs
  have hcyc : inCycle s.cyc.station = false := by
    cases h : s.cyc.station <;> simp [h, showsOpen, inCycle] at hst ⊢
  refine ⟨by simpa [hst] using hq, fun r h => ?_⟩
  obtain ⟨hf, hv⟩ := hr r h
  have hf' : r.final = true := hf.mpr hcyc
  exact ⟨hf', fun h => by simp [hv.mp h] at hf'⟩

/-- A change of the station state among those that show the record, with the record FINAL as the new state calls for. -/
theorem cycleLaw_setStation {st : StationState} {s : State} (hs : cycleLaw s)
    (hshow : showsOpen st = showsOpen s.cyc.station) (hin : inCycle st = inCycle s.cyc.station) :
    cycleLaw (setStation st s) := by
  obtain ⟨-, hp, hq, hr, hf⟩ := hs
  refine ⟨rfl, hp, ?_, ?_, ?_⟩
  · simpa [hshow] using hq
  · simpa [hshow] using hr
  · simpa [hin] using hf

theorem cycleLaw_commitEnded {s : State} (hs : cycleLaw s) : cycleLaw (commitEnded s) := by
  rcases commitEnded_cases s with ⟨_, h⟩ | ⟨hc, h⟩ <;> rw [h]
  · exact hs
  · have := cycleLaw_setStation (st := .done) hs (by rw [hc]; rfl) (by rw [hc]; rfl)
    exact this

theorem cycleLaw_failRequest (req : Request) {s : State} (hs : cycleLaw s) : cycleLaw (failRequest req s) := by
  rcases failRequest_cases req s with ⟨_, h⟩ | ⟨_, h⟩ <;> rw [h]
  · exact hs
  · exact cycleLaw_commitEnded hs

theorem cycleLaw_startUpEnd {s : State} (hs : cycleLaw s) (hst : s.cyc.station = .starting) : cycleLaw (startUpEnd s) := by
  obtain ⟨hq, hr⟩ := unshown_of_cycleLaw hs (by rw [hst]; rfl)
  have hstation : (startUpEnd s).cyc.station = if s.cfg.passed then .idle else .unconfigured := rfl
  refine cycleLaw_unshown ?_ rfl hs.2.1 hq hr
  rw [hstation]
  split <;> rfl

theorem cycleLaw_beginSwap {recovery : Bool} {req : Request} {s : State} (hs : cycleLaw s)
    (hst : recovery = true → s.cyc.station = .starting) : cycleLaw (beginSwap recovery req s) := by
  have hf : cycleLaw (enterFaulted .worn s) := hs
  unfold beginSwap
  split
  · split
    · exact cycleLaw_startUpEnd hf (hst ‹_›)
    · exact cycleLaw_failRequest req hf
  · exact hs

theorem cycleLaw_commitRequest (req : Request) {s : State} (hs : cycleLaw s) : cycleLaw (commitRequest req s) := by
  unfold commitRequest
  split
  · exact hs
  · split
    · exact hs
    · exact cycleLaw_beginSwap hs (by simp)
  · exact hs
  · exact cycleLaw_failRequest req hs

theorem cycleLaw_heldSwap {s : State} (hb : bootLaw s) (hs : cycleLaw s) : cycleLaw (heldSwap s) := by
  unfold heldSwap
  split
  · exact cycleLaw_beginSwap hs (by simp)
  · rename_i hst _
    exact cycleLaw_beginSwap hs fun _ => hb.1.mp (hb.2.1.mpr hst)
  · exact hs

theorem cycleLaw_verifyFailure {s : State} {w : Swap} (hb : bootLaw s) (hs : cycleLaw s) (hw : s.store.swap = some w) :
    cycleLaw (verifyFailure w s) := by
  have hcut : cycleLaw (enterFaulted .verify { cutSwap w s with store := { (cutSwap w s).store with pending := none } }) := hs
  unfold verifyFailure
  dsimp only
  split
  · exact cycleLaw_startUpEnd hcut (store_of_recover hb (recover_of_swap hb hw ‹_›).1).1
  · split
    · exact cycleLaw_commitEnded hcut
    · exact hcut

theorem cycleLaw_scanEnd {s : State} (hs : cycleLaw s) (hst : s.cyc.station = .starting) : cycleLaw (scanEnd s) := by
  unfold scanEnd
  split
  · exact cycleLaw_startUpEnd (s := enterFaulted .spent s) hs hst
  · exact cycleLaw_startUpEnd (s := { s with store := _ }) hs hst

theorem cycleLaw_nextSwap {s : State} (hs : cycleLaw s) : cycleLaw (nextSwap s) := by
  unfold nextSwap
  split
  · split
    · exact hs
    · exact cycleLaw_beginSwap hs (by simp)
  · exact hs

theorem cycleLaw_failPending {s : State} (hs : cycleLaw s) : cycleLaw (failPending s) := by
  unfold failPending
  split
  · exact cycleLaw_failRequest _ hs
  · exact hs

theorem cycleLaw_endSwap {s : State} {w : Swap} (hb : bootLaw s) (hs : cycleLaw s) (hw : s.store.swap = some w) :
    cycleLaw (endSwap w s) := by
  unfold endSwap
  dsimp only
  split
  · exact cycleLaw_scanEnd hs (store_of_recover hb (recover_of_swap hb hw ‹_›).1).1
  · have hcur : cycleLaw { s with store := swapCurrent w s.store } := hs
    unfold requestDone
    split
    · split
      · exact cycleLaw_failPending (s := enterFaulted .spent _) (cycleLaw_commitEnded hcur)
      · exact cycleLaw_nextSwap (cycleLaw_commitEnded hcur)
    · exact cycleLaw_nextSwap hcur

theorem cycleLaw_scanDone {s : State} (hb : bootLaw s) (hs : cycleLaw s) (h : s.boot = .scan) : cycleLaw (scanDone s) := by
  have hst := (store_of_scan hb h).2.2.2
  unfold scanDone
  dsimp only
  split
  · exact cycleLaw_scanEnd (s := { s with store := _ }) hs hst
  · split
    · exact hs
    · exact cycleLaw_beginSwap (s := { s with boot := _, store := _ }) hs fun _ => hst

theorem cycleLaw_resetBlocks (k : ResetCause) (table : List Nat) (rota : Bool) (s : State) :
    cycleLaw (resetBlocks k table rota s) :=
  cycleLaw_unshown rfl rfl rfl rfl (by simp [resetBlocks, cycReset])

theorem cycleLaw_beginStarting {s : State} (hs : cycleLaw s) : cycleLaw (beginStarting s) := by
  unfold beginStarting
  dsimp only
  split
  · exact hs
  · exact hs

/-- The cycle's close: the record FINAL with its verdict, and CLOSING. -/
theorem cycleLaw_close {s : State} {v : Verdict} (hs : cycleLaw s) (hst : inCycle s.cyc.station = true) (hv : v ≠ .opened) :
    cycleLaw (setStation .closing (writeRecord (fun r => { r with verdict := v, final := true }) s)) := by
  obtain ⟨-, hp, hq, hr, -⟩ := hs
  have hshow : showsOpen s.cyc.station = true := by simp [showsOpen, hst]
  obtain ⟨r, hrec⟩ := Option.isSome_iff_exists.mp (hr hshow)
  refine ⟨rfl, hp, ?_, fun _ => ?_, fun r' h => ?_⟩
  · rw [if_pos hshow, hrec] at hq
    simpa [hrec, showsOpen] using hq
  · simp [hrec]
  · simp [hrec] at h
    subst h
    simp [inCycle, hv]

/-- A START's opened record, posted. -/
theorem cycleLaw_showCycle (programme : Nat) (serial stamp : List Byte) (s : State) :
    cycleLaw (showCycle programme s.store.nextSeq (openCycle programme serial stamp s)) := by
  refine ⟨rfl, rfl, rfl, fun _ => rfl, fun r h => ?_⟩
  obtain rfl := Option.some.inj h
  simp [openedRecord, showCycle, inCycle]

theorem cycleLaw_of_move {s t : State} (h : CoreMove s t) (hb : bootLaw s) (hs : cycleLaw s) : cycleLaw t := by
  cases h with
  | still h => exact cycleLaw_of_view h hs
  | record f hf =>
    obtain ⟨hc, hp, hq, hr, hfin⟩ := hs
    refine ⟨hc, hp, ?_, by simpa using hr, fun r h => ?_⟩
    · cases hrec : s.cyc.record <;> simpa [hrec, hf _] using hq
    · obtain ⟨r', hr', rfl⟩ := Option.map_eq_some_iff.mp h
      obtain ⟨-, hf1, hf2⟩ := hf r'
      rw [hf1, hf2]
      exact hfin r' hr'
  | commit req => exact cycleLaw_commitRequest req hs
  | close v hst hv => exact cycleLaw_close hs hst hv
  | abort hst => exact cycleLaw_setStation hs (by simp [hst, showsOpen, inCycle]) (by simp [hst, inCycle])
  | leave hst =>
    rw [leaveDone, if_pos hst]
    refine cycleLaw_unshown rfl rfl hs.2.1 rfl fun r h => ?_
    obtain ⟨hf, hv⟩ := hs.2.2.2.2 r h
    have hf' : r.final = true := hf.mpr (by simp [hst, inCycle])
    exact ⟨hf', fun h => by simp [hv.mp h] at hf'⟩
  | start p serial stamp _ => exact cycleLaw_of_view (coreView_startCycle p serial stamp s) (cycleLaw_showCycle p serial stamp s)
  | warn => exact hs
  | unwarn => exact cycleLaw_heldSwap (bootLaw_setWarning false hb) hs
  | swapStep w _ => exact hs
  | swapEnd w hw => exact cycleLaw_endSwap hb hs hw
  | verifyFail w hw => exact cycleLaw_verifyFailure hb hs hw
  | scan hscan => exact cycleLaw_scanDone hb hs hscan
  | image bytes _ => exact hs
  | hold k =>
    unfold holdReset
    split
    · exact hs
    · exact cycleLaw_resetBlocks (hardCause k) idleTable false s
  | release straps low _ =>
    exact cycleLaw_beginStarting (s := { s with pins := { s.pins with straps := straps, supplyLow := low } }) hs
  | restart => exact cycleLaw_beginStarting (cycleLaw_resetBlocks _ _ _ s)

/-! ## Kept by every step -/

theorem bootLaw_of_moves {s t : State} (h : CoreMoves s t) (hs : bootLaw s) : bootLaw t := by
  induction h with
  | refl => exact hs
  | tail _ hm ih => exact bootLaw_of_move hm ih

theorem storeLaw_of_moves {s t : State} (h : CoreMoves s t) (hb : bootLaw s) (hs : storeLaw s) : storeLaw t := by
  induction h with
  | refl => exact hs
  | tail hms hm ih => exact storeLaw_of_move hm (bootLaw_of_moves hms hb) ih

theorem cycleLaw_of_moves {s t : State} (h : CoreMoves s t) (hb : bootLaw s) (hs : cycleLaw s) : cycleLaw t := by
  induction h with
  | refl => exact hs
  | tail hms hm ih => exact cycleLaw_of_move hm (bootLaw_of_moves hms hb) ih

/-- Settles O51: every step is a sequence of moves, each of which keeps both laws. -/
theorem stepsKeepTheStartUpAndStoreStates : Obligations.StepsKeepTheStartUpAndStoreStates := by
  intro s t hb hs h
  exact ⟨bootLaw_of_moves (step_moves h) hb, storeLaw_of_moves (step_moves h) hb hs⟩

/-- Settles O60: every step is a sequence of moves, each of which keeps the law of the cycle. -/
theorem stepsKeepTheCyclePosted : Obligations.StepsKeepTheCyclePosted := by
  intro s t hb hs h
  exact cycleLaw_of_moves (step_moves h) hb hs

end Sys2Proof.Machine
end

section
/-! SUPPORT. An order addressed to the station and taken at once reaches its owner (R179, R180), and how CYC answers the orders
and the stand's inputs that are refused or taken by station state alone. -/
namespace Sys2Proof.Machine

/-! ## An order taken at once -/

/-- An order alone in the buffer is taken by a free decoder. -/
theorem drain_order {src dst : Byte} {p : List Byte} {own : Bool} {s : State}
    (hb : s.lif.buffer = [⟨.full kindOrder src dst p, own⟩]) (hd : s.lif.decoder = .free) :
    drain 1 s = takeOrder dst p (popBuffer s) := by
  unfold drain
  simp [hb, hd, drain]

/-- An order to this station that finds an empty receive buffer and a free decoder is judged at once (R179). -/
theorem receive_order {dest order : Byte} {body : List Byte} {s : State} (h : orderHeard s)
    (hd : addressed s dest ∨ dest = destAll) :
    receive (orderFrame dest order body) false s = judgeOrder (dest == destAll) order body s := by
  obtain ⟨-, hbuf, hdec⟩ := h
  have hroute : isRouted s.cfg.number (orderFrame dest order body) = true := by
    rcases hd with ⟨hn, -⟩ | rfl
    · simp [isRouted, orderFrame, isOrder, hn]
    · simp [isRouted, orderFrame, isOrder]
  have hlif : { s.lif with buffer := [] } = s.lif := by rw [← hbuf]
  have hpop : popBuffer (withLif (fun l => { l with buffer := l.buffer ++ [⟨orderFrame dest order body, false⟩] }) s) = s := by
    simp [popBuffer, withLif, hbuf, hlif]
  unfold receive
  rw [if_pos hroute, if_neg (by simp [hbuf])]
  dsimp only
  rw [withLif_lif, hbuf]
  dsimp only [List.nil_append, List.length_singleton]
  rw [drain_order (src := 0) (dst := dest) (p := order :: body) (own := false) ?_ ?_, hpop]
  · rfl
  · rw [withLif_lif, hbuf]
    rfl
  · exact hdec

/-- An addressed order of the right form that finds room in the reply queue goes to its owner (R180). -/
theorem receive_owned {dest order : Byte} {body : List Byte} {s : State} (h : takesOrders s) (hd : addressed s dest)
    (hn : namesOrder order = true) (hw : wellFormedBody order body = true) :
    receive (orderFrame dest order body) false s = ownOrder false order body s := by
  have hb : (dest == destAll) = false := by simpa using hd.2
  have hroom : ¬ 4 ≤ s.lif.replies.length := by omega
  rw [receive_order h.1 (.inl hd), hb, judgeOrder]
  simp [dropsOrder, hroom, hn, hw]

/-- A broadcast ABORT goes to its owner, a full reply queue or not (R180). -/
theorem receive_broadcast_abort {s : State} (h : orderHeard s) :
    receive (orderFrame destAll codeAbort []) false s = ownAbort true s := by
  rw [receive_order h (.inr rfl), judgeOrder]
  simp [dropsOrder, mayBroadcast, namesOrder, wellFormedBody, codeAbort, ownOrder]

/-- A command of a running station whose meaning leads to a known state. -/
theorem whenReleased_eq {f : State → State} {s t : State} (hb : s.boot ≠ .held) (hf : f s = t) :
    whenReleased f s = .next (leaveIdle t) := hf ▸ whenReleased_running hb

/-- An order whose meaning is a reply alone. -/
theorem whenReleased_answered {f : State → State} {s : State} {r : Reply} (hb : s.boot ≠ .held) (hf : f s = queueReply r s) :
    whenReleased f s = .next (answered r s) := whenReleased_eq hb hf

/-! ## START refused (R3) -/

/-- The first of a list of reasons that applies. -/
theorem firstApplying_cons (why : Reason) (b : Bool) (l : List (Reason × Bool)) :
    (((why, b) :: l).find? (fun x => x.2)).map Prod.fst = if b then some why else (l.find? (fun x => x.2)).map Prod.fst := by
  cases b <;> simp

/-- The first reason that CYC finds is the first of R3's table that applies. -/
theorem startRefusal_eq_firstReason (programme : Nat) (s : State) : startRefusal programme s = firstReason programme s := by
  unfold startRefusal firstReason startConditions
  simp only [firstApplying_cons]
  cases hst : s.cyc.station <;> simp

theorem ownOrder_start (broadcast : Bool) (body : List Byte) (s : State) :
    ownOrder broadcast codeStart body s = ownStart body s := by
  simp [ownOrder, codeStart, codeAbort, codeFind, codeItem, codePhases, codeRdnew, codeRdseq, codeRestart]

/-- An addressed START of the right form, taken at once, goes to CYC with the input levels that it shows. -/
theorem receive_start {lines : StandLines} {dest : Byte} {body : List Byte} {s : State} (h : takesOrders s)
    (hd : addressed s dest) (hw : wellFormedBody codeStart body = true) :
    receive (orderFrame dest codeStart body) false (withPins (setLines lines) s)
      = ownStart body (withPins (setLines lines) s) := by
  rw [receive_owned (s := withPins (setLines lines) s) h hd rfl hw, ownOrder_start]

/-- Settles O10: the first reason that applies is the one that CYC answers with. -/
theorem startIsRefused : Obligations.StartIsRefused := by
  intro lines dest body why s h hd hw hwhy
  refine whenReleased_answered (s := withPins (setLines lines) s) h.1.1 ?_
  rw [receive_start h hd hw, ownStart, startRefusal_eq_firstReason]
  rw [withInputs] at hwhy
  rw [hwhy]

/-! ## ABORT (R14) -/

/-- An addressed ABORT, taken at once, goes to CYC. -/
theorem receive_abort {dest : Byte} {s : State} (h : takesOrders s) (hd : addressed s dest) :
    receive (orderFrame dest codeAbort []) false s = ownAbort false s := by
  rw [receive_owned h hd rfl rfl]
  rfl

theorem exec_abort_refused {dest : Byte} {s : State} {why : Reason} (h : takesOrders s) (hd : addressed s dest)
    (hwhy : abortRefusal s.cyc.station = some why) :
    exec (.abort dest []) s = .next (answered (refusal codeAbort why) s) :=
  whenReleased_answered h.1.1 (by rw [receive_abort h hd, ownAbort, hwhy]; rfl)

theorem exec_abort_accepted {dest : Byte} {s : State} (h : takesOrders s) (hd : addressed s dest)
    (hwhy : abortRefusal s.cyc.station = none) :
    exec (.abort dest []) s = .next (answered (plainReply codeAbort .accepted) (abortTaken false s)) := by
  refine (whenReleased_running h.1.1).trans ?_
  rw [receive_abort h hd, ownAbort, hwhy]
  rfl

theorem exec_abort_broadcast {s : State} (h : orderHeard s) :
    exec (.abort destAll []) s = .next (leaveIdle (abortTaken true s)) := by
  refine (whenReleased_running h.1).trans ?_
  rw [receive_broadcast_abort h]
  rfl

theorem abortTaken_testing {s : State} (broadcast : Bool) (h : s.cyc.station = .testing) :
    abortTaken broadcast s = abortCycle (abortedEvent broadcast s) stopForAbort s := if_pos h

theorem abortTaken_other {s : State} (broadcast : Bool) (h : s.cyc.station ≠ .testing) : abortTaken broadcast s = s :=
  if_neg h

/-- Settles O12, row by row of R14's table. -/
theorem abortByStationState : Obligations.AbortByStationState := by
  refine ⟨fun dest s h hd => ⟨fun hst => ?_, fun hst => ?_, fun hst => ?_, fun hst => ?_, fun hst => ?_, fun hst => ?_⟩,
    fun s h => ⟨fun hst => ?_, fun hst => ?_⟩⟩
  · exact exec_abort_refused h hd (by rw [hst]; rfl)
  · exact exec_abort_refused h hd (by rw [hst]; rfl)
  · exact exec_abort_refused h hd (by rcases hst with hst | hst <;> rw [hst] <;> rfl)
  · rw [exec_abort_accepted h hd (by rw [hst]; rfl), abortTaken_testing false hst]
    rfl
  · rw [exec_abort_accepted h hd (by rw [hst]; rfl), abortTaken_other false (by simp [hst])]
  · exact exec_abort_refused h hd (by rw [hst]; rfl)
  · rw [exec_abort_broadcast h, abortTaken_testing true hst]
    rfl
  · rw [exec_abort_broadcast h, abortTaken_other true hst]

/-! ## The stand's inputs outside TESTING (R12, R15, R16) -/

theorem standAbort_testing {s : State} (input : Nat) (h : s.cyc.station = .testing) :
    standAbort input s = abortCycle (standEvent input s) stopAtOnce s := by rw [standAbort, h]

theorem standAbort_aborting {s : State} (input : Nat) (h : s.cyc.station = .aborting) :
    standAbort input s = stopAtOnce (takeDev (standEvent input s) s) := by rw [standAbort, h]

theorem standAbort_other {s : State} (input : Nat) (ht : s.cyc.station ≠ .testing) (ha : s.cyc.station ≠ .aborting) :
    standAbort input s = s := by
  unfold standAbort
  cases hst : s.cyc.station <;> simp_all

/-- Outside DONE a falling axle input is an abort cause like the stand stop. -/
theorem axleFall_stand {s : State} (which : AxleInput) (h : s.cyc.station ≠ .done) :
    axleFall which s = standAbort (axleInputNum which) s := by
  cases which
  · exact if_neg h
  · rfl

/-- A stop at once leaves the commanded speed of a run-in at 0. -/
theorem stopAtOnce_cmd {s : State} (h : inRunIn s.run.state = true) : (stopAtOnce s).run.cmd = 0 := by
  simp [stopAtOnce, h, setSpeed]

/-- A stand input in ABORTING: STAND_STOP is taken, the commanded speed zeroed, and CYC left as it is. -/
theorem standAbort_aborting_spec {s : State} (input : Nat) (h : s.cyc.station = .aborting) :
    (standAbort input s).cyc = s.cyc ∧ (standAbort input s).dev = (takeDev (standEvent input s) s).dev
      ∧ (inRunIn s.run.state = true → (standAbort input s).run.cmd = 0) := by
  rw [standAbort_aborting input h]
  exact ⟨by simp, by simp, fun hrun => stopAtOnce_cmd (by simpa using hrun)⟩

/-- A deviation event does not see the input levels. -/
theorem takeDev_pins (e : DevEvent) (p : Pins) (s : State) : (takeDev e { s with pins := p }).dev = (takeDev e s).dev := by
  unfold takeDev
  rw [apply_ite State.dev, apply_ite State.dev]
  rfl

/-- Settles O14: by station state, each input's effect on CYC. -/
theorem standInputsByStationState : Obligations.StandInputsByStationState := by
  intro s hb
  have hother (input : Nat) (p : Pins) (ht : s.cyc.station ≠ .testing) (ha : s.cyc.station ≠ .aborting) :
      standAbort input { s with pins := p } = { s with pins := p } := standAbort_other input ht ha
  refine ⟨fun hst => ?_, fun hst which => ?_, fun ht ha => ⟨?_, ?_, fun hd => ?_⟩, fun hst => ?_⟩
  · obtain ⟨hcyc, hdev, hcmd⟩ := standAbort_aborting_spec (s := { s with pins := { s.pins with standStopOpen := true } }) 1 hst
    refine ⟨_, whenReleased_running hb, ?_⟩
    simp only [leaveIdle_frame]
    exact ⟨hcyc, hdev.trans (takeDev_pins _ _ s), hcmd⟩
  · obtain ⟨hcyc, hdev, hcmd⟩ :=
      standAbort_aborting_spec (s := { s with pins := dropInput which s.pins }) (axleInputNum which) hst
    refine ⟨_, whenReleased_running hb, ?_⟩
    rw [axleFall_stand which (by simp [hst])]
    simp only [leaveIdle_frame]
    exact ⟨hcyc, hdev.trans (takeDev_pins _ _ s), hcmd⟩
  · exact whenReleased_eq hb (hother 1 _ ht ha)
  · exact whenReleased_eq hb (hother 3 _ ht ha)
  · refine whenReleased_eq hb ?_
    exact (axleFall_stand (s := { s with pins := dropInput .axlePresent s.pins }) .axlePresent hd).trans (hother 2 _ ht ha)
  · refine whenReleased_eq hb ?_
    have hdone : axleFall .axlePresent { s with pins := dropInput .axlePresent s.pins }
        = leaveDone { s with pins := dropInput .axlePresent s.pins } := if_pos hst
    rw [hdone, leaveDone, if_pos hst]
    simp [setStation, writePosting, eventChange, dropInput]

end Sys2Proof.Machine
end

section
/-! SUPPORT. A change of a posted field that R20 marks sets the event-posting latch (R21): the operations of STORE and of the
cycle's end, one by one. -/
namespace Sys2Proof.Machine

/-! ## The event-posting latch (R20, R21) -/

/-- The posted fields whose change requests an event posting (R20). -/
def eventFields (p : Posting) : StationState × Acoustic × Listen × AirState × AirState × Bool :=
  (p.cycleState, p.acoustic, p.listen, p.air1, p.air2, p.yielding)

/-- From one state to the next a latch set stays set, and a change of an event field sets it. -/
structure Latches (s t : State) : Prop where
  kept : s.peer.latch = true → t.peer.latch = true
  sets : eventFields t.peer.posting ≠ eventFields s.peer.posting → t.peer.latch = true

theorem latchedOn_of_latches {s t : State} (h : Latches s t) : latchedOn s t := by
  intro hc
  refine h.sets fun he => ?_
  simp only [eventFields, Prod.mk.injEq] at he
  obtain ⟨h1, h2, h3, h4, h5, h6⟩ := he
  simp [h1, h2, h3, h4, h5, h6] at hc

theorem Latches.refl (s : State) : Latches s s := ⟨id, fun h => absurd rfl h⟩

theorem Latches.trans {s t u : State} (h : Latches s t) (h' : Latches t u) : Latches s u := by
  refine ⟨fun hl => h'.kept (h.kept hl), fun he => ?_⟩
  by_cases ht : eventFields t.peer.posting = eventFields s.peer.posting
  · exact h'.sets fun hu => he (hu.trans ht)
  · exact h'.kept (h.sets ht)

/-- A change of anything but PEER's state. -/
theorem Latches.of_peer {s t : State} (h : t.peer = s.peer) : Latches s t := by
  refine ⟨fun hl => h ▸ hl, fun he => absurd ?_ he⟩
  rw [h]

/-- What precedes has left PEER's state. -/
theorem Latches.after {s t u : State} (h : Latches u t) (hp : u.peer = s.peer) : Latches s t :=
  (Latches.of_peer hp).trans h

theorem eventChange_eq_false (p q : Posting) : eventChange p q = false ↔ eventFields p = eventFields q := by
  simp [eventChange, eventFields, and_assoc]

theorem Latches.writePosting (f : Posting → Posting) (s : State) : Latches s (writePosting f s) := by
  refine ⟨fun hl => by simp [hl], fun he => ?_⟩
  rw [writePosting_latch, Bool.or_eq_true]
  refine .inr (Bool.eq_true_of_not_eq_false fun hc => he ?_)
  exact ((eventChange_eq_false _ _).mp hc).symm

theorem Latches.setStation (st : StationState) (s : State) : Latches s (setStation st s) :=
  (Latches.writePosting _ _).after rfl

theorem Latches.writeRecord (f : OpenRecord → OpenRecord) (s : State) : Latches s (writeRecord f s) := .of_peer rfl

theorem Latches.withRun (f : Run → Run) (s : State) : Latches s (withRun f s) := .of_peer rfl

theorem Latches.withVib (f : Vib → Vib) (s : State) : Latches s (withVib f s) := .of_peer rfl

theorem Latches.withLsn (f : Lsn → Lsn) (s : State) : Latches s (withLsn f s) := .of_peer rfl

theorem Latches.leaveIdle (s : State) : Latches s (leaveIdle s) := .of_peer (by simp)

/-! ### STORE -/

theorem Latches.commitEnded (s : State) : Latches s (commitEnded s) := by
  rcases commitEnded_cases s with ⟨_, h⟩ | ⟨_, h⟩ <;> rw [h]
  · exact .refl s
  · exact (Latches.setStation .done s).trans (.writePosting _ _)

theorem Latches.failRequest (req : Request) (s : State) : Latches s (failRequest req s) := by
  rcases failRequest_cases req s with ⟨_, h⟩ | ⟨_, h⟩ <;> rw [h]
  · exact .refl s
  · exact .commitEnded s

theorem Latches.enterFaulted (cause : FaultCause) (s : State) : Latches s (enterFaulted cause s) :=
  (Latches.writePosting _ _).after rfl

theorem Latches.startUpEnd (s : State) : Latches s (startUpEnd s) := by
  unfold Machine.startUpEnd
  refine Latches.trans ?_ (.writePosting _ _)
  exact (Latches.setStation _ _).after rfl

theorem Latches.scanEnd (s : State) : Latches s (scanEnd s) := by
  unfold Machine.scanEnd
  split
  · exact (Latches.enterFaulted .spent s).trans (.startUpEnd _)
  · exact (Latches.startUpEnd _).after rfl

theorem Latches.beginSwap (recovery : Bool) (req : Request) (s : State) : Latches s (beginSwap recovery req s) := by
  unfold Machine.beginSwap
  split
  · split
    · exact (Latches.enterFaulted .worn s).trans (.startUpEnd _)
    · exact (Latches.enterFaulted .worn s).trans (.failRequest _ _)
  · exact .of_peer rfl

theorem Latches.commitRequest (req : Request) (s : State) : Latches s (commitRequest req s) := by
  unfold Machine.commitRequest
  split
  · exact .refl s
  · split
    · exact .of_peer rfl
    · exact .beginSwap _ _ s
  · exact .of_peer rfl
  · exact .failRequest _ s

theorem Latches.failPending (s : State) : Latches s (failPending s) := by
  unfold Machine.failPending
  split
  · exact (Latches.failRequest _ _).after rfl
  · exact .refl s

theorem Latches.nextSwap (s : State) : Latches s (nextSwap s) := by
  unfold Machine.nextSwap
  split
  · split
    · exact .of_peer rfl
    · exact (Latches.beginSwap _ _ _).after rfl
  · exact .of_peer rfl

theorem Latches.requestDone (req : Request) (s : State) : Latches s (requestDone req s) := by
  unfold Machine.requestDone
  split
  · split
    · exact ((Latches.commitEnded s).trans (.enterFaulted _ _)).trans (.failPending _)
    · exact (Latches.commitEnded s).trans (.nextSwap _)
  · exact .nextSwap s

theorem Latches.endSwap (w : Swap) (s : State) : Latches s (endSwap w s) := by
  unfold Machine.endSwap
  dsimp only
  split
  · exact (Latches.scanEnd _).after rfl
  · exact (Latches.requestDone _ _).after rfl

theorem Latches.verifyFailure (w : Swap) (s : State) : Latches s (verifyFailure w s) := by
  have hcut : Latches s (Machine.enterFaulted .verify { cutSwap w s with store := { (cutSwap w s).store with pending := none } }) :=
    (Latches.enterFaulted _ _).after rfl
  unfold Machine.verifyFailure
  dsimp only
  split
  · exact hcut.trans (.startUpEnd _)
  · split
    · exact hcut.trans (.commitEnded _)
    · exact hcut

theorem Latches.scanDone (s : State) : Latches s (scanDone s) := by
  unfold Machine.scanDone
  dsimp only
  split
  · exact (Latches.scanEnd _).after rfl
  · split
    · exact .of_peer rfl
    · exact (Latches.beginSwap _ _ _).after rfl

/-! ### CYC -/

theorem Latches.handOver (kind : CommitKind) (s : State) : Latches s (handOver kind s) := by
  unfold Machine.handOver
  split
  · exact .commitRequest _ s
  · exact .refl s

theorem Latches.checkpoint (s : State) : Latches s (checkpoint s) := by
  unfold Machine.checkpoint
  split
  · exact (Latches.handOver _ _).after rfl
  · exact .refl s

theorem Latches.closeCycle (s : State) : Latches s (closeCycle s) := by
  unfold Machine.closeCycle
  refine Latches.trans ?_ (.handOver .final _)
  exact (Latches.setStation .closing _).after (by simp)

theorem Latches.jobEnded (s : State) : Latches s (jobEnded s) := by
  unfold Machine.jobEnded
  split
  · split
    · exact .closeCycle s
    · exact .checkpoint s
  · exact .refl s

theorem Latches.closeIfAtRest (s : State) : Latches s (closeIfAtRest s) := by
  unfold Machine.closeIfAtRest
  split
  · exact .closeCycle s
  · exact .refl s

/-! ### LEAK, LSN and the commanded speed -/

theorem Latches.postAir (s : State) : Latches s (postAir s) := .writePosting _ s

theorem Latches.withCircuit (c : CircuitId) (f : Circuit → Circuit) (s : State) : Latches s (withCircuit c f s) :=
  (Latches.postAir _).after rfl

theorem Latches.writeCircuit (c : CircuitId) (s : State) : Latches s (writeCircuit c s) := .of_peer (by simp)

theorem Latches.ventExpired (c : CircuitId) (s : State) : Latches s (ventExpired c s) := by
  unfold Machine.ventExpired
  split
  · exact ((Latches.withCircuit c _ s).trans (.writeCircuit c _)).trans (.jobEnded _)
  · exact .refl s

theorem Latches.abortCircuit (c : CircuitId) (s : State) : Latches s (abortCircuit c s) := by
  unfold Machine.abortCircuit
  split
  · split
    · exact (Latches.withCircuit c _ s).trans (.writeCircuit c _)
    · exact .refl s
  · exact .withCircuit c _ s

theorem Latches.abortLeak (s : State) : Latches s (abortLeak s) :=
  ((Latches.abortCircuit .one s).trans (.abortCircuit .two _)).trans (.of_peer rfl)

theorem Latches.takeDev (e : DevEvent) (s : State) : Latches s (takeDev e s) := .of_peer (by simp)

theorem Latches.leaveListening (s : State) : Latches s (leaveListening s) := by
  unfold Machine.leaveListening postListen postListenAge
  refine Latches.trans ?_ (.writePosting _ _)
  exact (Latches.writePosting _ _).after rfl

theorem Latches.lsnSweepEnded (s : State) : Latches s (lsnSweepEnded s) := by
  unfold Machine.lsnSweepEnded
  split
  · exact .leaveListening s
  · exact .refl s

theorem Latches.abandonSweep (s : State) : Latches s (abandonSweep s) := by
  unfold Machine.abandonSweep lsnAbandon
  split
  · exact .of_peer rfl
  · exact (Latches.leaveListening s).trans (.of_peer rfl)

theorem Latches.postSpeed (s : State) : Latches s (postSpeed s) := .writePosting _ s

theorem Latches.setSpeed (rpm : Nat) (s : State) : Latches s (setSpeed rpm s) :=
  (Latches.postSpeed _).after rfl

theorem Latches.postYielding (b : Bool) (s : State) : Latches s (postYielding b s) := .writePosting _ s

theorem Latches.toStopping (why : EndReason) (s : State) : Latches s (toStopping why s) := by
  unfold Machine.toStopping
  split
  · refine Latches.trans ?_ (.abandonSweep _)
    exact (Latches.postYielding false _).after (by simp)
  · exact .refl s

theorem Latches.changeReason (why : EndReason) (s : State) : Latches s (changeReason why s) := .of_peer (by simp)

theorem Latches.stopForAbort (s : State) : Latches s (stopForAbort s) :=
  (Latches.changeReason .abort s).trans (.toStopping .abort _)

theorem Latches.stopAtOnce (s : State) : Latches s (stopAtOnce s) := by
  unfold Machine.stopAtOnce
  split
  · exact ((Latches.changeReason .standStop s).trans (.toStopping .standStop _)).trans (.setSpeed 0 _)
  · exact .refl s

end Sys2Proof.Machine
end

section
/-! SUPPORT. How STORE takes a commit request and the supply warning (O47), and the laws of the reset state (O50). -/
namespace Sys2Proof.Machine

/-! ## The supply warning and the commit request (R160, R164, R197) -/

/-- The warning's flag is none of the event fields, so posting it touches nothing else (R20, R197). -/
theorem setWarning_eq (on : Bool) (s : State) : setWarning on s = { s with
    supplyWarning := on
    peer := { s.peer with posting := { s.peer.posting with supplyWarning := on } } } := by
  simp [setWarning, writePosting, eventChange]

/-- A swap begins where its generation can rise (R161). -/
theorem beginSwap_of_lt {recovery : Bool} {req : Request} {s : State} (h : (swapOf s.store recovery req).gen < spentSeq) :
    beginSwap recovery req s = { s with store := { s.store with
      swap := some (swapOf s.store recovery req)
      state := if recovery then .scanning else .swapping } } := if_neg (by omega)

/-- A request whose generation cannot rise faults STORE with WORN (R161). -/
theorem beginSwap_worn {req : Request} {s : State} (h : spentSeq ≤ (swapOf s.store false req).gen) :
    beginSwap false req s = failRequest req (enterFaulted .worn s) := by
  rw [beginSwap, if_pos h]; rfl

theorem commitRequest_ready {req : Request} {s : State} (h : s.store.state = .ready) (hw : s.supplyWarning = false) :
    commitRequest req s = beginSwap false req s := by
  simp [commitRequest, h, hw]

theorem commitRequest_faulted {req : Request} {s : State} (h : s.store.state = .faulted) :
    commitRequest req s = failRequest req s := by rw [commitRequest, h]

/-- In SWAPPING, and under the warning, a request goes to the pending image (R160, R164). -/
theorem commitRequest_held {req : Request} {s : State}
    (h : s.store.state = .swapping ∨ s.store.state = .ready ∧ s.supplyWarning = true) :
    commitRequest req s = { s with store := { s.store with pending := replacePending s.store.pending req } } := by
  rcases h with h | ⟨h, hw⟩
  · rw [commitRequest, h]
  · simp [commitRequest, h, hw]

/-- A FINAL refused where no swap can begin ends the cycle (R9, R160). -/
theorem commitRequest_failed {req : Request} {s : State}
    (h : s.store.state = .faulted ∨ s.store.state = .ready ∧ s.supplyWarning = false
      ∧ spentSeq ≤ (swapOf s.store false req).gen) :
    ∃ u : State, commitRequest req s = failRequest req u ∧ u.cyc = s.cyc := by
  rcases h with h | ⟨h, hw, hg⟩
  · exact ⟨s, commitRequest_faulted h, rfl⟩
  · exact ⟨enterFaulted .worn s, (commitRequest_ready h hw).trans (beginSwap_worn hg), by simp⟩

/-- What CYC does with a FINAL that failed in CLOSING (R11, R160). -/
theorem failRequest_closing {req : Request} {s : State} (hk : req.kind = .final) (hst : s.cyc.station = .closing) :
    failRequest req s = writePosting (fun p => { p with lastVerdict := (s.cyc.record.map OpenRecord.verdict).getD .unset })
      (setStation .done s) := by
  rw [failRequest, hk]
  exact if_pos hst

theorem failRequest_storeFault (req : Request) (s : State) :
    (failRequest req s).peer.posting.storeFault = s.peer.posting.storeFault := by
  rcases failRequest_cases req s with ⟨-, h⟩ | ⟨-, h⟩
  · rw [h]
  · rcases commitEnded_cases s with ⟨-, h'⟩ | ⟨-, h'⟩ <;> rw [h, h']
    rfl

theorem replacePending_keeps {q req : Request} (hq : q.kind = .final) (hr : req.kind = .checkpoint) :
    replacePending (some q) req = some q := if_pos ⟨hq, hr⟩

theorem replacePending_takes {held : Option Request} {req : Request}
    (h : ∀ q, held = some q → q.kind = .checkpoint ∨ req.kind = .final) : replacePending held req = some req := by
  cases held with
  | none => rfl
  | some q =>
    refine if_neg fun ⟨hq, hr⟩ => ?_
    rcases h q rfl with h | h <;> simp_all

theorem exec_supplyWarningCleared {s t : State} (hb : s.boot ≠ .held)
    (h : heldSwap (setWarning false { s with pins := { s.pins with supplyLow := false } }) = t) :
    exec .supplyWarningCleared s = .next (leaveIdle t) := 
  whenReleased_eq (f := fun s => heldSwap (setWarning false s)) (s := { s with pins := { s.pins with supplyLow := false } })
    hb h

/-- Settles O47: the warning by STORE's state when it falls, and the request by what stands in its way. -/
theorem supplyWarningHoldsSwaps : Obligations.SupplyWarningHoldsSwaps := by
  refine ⟨fun s hb => ⟨?_, fun hp hr => ?_, fun q hst hp hg => ?_, fun req hst hr hg => ?_⟩, fun req s => ?_⟩
  · exact whenReleased_eq (s := { s with pins := { s.pins with supplyLow := true } }) hb (setWarning_eq true _)
  · refine exec_supplyWarningCleared hb ?_
    rw [setWarning_eq, heldSwap]
    simp only [hp, hr]
    split <;> simp_all
  · refine exec_supplyWarningCleared hb ?_
    rw [setWarning_eq, heldSwap]
    simp only [hst, hp]
    exact beginSwap_of_lt hg
  · refine exec_supplyWarningCleared hb ?_
    rw [setWarning_eq, heldSwap]
    simp only [hst, hr]
    refine (beginSwap_of_lt (by exact hg)).trans ?_
    rw [if_pos rfl, ← hst]
    rfl
  refine ⟨latchedOn_of_latches (.commitRequest req s), fun hst hw hg => ?_, fun h => ⟨fun q hp hq hk => ?_, fun hq => ?_⟩,
    fun hst hk => ?_, fun hst hw hg => ?_, fun h hk hst => ?_, fun hst => ?_⟩
  · exact (commitRequest_ready hst hw).trans (beginSwap_of_lt hg)
  · rw [commitRequest_held h, hp, replacePending_keeps hq hk, ← hp]
  · rw [commitRequest_held h, replacePending_takes hq]
  · rw [commitRequest_faulted hst, failRequest, hk]
  · rw [commitRequest_ready hst hw, beginSwap_worn hg]
    exact ⟨(failRequest_frame req _).2.2.2.2.2.2.1, failRequest_storeFault req _⟩
  · obtain ⟨u, hu, hcyc⟩ := commitRequest_failed h
    rw [hu, failRequest_closing hk (hcyc ▸ hst), hcyc]
    exact ⟨rfl, rfl⟩
  · rw [commitRequest, hst]

end Sys2Proof.Machine
end

section
/-! SUPPORT. The laws at the state after reset, block by block (O50). -/
namespace Sys2Proof.Machine

/-! ## The laws at the state after reset -/

theorem bootLaw_reset : bootLaw State.reset :=
  ⟨by decide, by decide, fun _ h => (by cases h), by decide, by decide⟩

theorem storeLaw_reset : storeLaw State.reset := by
  refine ⟨?_, ?_, ?_, ?_, ?_, rfl⟩ <;> decide

theorem flashLaw_reset : flashLaw State.reset := ⟨List.Pairwise.nil, fun _ h => (by cases h)⟩

theorem deviationLaw_reset : deviationLaw State.reset :=
  ⟨by decide, fun _ h => (by cases h), by decide, by decide, by decide, fun _ => rfl⟩

theorem peerLaw_reset : peerLaw State.reset :=
  ⟨by decide, by decide, List.Pairwise.nil, fun _ h => (by cases h), by decide, fun _ => rfl⟩

/-- No programme is defined before an image is read, so none has to be in its ranges (R193). -/
theorem configLaw_reset : configLaw State.reset := by
  refine ⟨by decide, fun p hp hd => ?_⟩
  obtain rfl : p = programmeZero := List.eq_of_mem_replicate hp
  cases hd

/-- Both tables are the idle table, and no channel has been sampled (R101, R111). -/
theorem phaseLaw_reset : phaseLaw State.reset := by decide

/-- Settles O50, law by law. -/
theorem resetMeetsEveryLaw : Obligations.ResetMeetsEveryLaw :=
  ⟨bootLaw_reset, storeLaw_reset, flashLaw_reset, by decide, deviationLaw_reset, peerLaw_reset, by decide, by decide,
    by decide, configLaw_reset, by decide, by decide, by decide, phaseLaw_reset, by decide⟩

end Sys2Proof.Machine
end

section
/-! SUPPORT. The tick: which commands fall due with it, whatever the order in which they are taken (O2). -/
namespace Sys2Proof.Machine

/-! ## The queue a tick leaves -/

theorem mem_placeEvent {x : Nat × Instr} {k : Nat} {c : Instr} {l : List (Nat × Instr)} :
    x ∈ placeEvent k c l ↔ x = (k, c) ∨ x ∈ l := by
  induction l with
  | nil => simp [placeEvent]
  | cons y l ih =>
    unfold placeEvent
    split
    · simp
    · rw [List.mem_cons, ih, List.mem_cons, or_left_comm]

theorem mem_placeEvents {c : Instr} {draw i : Nat} {l : List Instr} :
    c ∈ (placeEvents draw i l).map Prod.snd ↔ c ∈ l := by
  induction l generalizing i with
  | nil => simp [placeEvents]
  | cons d l ih =>
    have hd := ih (i := i + 1)
    simp only [List.mem_map, Prod.exists, exists_eq_right] at hd
    simp [placeEvents, mem_placeEvent, hd, eq_comm (a := d)]

/-- The free order neither loses nor adds a command. -/
theorem mem_arrange {c : Instr} {draw : Nat} {l : List Instr} : c ∈ arrange draw l ↔ c ∈ l := by
  unfold arrange
  split
  · rfl
  · rfl
  · exact mem_placeEvents

theorem mem_whenDue {due : Bool} {c d : Instr} : c ∈ whenDue due d ↔ due = true ∧ c = d := by
  unfold whenDue
  split <;> simp_all

theorem mem_circuitDue {c : CircuitId} {k : Circuit} {d : Instr} :
    d ∈ circuitDue c k ↔ k.timer = 1 ∧ d ∈ timerEvent c k.state := by
  unfold circuitDue reaches
  split <;> simp_all

theorem mem_airWaitEvents {s : State} {d : Instr} :
    d ∈ airWaitEvents s ↔ ∃ c, d = .airWaitLimit c ∧ airWaitDue c s = true ∧ (c = .two → airWaitDue .one s = false) := by
  have h2 : d ∈ whenDue (airWaitDue .two s) (.airWaitLimit .two) ↔ d = .airWaitLimit .two ∧ airWaitDue .two s = true := by
    rw [mem_whenDue, and_comm]
  unfold airWaitEvents
  split
  next h1 =>
    refine ⟨fun h => ⟨.one, by simpa using h, h1, nofun⟩, ?_⟩
    rintro ⟨c, rfl, hc, htwo⟩
    cases c with
    | one => simp
    | two => simp [h1] at htwo
  next h1 =>
    rw [h2]
    refine ⟨fun h => ⟨.two, h.1, h.2, fun _ => by simpa using h1⟩, ?_⟩
    rintro ⟨c, rfl, hc, -⟩
    cases c with
    | one => exact absurd hc h1
    | two => exact ⟨rfl, hc⟩

/-- What a whole millisecond puts into an empty queue. -/
def msDue (s : State) (d : Instr) : Prop := d ∈ dueEvents s ++ boundaryEvents s

theorem msDue_iff {s : State} {d : Instr} : msDue s d ↔
    (s.peer.periodLeft = 1 ∧ d = .postingPeriodExpiry (Config.ageBeforeLsn s.draws) (Config.ageBeforeLeak s.draws))
    ∨ (s.run.rampLeft = 1 ∧ d = .rampStep)
    ∨ ((s.run.sinceIndex = 1499 ∧ s.run.lastIndex.isSome = true) ∧ d = .indexTimeout)
    ∨ ((inCycle s.cyc.station = true ∧ inRunIn s.run.state = true ∧ (s.cyc.timerMs + 1) % 1000 = 0) ∧ d = .oilHistoryAppend)
    ∨ ((s.lsn.state = .deferring ∧ deferralLimitMs s ≤ s.lsn.deferralMs + 1) ∧ d = .deferralLimit)
    ∨ (∃ c, d = .airWaitLimit c ∧ airWaitDue c s = true ∧ (c = .two → airWaitDue .one s = false))
    ∨ (s.leak.c1.timer = 1 ∧ d ∈ timerEvent .one s.leak.c1.state)
    ∨ (s.leak.c2.timer = 1 ∧ d ∈ timerEvent .two s.leak.c2.state)
    ∨ (s.lif.restartLeft = some 1 ∧ d = .restartTimeout)
    ∨ (s.sca.rota = true ∧ d = .phaseBoundary) := by
  simp only [msDue, dueEvents, boundaryEvents, List.mem_append, mem_whenDue, mem_circuitDue, mem_airWaitEvents, reaches,
    deferralDue, Bool.and_eq_true, beq_iff_eq, decide_eq_true_eq, or_assoc, and_assoc]

/-- A circuit's timer expires as the command of its state, and as no other (R114). -/
theorem mem_timerEvent {c : CircuitId} {st : CircuitState} {d : Instr} : d ∈ timerEvent c st ↔
    (st = .fill ∧ d = .fillTimerExpiry c) ∨ (st = .stabilise ∧ d = .stabiliseTimerExpiry c)
      ∨ (st = .measure ∧ d = .measureTimerExpiry c) ∨ (st = .vent ∧ d = .ventTimerExpiry c) := by
  cases st <;> simp [timerEvent]

theorem arrange_boundary (s : State) :
    arrange s.draws (boundaryEvents s) = if s.sca.rota then [.phaseBoundary] else [] := by
  unfold boundaryEvents whenDue
  split <;> rfl

theorem tick_held {s : State} (hb : s.boot = .held) : tick s = s := if_pos hb

theorem tick_quarter {s : State} (hb : s.boot ≠ .held) (hq : s.clock.quarter < 3) :
    tick s = enqueue (boundaryEvents s) { s with clock := { s.clock with quarter := s.clock.quarter + 1 } } := by
  rw [tick, if_neg hb, if_pos hq]

theorem tick_ms {s : State} (hb : s.boot ≠ .held) (hq : 3 ≤ s.clock.quarter) :
    tick s = enqueue (dueEvents s ++ boundaryEvents s) (tickTimers s) := by
  rw [tick, if_neg hb, if_neg (by omega)]

theorem circuitOf_tick (events : List Instr) (s : State) (c : CircuitId) :
    circuitOf (enqueue events (tickTimers s)) c = tickCircuit (circuitOf s c) := by
  cases c <;> rfl

/-- Settles O2: by the quarter, and at a whole millisecond event by event. -/
theorem stepTicksWhenIdle : Obligations.StepTicksWhenIdle := by
  intro s hp
  have hstep : step s = .next (tick s) := by rw [step, hp]
  refine ⟨fun hb => by rw [hstep, tick_held hb], fun hb hq => ?_, fun hb hq => ?_⟩
  · rw [hstep, tick_quarter hb hq, enqueue]
    simp only [hp, List.nil_append, arrange_boundary]
  have hmem (d : Instr) : d ∈ (tick s).pending ↔ msDue s d := by
    rw [tick_ms hb hq]
    simp [enqueue, hp, mem_arrange, msDue]
  refine ⟨tick s, hstep, ?_⟩
  simp only [hmem, msDue_iff, mem_timerEvent]
  rw [tick_ms hb hq]
  refine ⟨rfl, rfl, rfl, rfl, rfl, ?_, ?_, ?_, ?_, ?_, ?_, rfl, ?_, ?_, ?_⟩
  · simp
  · simp
  · simp
  · simp
  · simp
  · simp [deferralLimitMs]
  · rintro c due rfl
    cases c <;> simp [airWaitDue, and_assoc]
  · intro c
    rw [circuitOf_tick]
    cases c <;> simp [tickCircuit, runDown, bump, circuitOf, Leak.circuit]
  · simp

end Sys2Proof.Machine
end

section
/-! SUPPORT. Flash: what a write leaves byte by byte, and what a step of a swap that is cut off leaves of it (O5, O46). -/
namespace Sys2Proof.Machine

/-! ## Byte by byte -/

/-- A write programs the bytes it covers inside the flash, and no others. -/
theorem readByte_writeBytes {m : List Host.Cell} (a : Nat) (bs : List Byte) (c : Nat) (h : flashWf m) :
    readByte (writeBytes m a bs) c
      = if a ≤ c ∧ c < a + bs.length ∧ c < flashSize then bs.getD (c - a) 0 else readByte m c := by
  induction bs generalizing m a with
  | nil => rw [writeBytes, if_neg (by simp; omega)]
  | cons b bs ih =>
    have hb : readByte (writeByte m a b) c = if c = a ∧ c < flashSize then b else readByte m c := by
      by_cases ha : a < flashSize
      · rw [readByte_writeByte a b c h ha]
        exact if_congr ⟨fun e => ⟨e, e ▸ ha⟩, And.left⟩ rfl rfl
      · rw [writeByte, if_neg ha, if_neg (by omega)]
    rw [writeBytes, ih (a + 1) (writeByte_wf a b h), hb, List.length_cons]
    by_cases hc : a + 1 ≤ c ∧ c < a + 1 + bs.length ∧ c < flashSize
    · rw [if_pos hc, if_pos (by omega), show c - a = c - (a + 1) + 1 by omega, List.getD_cons_succ]
    · rw [if_neg hc]
      by_cases hca : c = a ∧ c < flashSize
      · rw [if_pos hca, if_pos (by omega), show c - a = 0 by omega, List.getD_cons_zero]
      · rw [if_neg hca, if_neg (by omega)]

/-- A page that counts as CURRENT has a status word of zeros. -/
theorem status_of_headerCurrent {m : List Host.Cell} {pair base : Nat} (h : headerCurrent pair (readBytes m base 16) = true)
    (i : Nat) (hi : i < 4) : readByte m (base + i) = 0 := by
  rw [headerCurrent, Bool.and_assoc, Bool.and_eq_true, beq_iff_eq] at h
  have hz := h.1
  simp only [field, readBytes, List.range, List.range.loop, List.map_cons, List.drop_zero, List.take_succ_cons, fromBe,
    List.foldl_cons, List.take_zero, List.foldl_nil] at hz
  refine BitVec.eq_of_toNat_eq (?_ : _ = 0)
  obtain rfl | rfl | rfl | rfl : i = 0 ∨ i = 1 ∨ i = 2 ∨ i = 3 := by omega
  all_goals omega

/-- The status word of a page that is made to read FILLING. -/
def fillingStatus : List Byte := [0x00, 0x00, 0xFF, 0xFF]

theorem be_filling : be 4 0x0000FFFF = fillingStatus := rfl

/-- Making a page read FILLING touches nothing but the status word of a page that counted as CURRENT. -/
theorem readByte_neverCurrent {m : List Host.Cell} (pair : Nat) (side : Side) (h : flashWf m) (a : Nat) :
    readByte (neverCurrent pair side m) a = readByte m a
      ∨ ∃ i, i < 4 ∧ a = pageBase pair side + i
          ∧ headerCurrent pair (readBytes m (pageBase pair side) 16) = true
          ∧ readByte (neverCurrent pair side m) a = fillingStatus.getD i 0 := by
  unfold neverCurrent
  split
  next hc =>
    rw [be_filling, readByte_writeBytes _ _ _ h]
    split
    next hin =>
      obtain ⟨h1, h2, -⟩ := hin
      have h4 : fillingStatus.length = 4 := rfl
      exact .inr ⟨a - pageBase pair side, by omega, by omega, hc, rfl⟩
    · exact .inl rfl
  · exact .inl rfl

/-! ## The steps of a swap (R161) -/

section
variable {w : Swap} (current : Option Side) (m : List Host.Cell)

theorem swapStepFlash_erase (h : w.step = 2) :
    swapStepFlash w current m = eraseBytes m (pageBase w.pair w.side) pageSize := by simp only [swapStepFlash, h]

theorem swapStepFlash_header (h : w.step = 3) :
    swapStepFlash w current m = writeBytes m (pageBase w.pair w.side) (fillingHeader w.gen w.pair) := by simp only [swapStepFlash, h]

theorem swapStepFlash_below (h : w.step = 4) :
    swapStepFlash w current m = copySlots w.pair current w.side (List.range w.pos) m := by simp only [swapStepFlash, h]

theorem swapStepFlash_image (h : w.step = 5) :
    swapStepFlash w current m = writeBytes m (slotAddr w.pair w.side w.pos) ((closeRecord w.req.image).take 144) := by
  simp only [swapStepFlash, h]

theorem swapStepFlash_above (h : w.step = 6) :
    swapStepFlash w current m
      = copySlots w.pair current w.side ((List.range (6 - w.pos)).map (fun i => w.pos + 1 + i)) m := by simp only [swapStepFlash, h]

end

/-! ## A step that is cut off (R155, R163, R166) -/

/-- What the cut-off step's own bytes are before the page is kept from counting as CURRENT. -/
def cutBytes (draw : Nat) (w : Swap) (current : Option Side) (m : List Host.Cell) : List Byte :=
  (List.range (stepSpan w).2).map (fun i =>
    cutByteOf (w.step == 2) (readByte m ((stepSpan w).1 + i)) (readByte (stepTarget w current m) ((stepSpan w).1 + i))
      (Config.cutByte draw ((stepSpan w).1 + i)))

theorem cutStepFlash_eq (draw : Nat) (w : Swap) (current : Option Side) (m : List Host.Cell) :
    cutStepFlash draw w current m = neverCurrent w.pair w.side (writeBytes m (stepSpan w).1 (cutBytes draw w current m)) := rfl

/-- Every byte is between what it was and what the step was to make of it. -/
theorem readByte_cutBytes {m : List Host.Cell} (draw : Nat) (w : Swap) (current : Option Side) (h : flashWf m) (a : Nat) :
    ∃ free, readByte (writeBytes m (stepSpan w).1 (cutBytes draw w current m)) a
      = cutByteOf (w.step == 2) (readByte m a) (readByte (stepTarget w current m) a) free := by
  rw [readByte_writeBytes _ _ _ h]
  split
  next hin =>
    obtain ⟨h1, h2, -⟩ := hin
    have hlen : (cutBytes draw w current m).length = (stepSpan w).2 := by simp [cutBytes]
    refine ⟨Config.cutByte draw a, ?_⟩
    have ha : (stepSpan w).1 + (a - (stepSpan w).1) = a := by omega
    have hlt : a - (stepSpan w).1 < (stepSpan w).2 := by omega
    rw [List.getD_eq_getElem _ _ (by omega)]
    simp [cutBytes, ha]
  · by_cases hs : w.step = 2
    · exact ⟨0, by simp [cutByteOf, hs]⟩
    · refine ⟨0xFF#8, ?_⟩
      have hor : ∀ b : Byte, b ||| 0xFF#8 = 0xFF#8 := fun b => BitVec.or_allOnes
      have hand : ∀ b : Byte, b &&& 0xFF#8 = b := fun b => BitVec.and_allOnes
      simp [cutByteOf, hs, hor, hand]

/-- Of a status word as the steps before left it, only step 2 may have left zeros in its last two bytes: a program step that
is cut off finds 00 00 FF FF there, or, in step 3, an erased word of which it clears the first two bytes alone. -/
theorem statusByte_kept {m : List Host.Cell} (draw : Nat) (w : Swap) (current : Option Side) (h : flashWf m)
    (hst : readBytes m (pageBase w.pair w.side) 4
      = if w.step = 3 then [0xFF, 0xFF, 0xFF, 0xFF] else [0x00, 0x00, 0xFF, 0xFF])
    (hz : ∀ i, i < 4 →
      readByte (writeBytes m (stepSpan w).1 (cutBytes draw w current m)) (pageBase w.pair w.side + i) = 0)
    (i : Nat) (hi : i < 4) : readByte m (pageBase w.pair w.side + i) = fillingStatus.getD i 0 := by
  by_cases h3 : w.step = 3
  · exfalso
    rw [if_pos h3] at hst
    have h2 : readByte m (pageBase w.pair w.side + 2) = 0xFF := by
      simpa [readBytes] using congrArg (fun l => l.getD 2 0) hst
    have ht : readByte (stepTarget w current m) (pageBase w.pair w.side + 2) = 0xFF := by
      rw [stepTarget, if_neg (by omega), swapStepFlash_header current m h3, readByte_writeBytes _ _ _ h]
      split
      · rw [Nat.add_sub_cancel_left]
        rfl
      · exact h2
    obtain ⟨free, hf⟩ := readByte_cutBytes draw w current h (pageBase w.pair w.side + 2)
    rw [hz 2 (by omega), h2, ht, h3] at hf
    revert hf
    simp only [cutByteOf]
    clear * -
    revert free
    decide
  · rw [if_neg h3] at hst
    have hget := congrArg (fun l => l.getD i 0) hst
    simpa [readBytes, fillingStatus, hi] using hget

theorem cutByteOf_program {old target free new : Byte} (h : new = cutByteOf false old target free) :
    old &&& new = new ∧ old &&& target &&& new = old &&& target ∧ (target = old → new = old) := by
  subst h
  refine ⟨?_, ?_, ?_⟩
  · ext i hi; simp [cutByteOf]
  · ext i hi; simp [cutByteOf]; grind
  · rintro rfl; ext i hi; simp [cutByteOf]; grind

/-- A step that is cut off leaves its page as R163 and R166 say. -/
theorem stepCutOff_cutStepFlash {m : List Host.Cell} (draw : Nat) (w : Swap) (current : Option Side) (h : flashWf m)
    (hw : w.pos ≤ 6) : stepCutOff w current m (cutStepFlash draw w current m) := by
  refine ⟨fun a ha => readByte_cutStepFlash_outside draw w current a h hw ha, cutStepFlash_header draw w current h,
    fun hs hst a => ?_, fun hs a => ?_⟩
  · obtain ⟨free, hf⟩ := readByte_cutBytes draw w current h a
    have hne : (w.step == 2) = false := by simp; omega
    rw [hne] at hf
    rw [cutStepFlash_eq]
    rcases readByte_neverCurrent w.pair w.side (writeBytes_wf _ _ h) a with he | ⟨i, hi, rfl, hc, he⟩
    · exact cutByteOf_program (he.trans hf)
    · rw [he, statusByte_kept draw w current h hst (status_of_headerCurrent hc) i hi]
      exact ⟨BitVec.and_self, by rw [BitVec.and_comm, ← BitVec.and_assoc, BitVec.and_self], fun _ => rfl⟩
  · obtain ⟨free, hf⟩ := readByte_cutBytes draw w current h a
    have he2 : (w.step == 2) = true := by simp [hs]
    rw [he2] at hf
    rw [cutStepFlash_eq]
    rcases readByte_neverCurrent w.pair w.side (writeBytes_wf _ _ h) a with he | ⟨i, hi, rfl, hc, he⟩
    · rw [he, hf]
      ext j hj; simp [cutByteOf]; grind
    · have h0 := status_of_headerCurrent hc i hi
      have hz : readByte m (pageBase w.pair w.side + i) = 0 := by
        rw [h0] at hf
        ext j hj
        have := congrArg (fun b => b.getLsbD j) hf
        simp [cutByteOf] at this ⊢
        exact this.1
      rw [hz]
      simp

/-! ## RESET (R19, R37, R63, R79, R100, R111, R132, R154, R166, R191, R196) -/

theorem cutInFlight_none {s : State} (h : s.store.swap = none) : cutInFlight s = s := by rw [cutInFlight, h]

theorem cutInFlight_some {s : State} {w : Swap} (h : s.store.swap = some w) : cutInFlight s = cutSwap w s := by
  rw [cutInFlight, h]

/-- A swap that is cut off moves the flash and drops the swap, and nothing else but the model's own count. -/
theorem cutInFlight_eq (s : State) : cutInFlight s = { s with
    store := { s.store with flash := (cutInFlight s).store.flash, swap := none }
    draws := (cutInFlight s).draws } := by
  cases h : s.store.swap with
  | none => rw [cutInFlight_none h, ← h]
  | some w => rw [cutInFlight_some h]; rfl

/-- Settles O5: the blocks by definition, the flash by what a cut-off step leaves. -/
theorem resetClearsEveryBlock : Obligations.ResetClearsEveryBlock := by
  intro k s hb
  refine ⟨(cutInFlight s).store.flash, (cutInFlight s).draws, ?_, fun h => ?_, fun w h hw hm => ?_⟩
  · refine congrArg Host.Outcome.next ?_
    rw [holdReset, if_neg hb, resetBlocks, cutInFlight_eq]
  · rw [cutInFlight_none h]
    exact ⟨rfl, rfl⟩
  · rw [cutInFlight_some h]
    exact stepCutOff_cutStepFlash s.draws w _ hm hw

end Sys2Proof.Machine
end

section
/-! SUPPORT. What each verified step of a swap leaves in flash (R161), byte by byte and slot by slot. -/
namespace Sys2Proof.Machine

/-! ## What is left alone, whatever the form of the flash -/

theorem readByte_putCell_ne {m : List Host.Cell} {a : Nat} {b : Byte} {c : Nat} (h : c ≠ a) :
    readByte (putCell m a b) c = readByte m c := by
  induction m with
  | nil =>
    unfold putCell
    split
    · rfl
    · rw [readByte_cons, if_neg (Ne.symm h)]
  | cons x m ih =>
    unfold putCell
    split
    · rw [readByte_cons, readByte_cons, ih]
    · split
      next hx =>
        have hxc : ¬ x.1 = c := fun e => h (e.symm.trans hx)
        rw [readByte_cons x, if_neg hxc]
        split
        · rfl
        · rw [readByte_cons, if_neg (Ne.symm h)]
      · split
        · rfl
        · rw [readByte_cons, if_neg (Ne.symm h)]

theorem readByte_writeBytes_off {m : List Host.Cell} {a : Nat} {bs : List Byte} {c : Nat} (h : c < a ∨ a + bs.length ≤ c) :
    readByte (writeBytes m a bs) c = readByte m c := by
  induction bs generalizing m a with
  | nil => rfl
  | cons b bs ih =>
    rw [List.length_cons] at h
    rw [writeBytes, ih (by omega), writeByte]
    split
    · exact readByte_putCell_ne (by omega)
    · rfl

/-- A byte off a slot. -/
def offSlot (pair : Nat) (side : Side) (pos c : Nat) : Prop :=
  c < slotAddr pair side pos ∨ slotAddr pair side pos + 144 ≤ c

theorem length_readBytes (m : List Host.Cell) (a n : Nat) : (readBytes m a n).length = n := by simp [readBytes]

theorem readByte_copySlot_off {pair : Nat} {src dst : Side} {m : List Host.Cell} {pos c : Nat} (h : offSlot pair dst pos c) :
    readByte (copySlot pair src dst m pos) c = readByte m c := by
  unfold copySlot
  split
  · rfl
  · exact readByte_writeBytes_off (by rwa [length_readBytes])

theorem readByte_foldl_copySlot_off {pair : Nat} {src dst : Side} {ps : List Nat} {m : List Host.Cell} {c : Nat}
    (h : ∀ p ∈ ps, offSlot pair dst p c) : readByte (ps.foldl (copySlot pair src dst) m) c = readByte m c := by
  induction ps generalizing m with
  | nil => rfl
  | cons p ps ih =>
    rw [List.foldl_cons, ih fun q hq => h q (List.mem_cons_of_mem _ hq), readByte_copySlot_off (h p List.mem_cons_self)]

theorem readByte_copySlots_off {pair : Nat} {current : Option Side} {dst : Side} {ps : List Nat} {m : List Host.Cell} {c : Nat}
    (h : ∀ p ∈ ps, offSlot pair dst p c) : readByte (copySlots pair current dst ps m) c = readByte m c := by
  cases current with
  | none => rfl
  | some src => exact readByte_foldl_copySlot_off h

/-- The positions that step 6 copies. -/
theorem mem_above {pos p : Nat} (hp : pos ≤ 6) : p ∈ (List.range (6 - pos)).map (fun i => pos + 1 + i) ↔ pos < p ∧ p ≤ 6 := by
  rw [List.mem_map]
  constructor
  · rintro ⟨i, hi, rfl⟩
    rw [List.mem_range] at hi
    omega
  · rintro ⟨h1, h2⟩
    exact ⟨p - (pos + 1), List.mem_range.mpr (by omega), by omega⟩

/-- A verified step touches nothing outside what it programs or erases. -/
theorem readByte_swapStepFlash_off {w : Swap} (current : Option Side) {m : List Host.Cell} {c : Nat} (hp : w.pos ≤ 6)
    (hlo : 2 ≤ w.step) (hhi : w.step < 7) (h : c < (stepSpan w).1 ∨ (stepSpan w).1 + (stepSpan w).2 ≤ c) :
    readByte (swapStepFlash w current m) c = readByte m c := by
  obtain hs | hs | hs | hs | hs : w.step = 2 ∨ w.step = 3 ∨ w.step = 4 ∨ w.step = 5 ∨ w.step = 6 := by omega
  all_goals simp only [stepSpan, hs] at h
  · rw [swapStepFlash_erase _ _ hs, readByte_eraseBytes, if_neg (by omega)]
  · rw [swapStepFlash_header _ _ hs]
    exact readByte_writeBytes_off h
  · rw [swapStepFlash_below _ _ hs]
    refine readByte_copySlots_off fun p hmem => ?_
    have hlt := List.mem_range.mp hmem
    unfold slotAddr at h
    unfold offSlot slotAddr
    omega
  · rw [swapStepFlash_image _ _ hs]
    refine readByte_writeBytes_off ?_
    have hlen : ((closeRecord w.req.image).take 144).length ≤ 144 := List.length_take_le _ _
    omega
  · rw [swapStepFlash_above _ _ hs]
    refine readByte_copySlots_off fun p hmem => ?_
    have hlt := (mem_above hp).mp hmem
    unfold slotAddr at h
    unfold offSlot slotAddr
    omega

/-! ## What is read back -/

theorem readBytes_congr {m m' : List Host.Cell} {a n : Nat} (h : ∀ c, a ≤ c → c < a + n → readByte m' c = readByte m c) :
    readBytes m' a n = readBytes m a n :=
  List.map_congr_left fun i hi => h (a + i) (by omega) (by have := List.mem_range.mp hi; omega)

theorem readBytes_writeBytes {m : List Host.Cell} {a : Nat} {bs : List Byte} (h : flashWf m) (ha : a + bs.length ≤ flashSize) :
    readBytes (writeBytes m a bs) a bs.length = bs := by
  refine List.ext_getElem (length_readBytes _ _ _) fun i h1 h2 => ?_
  simp only [readBytes, List.getElem_map, List.getElem_range]
  exact readByte_writeBytes_inside a bs i h h2 ha

/-- What a slot of the swap page reads once it has been copied: an empty slot is not copied (R161, step 4). -/
def slotCopied (pair : Nat) (src dst : Side) (m : List Host.Cell) (pos : Nat) : List Byte :=
  if readBytes m (slotAddr pair src pos) 4 = [0xFF, 0xFF, 0xFF, 0xFF] then readBytes m (slotAddr pair dst pos) 144
  else readBytes m (slotAddr pair src pos) 144

/-- A slot ends inside its page, and with it inside the flash. -/
theorem slotAddr_le {pair pos : Nat} (side : Side) (hpair : pair ≤ 11) (hp : pos ≤ 6) :
    slotAddr pair side pos + 144 ≤ flashSize := by
  have := pageBase_le side hpair
  simp only [slotAddr, pageSize] at *
  omega

theorem readBytes_copySlot_same {pair pos : Nat} (src dst : Side) {m : List Host.Cell} (h : flashWf m) (hpair : pair ≤ 11)
    (hp : pos ≤ 6) : readBytes (copySlot pair src dst m pos) (slotAddr pair dst pos) 144 = slotCopied pair src dst m pos := by
  unfold copySlot slotCopied
  split
  · rfl
  · have hlen := length_readBytes m (slotAddr pair src pos) 144
    have hread := readBytes_writeBytes (m := m) (a := slotAddr pair dst pos) h (hlen.symm ▸ slotAddr_le dst hpair hp)
    rwa [hlen] at hread

/-- A byte of another slot of the same page. -/
theorem offSlot_of_ne {pair p pos c : Nat} {side : Side} (hne : p ≠ pos) (h1 : slotAddr pair side pos ≤ c)
    (h2 : c < slotAddr pair side pos + 144) : offSlot pair side p c := by
  simp only [offSlot, slotAddr] at *
  omega

/-- A byte of a slot of the other page. -/
theorem offSlot_of_other {pair p pos c : Nat} {src dst : Side} (hside : dst = src.other) (hp : p ≤ 6) (hpos : pos ≤ 6)
    (h1 : slotAddr pair src pos ≤ c) (h2 : c < slotAddr pair src pos + 144) : offSlot pair dst p c := by
  subst hside
  cases src <;> simp only [offSlot, slotAddr, pageBase, pageSize, Side.other] at * <;> omega

/-- Copying one slot leaves what the copy of another is to read. -/
theorem slotCopied_copySlot {pair p pos : Nat} {src dst : Side} (m : List Host.Cell) (hside : dst = src.other) (hp : p ≤ 6)
    (hpos : pos ≤ 6) (hne : p ≠ pos) :
    slotCopied pair src dst (copySlot pair src dst m p) pos = slotCopied pair src dst m pos := by
  have hsrc (n : Nat) (hn : n ≤ 144) : readBytes (copySlot pair src dst m p) (slotAddr pair src pos) n
      = readBytes m (slotAddr pair src pos) n :=
    readBytes_congr fun c h1 h2 => readByte_copySlot_off (offSlot_of_other hside hp hpos h1 (by omega))
  have hdst : readBytes (copySlot pair src dst m p) (slotAddr pair dst pos) 144 = readBytes m (slotAddr pair dst pos) 144 :=
    readBytes_congr fun c h1 h2 => readByte_copySlot_off (offSlot_of_ne hne h1 h2)
  rw [slotCopied, hsrc 4 (by omega), hsrc 144 (by omega), hdst, slotCopied]

/-- Slots copied one after the other: each position reads as its own copy. -/
theorem readBytes_copySlots {pair pos : Nat} {src dst : Side} {ps : List Nat} {m : List Host.Cell} (h : flashWf m)
    (hpair : pair ≤ 11) (hside : dst = src.other) (hnd : ps.Nodup) (hle : ∀ p ∈ ps, p ≤ 6) (hmem : pos ∈ ps) :
    readBytes (copySlots pair (some src) dst ps m) (slotAddr pair dst pos) 144 = slotCopied pair src dst m pos := by
  show readBytes (ps.foldl (copySlot pair src dst) m) _ _ = _
  induction ps generalizing m with
  | nil => cases hmem
  | cons p ps ih =>
    obtain ⟨hnot, hnd⟩ := List.nodup_cons.mp hnd
    have hp := hle p List.mem_cons_self
    rw [List.foldl_cons]
    rcases List.mem_cons.mp hmem with rfl | hin
    · rw [← readBytes_copySlot_same src dst h hpair hp]
      refine readBytes_congr fun c h1 h2 => readByte_foldl_copySlot_off fun q hq => offSlot_of_ne ?_ h1 h2
      rintro rfl
      exact hnot hq
    · have hpos := hle pos hmem
      rw [ih (copySlot_wf pair src dst p h) hnd (fun q hq => hle q (List.mem_cons_of_mem _ hq)) hin,
        slotCopied_copySlot m hside hp hpos (by rintro rfl; exact hnot hin)]

end Sys2Proof.Machine
end

section
/-! SUPPORT. SWAP_STEP_DONE and SWAP_END: a verified step, a verify failure, the end of a swap (O46). -/
namespace Sys2Proof.Machine

/-! ## A verified step (R161) -/

theorem exec_swapStepDone {w : Swap} {s : State} (hb : s.boot ≠ .held) (hw : s.store.swap = some w) (hs : w.step < 7) :
    exec (.swapStepDone true) s = .next (leaveIdle (swapStep w s)) := by
  show execSwapStepDone true s = _
  rw [execSwapStepDone, whenReleased_running hb]
  simp [hw, hs]

/-- The bytes of the swap page that a verified step leaves alone. -/
theorem swapStepFlash_untouched {w : Swap} (current : Option Side) (m : List Host.Cell) (hp : w.pos ≤ 6) {i : Nat}
    (h : w.step = 3 ∧ 16 ≤ i ∨ w.step = 4 ∧ (i < 16 ∨ 16 + 144 * w.pos ≤ i)
      ∨ w.step = 5 ∧ (i < 16 + 144 * w.pos ∨ 16 + 144 * (w.pos + 1) ≤ i) ∨ w.step = 6 ∧ i < 16 + 144 * (w.pos + 1)) :
    readByte (swapStepFlash w current m) (pageBase w.pair w.side + i) = readByte m (pageBase w.pair w.side + i) := by
  refine readByte_swapStepFlash_off current hp (by omega) (by omega) ?_
  rcases h with ⟨hs, h⟩ | ⟨hs, h⟩ | ⟨hs, h⟩ | ⟨hs, h⟩ <;> simp only [stepSpan, hs, slotAddr] <;> omega

/-- Steps 4 and 6 copy each of their slots from the current page. -/
theorem swapStepFlash_copied {w : Swap} {src : Side} {m : List Host.Cell} {pos : Nat} (h : flashWf m) (hpair : w.pair ≤ 11)
    (hp : w.pos ≤ 6) (hside : w.side = src.other) (hpos : w.step = 4 ∧ pos < w.pos ∨ w.step = 6 ∧ w.pos < pos ∧ pos ≤ 6) :
    readBytes (swapStepFlash w (some src) m) (slotAddr w.pair w.side pos) 144 = slotCopied w.pair src w.side m pos := by
  rcases hpos with ⟨hs, hlt⟩ | ⟨hs, habove⟩
  · rw [swapStepFlash_below _ _ hs]
    refine readBytes_copySlots h hpair hside List.nodup_range (fun p hmem => ?_) (List.mem_range.mpr hlt)
    have := List.mem_range.mp hmem
    omega
  · rw [swapStepFlash_above _ _ hs]
    refine readBytes_copySlots h hpair hside ?_ (fun p hmem => ((mem_above hp).mp hmem).2) ((mem_above hp).mpr habove)
    exact List.Nodup.map (fun i j hij => by simpa using hij) List.nodup_range

theorem swapStepFlash_uncopied {w : Swap} (m : List Host.Cell) (h : w.step = 4 ∨ w.step = 6) :
    swapStepFlash w none m = m := by
  rcases h with h | h
  · exact swapStepFlash_below _ _ h
  · exact swapStepFlash_above _ _ h

/-! ## A verify failure (R163, R169) -/

theorem exec_swapStepDone_failed {w : Swap} {s : State} (hb : s.boot ≠ .held) (hw : s.store.swap = some w) :
    exec (.swapStepDone false) s = .next (leaveIdle (verifyFailure w s)) := by
  show execSwapStepDone false s = _
  rw [execSwapStepDone, whenReleased_running hb]
  simp [hw]

/-- STORE after a verify failure, before CYC or the start-up sequence has heard of it. -/
def verifyFaulted (w : Swap) (s : State) : State :=
  enterFaulted .verify { cutSwap w s with store := { (cutSwap w s).store with pending := none } }

theorem verifyFailure_eq (w : Swap) (s : State) : verifyFailure w s =
    if w.recovery then startUpEnd (verifyFaulted w s)
    else if lostFinal w s.store.pending then commitEnded (verifyFaulted w s) else verifyFaulted w s := rfl

theorem verifyFailure_store (w : Swap) (s : State) : (verifyFailure w s).store = (verifyFaulted w s).store := by
  rw [verifyFailure_eq]
  (repeat' split) <;> simp

theorem commitEnded_storeFault (s : State) : (commitEnded s).peer.posting.storeFault = s.peer.posting.storeFault :=
  failRequest_storeFault ⟨.final, 0, []⟩ s

theorem verifyFailure_posted (w : Swap) (s : State) : (verifyFailure w s).peer.posting.storeFault = true := by
  have h : (verifyFaulted w s).peer.posting.storeFault = true := rfl
  rw [verifyFailure_eq]
  (repeat' split) <;> simp [commitEnded_storeFault, h]

/-- What CLOSING ends in (R11). -/
structure cycleEnded (s t : State) : Prop where
  station : t.cyc.station = .done
  posted : t.peer.posting.cycleState = .done
  verdict : t.peer.posting.lastVerdict = (s.cyc.record.map OpenRecord.verdict).getD .unset

theorem cycleEnded_commitEnded {s : State} (h : s.cyc.station = .closing) : cycleEnded s (commitEnded s) := by
  rw [commitEnded, if_pos h]
  exact ⟨rfl, rfl, rfl⟩

theorem latchedOn_leaveIdle {s t : State} (h : Latches s t) : latchedOn s (leaveIdle t) :=
  latchedOn_of_latches (h.trans (.leaveIdle t))

/-! ## The end of a swap (R162, R169) -/

theorem exec_swapEnd {w : Swap} {s : State} (hb : s.boot ≠ .held) (hw : s.store.swap = some w) (hs : w.step = 7) :
    exec .swapEnd s = .next (leaveIdle (endSwap w s)) := by
  show execSwapEnd s = _
  rw [execSwapEnd, whenReleased_running hb]
  simp [hw, hs]

/-- The swap's page made current. -/
def swapped (w : Swap) (s : State) : State := { s with store := swapCurrent w s.store }

theorem endSwap_eq (w : Swap) (s : State) : endSwap w s =
    if w.recovery then scanEnd { swapped w s with store := { (swapped w s).store with recovered := w.req.seq } }
    else requestDone w.req (swapped w s) := rfl

/-- The flash and the current pages that the end of a swap leaves (R162, step 1). -/
theorem endSwap_pages (w : Swap) (s : State) :
    (endSwap w s).store.pairs = s.store.pairs.set w.pair ⟨some w.side, w.gen⟩
      ∧ (endSwap w s).store.flash = writeBytes s.store.flash (pageBase w.pair w.side) [0, 0, 0, 0] := by
  rw [endSwap_eq]
  unfold requestDone
  (repeat' split) <;> simp only [scanEnd_frame, failPending_frame, nextSwap_frame, enterFaulted_frame, commitEnded_frame] <;>
    exact ⟨rfl, rfl⟩

/-- A request's swap depends on the current pages alone. -/
theorem swapOf_congr {st st' : Store} (h : st'.pairs = st.pairs) (recovery : Bool) (req : Request) :
    swapOf st' recovery req = swapOf st recovery req := by
  simp only [swapOf, pairOf, h]

/-- Unless a pending image finds its generation spent, what follows a swap leaves CYC and the posting as they are. -/
theorem nextSwap_still {s : State}
    (h : ∀ q, s.store.pending = some q → s.supplyWarning = true ∨ (swapOf s.store false q).gen < spentSeq) :
    (nextSwap s).cyc = s.cyc ∧ (nextSwap s).peer = s.peer := by
  unfold nextSwap
  cases hp : s.store.pending with
  | none => exact ⟨rfl, rfl⟩
  | some q =>
    dsimp only
    split
    · exact ⟨rfl, rfl⟩
    · rw [beginSwap_of_lt (by exact (h q hp).resolve_left ‹_›)]
      exact ⟨rfl, rfl⟩

theorem nextSwap_idle {s : State} (h : s.store.pending = none ∨ s.supplyWarning = true) :
    nextSwap s = { s with store := { s.store with state := .ready } } := by
  unfold nextSwap
  split
  next q hp => rw [if_pos (by simpa [hp] using h)]
  · rfl

theorem nextSwap_begins {s : State} {q : Request} (hp : s.store.pending = some q) (hw : s.supplyWarning = false)
    (hg : (swapOf s.store false q).gen < spentSeq) :
    nextSwap s = { s with store := { s.store with
      pending := none, swap := some (swapOf s.store false q), state := .swapping } } := by
  simp only [nextSwap, hp, hw]
  exact beginSwap_of_lt (by exact hg)

theorem endSwap_request {w : Swap} (s : State) (h : w.recovery = false) :
    endSwap w s = requestDone w.req (swapped w s) := by
  rw [endSwap_eq, h]; rfl

/-- What CYC hears of a request whose swap has ended (R11, R162). -/
def commitHeard (kind : CommitKind) (s : State) : State :=
  match kind with
  | .final => commitEnded s
  | .checkpoint => s

theorem commitHeard_store (kind : CommitKind) (s : State) : (commitHeard kind s).store = s.store := by
  cases kind with
  | final => exact (commitEnded_frame s).2.2.2.2.2.2.1
  | checkpoint => rfl

theorem commitHeard_supplyWarning (kind : CommitKind) (s : State) : (commitHeard kind s).supplyWarning = s.supplyWarning := by
  cases kind with
  | final => simp [commitHeard]
  | checkpoint => rfl

/-- A request's swap that does not spend the last sequence is followed by the next one, after CYC has heard of a FINAL. -/
theorem requestDone_next {req : Request} (s : State) (h : req.seq + 1 < spentSeq) :
    requestDone req s = nextSwap (commitHeard req.kind s) := by
  cases hk : req.kind with
  | final =>
    rw [requestDone, hk]
    exact if_neg (Nat.ne_of_lt h)
  | checkpoint =>
    rw [requestDone, hk]
    rfl

theorem requestDone_spent {req : Request} (s : State) (hk : req.kind = .final) (h : req.seq + 1 = spentSeq) :
    requestDone req s = failPending (enterFaulted .spent (commitEnded s)) := by
  rw [requestDone, hk]
  exact if_pos h

/-- A FINAL pending behind the last sequence fails, which CYC in DONE does not hear (R11, R162). -/
theorem failPending_done {s : State} (h : s.cyc.station ≠ .closing) :
    (failPending s).cyc = s.cyc ∧ (failPending s).peer = s.peer := by
  unfold failPending
  split
  next q _ =>
    rcases failRequest_cases q { s with store := { s.store with pending := none } } with ⟨-, he⟩ | ⟨-, he⟩ <;> rw [he]
    · exact ⟨rfl, rfl⟩
    · rw [commitEnded, if_neg (by exact h)]
      exact ⟨rfl, rfl⟩
  · exact ⟨rfl, rfl⟩

theorem failPending_pending (s : State) : (failPending s).store.pending = none := by
  unfold failPending
  split
  · simp
  · assumption

theorem commitEnded_station (s : State) : (commitEnded s).cyc.station ≠ .closing := by
  unfold commitEnded
  split
  · nofun
  · assumption

theorem failPending_storeFault (s : State) : (failPending s).peer.posting.storeFault = s.peer.posting.storeFault := by
  unfold failPending
  split
  · exact failRequest_storeFault _ _
  · rfl

/-- The start-up sequence ends by the load outcome, and posts it (R1, R195). -/
structure startUpEnded (s t : State) : Prop where
  boot : t.boot = .up
  station : t.cyc.station = (if s.cfg.passed then .idle else .unconfigured)
  posted : t.peer.posting.cycleState = t.cyc.station
  unconfigured : t.peer.posting.unconfigured = !s.cfg.passed
  vents : t.leak.c1.ventValve = false ∧ t.leak.c2.ventValve = false

theorem startUpEnded_startUpEnd (s : State) : startUpEnded s (startUpEnd s) := ⟨rfl, rfl, rfl, rfl, rfl, rfl⟩

theorem startUpEnded_scanEnd (s : State) : startUpEnded s (scanEnd s) := by
  unfold scanEnd
  split <;> exact ⟨rfl, rfl, rfl, rfl, rfl, rfl⟩

/-- STORE at the end of the scan (R168, R169). -/
theorem scanEnd_store (s : State) :
    (s.store.nextSeq ≠ spentSeq → (scanEnd s).store = { s.store with state := .ready })
      ∧ (s.store.nextSeq = spentSeq → (scanEnd s).store = { s.store with state := .faulted, cause := some .spent }
          ∧ (scanEnd s).peer.posting.storeFault = true) := by
  refine ⟨fun h => ?_, fun h => ?_⟩
  · rw [scanEnd, if_neg h]
    rfl
  · rw [scanEnd, if_pos h]
    exact ⟨rfl, rfl⟩

/-- Settles O46: the verified step by what each step programs, the verify failure, and the end of a swap by its kind. -/
theorem swapRunsStepByStep : Obligations.SwapRunsStepByStep := by
  intro w s hb hw hpos
  have hexec := exec_swapStepDone_failed hb hw
  have hcut (hm : flashLaw s) : stepCutOff w (pairOf s.store w.pair).current s.store.flash
      (leaveIdle (verifyFailure w s)).store.flash := by
    rw [(leaveIdle_frame _).2.2.2.2.2.2.2.2.1, verifyFailure_store]
    exact stepCutOff_cutStepFlash s.draws w _ hm hpos
  refine ⟨fun hhi hlo => ?_, fun hr => ?_, fun hr => ?_, fun hs hr hseq => ?_, fun hs hr hk hseq => ?_, fun hs hr => ?_⟩
  · refine ⟨swapStepFlash w (pairOf s.store w.pair).current s.store.flash, exec_swapStepDone hb hw hhi, fun a ha => ?_,
      fun hm hpair => ⟨fun h i hi => ?_, fun h => ?_, fun h hlen => ?_, fun i _ h => ?_, fun src pos hc hside h => ?_,
        fun hc h => ?_⟩⟩
    · have hspan := stepSpan_le w hpos
      exact readByte_swapStepFlash_off _ hpos hlo hhi (by omega)
    · rw [swapStepFlash_erase _ _ h, readByte_eraseBytes, if_pos (by omega)]
    · rw [swapStepFlash_header _ _ h]
      have hpage := pageBase_le w.side hpair
      exact readBytes_writeBytes (bs := fillingHeader w.gen w.pair) hm
        (by rw [show (fillingHeader w.gen w.pair).length = 16 from rfl]; simp only [pageSize] at hpage; omega)
    · rw [swapStepFlash_image _ _ h, List.take_of_length_le hlen]
      have hslot := slotAddr_le w.side hpair hpos
      exact readBytes_writeBytes hm (by omega)
    · exact swapStepFlash_untouched _ _ hpos h
    · rw [hc]
      exact swapStepFlash_copied hm hpair hpos hside h
    · rw [hc]
      exact swapStepFlash_uncopied _ h
  · refine ⟨_, hexec, ?_⟩
    have heq := verifyFailure_eq w s
    rw [hr, if_neg Bool.false_ne_true] at heq
    have hstore := verifyFailure_store w s
    simp only [leaveIdle_frame] at hcut ⊢
    refine ⟨by rw [hstore]; rfl, by rw [hstore]; rfl, by rw [hstore]; rfl, by rw [hstore]; rfl, verifyFailure_posted w s,
      by rw [hstore]; rfl, latchedOn_leaveIdle (.verifyFailure w s), fun hl hst => ?_, fun hl => ?_, hcut⟩
    · obtain ⟨h1, h2, h3⟩ := cycleEnded_commitEnded (s := verifyFaulted w s) hst
      rw [heq, if_pos hl]
      exact ⟨h1, h2, h3⟩
    · rw [heq, hl]
      rfl
  · refine ⟨_, hexec, ?_⟩
    have heq := verifyFailure_eq w s
    rw [hr, if_pos rfl] at heq
    have hstore := verifyFailure_store w s
    obtain ⟨h1, h2, h3, -, -⟩ := startUpEnded_startUpEnd (verifyFaulted w s)
    simp only [leaveIdle_frame] at hcut ⊢
    exact ⟨by rw [hstore]; rfl, by rw [hstore]; rfl, by rw [hstore]; rfl, by rw [hstore]; rfl, verifyFailure_posted w s,
      by rw [heq, h1], by rw [heq, h2]; rfl, by rw [heq, h3], latchedOn_leaveIdle (.verifyFailure w s), hcut⟩
  · refine ⟨_, exec_swapEnd hb hw hs, ?_⟩
    obtain ⟨hpairs, hflash⟩ := endSwap_pages w s
    have heq := (endSwap_request s hr).trans (requestDone_next _ hseq)
    have hstore := commitHeard_store w.req.kind (swapped w s)
    have hwarn := commitHeard_supplyWarning w.req.kind (swapped w s)
    have hpend : (commitHeard w.req.kind (swapped w s)).store.pending = s.store.pending := by rw [hstore]; rfl
    simp only [leaveIdle_frame]
    have hswap (q : Request) : swapOf (endSwap w s).store false q
        = swapOf (commitHeard w.req.kind (swapped w s)).store false q :=
      swapOf_congr (hpairs.trans (by rw [hstore]; rfl)) false q
    have hstill (h : ∀ q, s.store.pending = some q →
        s.supplyWarning = true ∨ (swapOf (endSwap w s).store false q).gen < spentSeq) :
        (endSwap w s).cyc = (commitHeard w.req.kind (swapped w s)).cyc
          ∧ (endSwap w s).peer = (commitHeard w.req.kind (swapped w s)).peer := by
      rw [heq]
      refine nextSwap_still fun q hq => ?_
      rw [hwarn, ← hswap q]
      exact h q (hpend ▸ hq)
    refine ⟨hpairs, hflash, latchedOn_leaveIdle (.endSwap w s), fun hp => ?_, fun q hp hwarned => ?_,
      fun q hp hunwarned hg => ?_, fun hk hst hq => ?_, fun hk hq => ?_⟩
    · rw [heq, nextSwap_idle (.inl (hpend.trans hp))]
      exact ⟨by rw [hstore]; rfl, rfl⟩
    · rw [heq, nextSwap_idle (.inr (hwarn.trans hwarned))]
      exact ⟨by rw [hstore]; rfl, rfl, hpend.trans hp⟩
    · rw [hswap] at hg ⊢
      rw [heq, nextSwap_begins (hpend.trans hp) (hwarn.trans hunwarned) hg]
      exact ⟨rfl, rfl, rfl⟩
    · obtain ⟨hcyc, hpeer⟩ := hstill hq
      rw [hcyc, hpeer, hk]
      obtain ⟨h1, h2, h3⟩ := cycleEnded_commitEnded (s := swapped w s) hst
      exact ⟨h1, h2, h3⟩
    · rw [(hstill hq).1, hk]
      rfl
  · refine ⟨_, exec_swapEnd hb hw hs, ?_⟩
    have hpairs := (endSwap_pages w s).1
    have heq := (endSwap_request s hr).trans (requestDone_spent _ hk hseq)
    have hlatch := latchedOn_leaveIdle (Latches.endSwap w s)
    simp only [leaveIdle_frame]
    rw [heq] at hpairs ⊢
    refine ⟨by simp; rfl, by simp; rfl, by simp; rfl, failPending_pending _, hpairs, failPending_storeFault _, heq ▸ hlatch,
      fun hst => ?_⟩
    obtain ⟨hcyc, hpeer⟩ := failPending_done (s := enterFaulted .spent (commitEnded (swapped w s)))
      (commitEnded_station (swapped w s))
    obtain ⟨h1, h2, h3⟩ := cycleEnded_commitEnded (s := swapped w s) hst
    rw [hcyc, hpeer]
    exact ⟨h1, h2, h3⟩
  · refine ⟨_, exec_swapEnd hb hw hs, ?_⟩
    obtain ⟨hpairs, hflash⟩ := endSwap_pages w s
    have hlatch := latchedOn_leaveIdle (Latches.endSwap w s)
    have heq := endSwap_eq w s
    rw [hr, if_pos rfl] at heq
    simp only [leaveIdle_frame]
    rw [heq] at hpairs hflash hlatch ⊢
    obtain ⟨h1, h2, h3, -, -⟩ := startUpEnded_scanEnd
      { swapped w s with store := { (swapped w s).store with recovered := w.req.seq } }
    obtain ⟨hready, hspent⟩ := scanEnd_store { swapped w s with store := { (swapped w s).store with recovered := w.req.seq } }
    refine ⟨h1, h2, h3, hlatch, by simp; rfl, ?_, hpairs, hflash, fun h => ?_, fun h => ?_⟩
    · by_cases h : s.store.nextSeq = spentSeq
      · rw [(hspent h).1]
      · rw [hready h]
    · rw [hready h]
    · obtain ⟨hst, hposted⟩ := hspent h
      rw [hst]
      exact ⟨rfl, rfl, hposted⟩

end Sys2Proof.Machine
end

section
/-! SUPPORT. The start-up scan: the choice of the current pages, the newest record and its recovery, the scan's end (O9). -/
namespace Sys2Proof.Machine

/-! ## The current page of a pair (R167) -/

/-- What the scan reads of a page: whether it counts as CURRENT, and its generation. -/
def pageCurrent (m : List Host.Cell) (pair : Nat) (side : Side) : Bool :=
  headerCurrent pair (readBytes m (pageBase pair side) 16)
def pageGen (m : List Host.Cell) (pair : Nat) (side : Side) : Nat := field (readBytes m (pageBase pair side) 16) 4 4

theorem scanPair_cases (m : List Host.Cell) (pair : Nat) :
    (pageCurrent m pair .a = true ∧ (pageCurrent m pair .b = true → pageGen m pair .b ≤ pageGen m pair .a)
        ∧ scanPair m pair = ⟨some .a, pageGen m pair .a⟩)
      ∨ (pageCurrent m pair .b = true ∧ (pageCurrent m pair .a = true → pageGen m pair .a < pageGen m pair .b)
        ∧ scanPair m pair = ⟨some .b, pageGen m pair .b⟩)
      ∨ (pageCurrent m pair .a = false ∧ pageCurrent m pair .b = false ∧ scanPair m pair = ⟨none, 0⟩) := by
  unfold scanPair
  dsimp only
  split
  next ha hb => exact .inl ⟨ha, fun h => absurd (hb.symm.trans h) Bool.false_ne_true, rfl⟩
  next ha hb => exact .inr (.inl ⟨hb, fun h => absurd (ha.symm.trans h) Bool.false_ne_true, rfl⟩)
  next ha hb =>
    split
    next hgt => exact .inr (.inl ⟨hb, fun _ => hgt, rfl⟩)
    next hle => exact .inl ⟨ha, fun _ => Nat.le_of_not_lt hle, rfl⟩
  next ha hb => exact .inr (.inr ⟨ha, hb, rfl⟩)

/-! ## The newest record and its recovery (R168, R169) -/

theorem foldl_laterRecord {x b : Nat × List Byte} {l : List (Nat × List Byte)} (hb : b.1 < x.1 ∧ x ∈ l ∨ b = x)
    (h : ∀ y ∈ l, y.1 < x.1 ∨ y = x) : l.foldl laterRecord (some b) = some x := by
  induction l generalizing b with
  | nil => rw [hb.resolve_left fun h => List.not_mem_nil h.2]; rfl
  | cons y l ih =>
    have hl := fun z hz => h z (List.mem_cons_of_mem _ hz)
    have hy := h y List.mem_cons_self
    rw [List.foldl_cons, laterRecord]
    rcases hb with ⟨hlt, hmem⟩ | rfl
    · rcases List.mem_cons.mp hmem with rfl | hmem
      · rw [if_pos hlt]
        exact ih (.inr rfl) hl
      · split
        · exact ih (hy.imp (⟨·, hmem⟩) id) hl
        · exact ih (.inl ⟨hlt, hmem⟩) hl
    · have hle : ¬ y.1 > b.1 := by rcases hy with hy | rfl <;> omega
      rw [if_neg hle]
      exact ih (.inr rfl) hl

/-- The one record above all others is the newest. -/
theorem newestOf_eq {x : Nat × List Byte} {l : List (Nat × List Byte)} (hx : x ∈ l) (h : ∀ y ∈ l, y.1 < x.1 ∨ y = x) :
    newestOf l = some x := by
  unfold newestOf
  cases l with
  | nil => cases hx
  | cons y l =>
    refine foldl_laterRecord ?_ fun z hz => h z (List.mem_cons_of_mem _ hz)
    rcases List.mem_cons.mp hx with rfl | hx
    · exact .inr rfl
    · exact (h y List.mem_cons_self).imp (⟨·, hx⟩) id

theorem recordLength_bounds (p : Nat) : 80 ≤ recordLength p ∧ recordLength p ≤ 144 := by
  unfold recordLength
  (repeat' split) <;> omega

theorem length_slotBytes (st : Store) (slot : Nat) : (slotBytes st slot).length = 144 := by
  unfold slotBytes
  split
  · exact List.length_replicate
  · exact length_readBytes _ _ _

/-- A valid record is at least 80 bytes long (R156). -/
theorem le_length_of_mem_validRecords {st : Store} {x : Nat × List Byte} (h : x ∈ validRecords st) : 80 ≤ x.2.length := by
  obtain ⟨slot, -, hx⟩ := List.mem_filterMap.mp h
  unfold slotNow slotCond at hx
  split at hx
  · cases hx
  · split at hx
    · obtain rfl : _ = x := Option.some.inj hx
      obtain ⟨h80, h144⟩ := recordLength_bounds (field (slotBytes st slot) 8 1)
      simp only [slotRecord, List.length_take, length_slotBytes]
      omega
    · cases hx

theorem recoveryOf_eq {st : Store} {x : Nat × List Byte} (hx : x ∈ validRecords st)
    (h : ∀ y ∈ validRecords st, y.1 < x.1 ∨ y = x) :
    recoveryOf st = if field x.2 4 1 = 1 then some ⟨.final, x.1, recoveryImage x.2⟩ else none := by
  rw [recoveryOf, newestOf_eq hx h]

theorem length_recoveryImage (rec : List Byte) : (recoveryImage rec).length = rec.length - 4 := by
  simp [recoveryImage]

/-- The recovery's image byte by byte: three bytes of the header move, and the closing word is left out (R169). -/
theorem byteAt_recoveryImage {rec : List Byte} {i : Nat} (h : i < rec.length - 4) :
    byteAt (recoveryImage rec) i = if i = 10 then byteAt rec 10 ||| 1 else if i = 5 then 6 else if i = 4 then 2
      else byteAt rec i := by
  have hlen := length_recoveryImage rec
  unfold byteAt
  rw [List.getD_eq_getElem _ _ (by omega), List.getD_eq_getElem rec 0 (n := i) (by omega)]
  simp only [recoveryImage, List.getElem_set, List.getElem_take, eq_comm (b := i)]
  rfl

/-! ## The end of the scan (R1, R168, R169) -/

/-- The valid records depend on the flash and the current pages alone. -/
theorem validRecords_congr {st st' : Store} (hf : st'.flash = st.flash) (hp : st'.pairs = st.pairs) :
    validRecords st' = validRecords st := by
  simp only [validRecords, slotNow, slotBytes, pairOf, hf, hp]

theorem scanned_highest (st : Store) :
    (scanned st).highest = ((newestOf (validRecords (scanned st))).map Prod.fst).getD 0 := by
  rw [validRecords_congr (st' := scanned st) (st := { st with pairs := (List.range 12).map (scanPair st.flash) }) rfl rfl]
  rfl

/-- What the scan fixes and every way out of it keeps. -/
structure scanKept (s t : State) : Prop where
  pairs : t.store.pairs = (scanned s.store).pairs
  flash : t.store.flash = s.store.flash
  highest : t.store.highest = (scanned s.store).highest
  nextSeq : t.store.nextSeq = (scanned s.store).nextSeq

theorem scanDone_eq (s : State) : scanDone s =
    match recoveryOf (scanned s.store) with
    | none => scanEnd { s with store := scanned s.store }
    | some req =>
      if s.supplyWarning then
        { s with store := { scanned s.store with recovery := some req }, boot := .recover }
      else beginSwap true req { s with store := scanned s.store, boot := .recover } := by
  rfl

theorem scanEnd_highest (s : State) : (scanEnd s).store.highest = s.store.highest := by
  unfold scanEnd
  split
  · simp only [startUpEnd_frame]
    rfl
  · simp only [startUpEnd_frame]

theorem beginRecovery_worn {req : Request} {s : State} (h : spentSeq ≤ (swapOf s.store true req).gen) :
    beginSwap true req s = startUpEnd (enterFaulted .worn s) := by
  rw [beginSwap, if_pos h]; rfl

theorem scanKept_scanDone (s : State) : scanKept s (scanDone s) := by
  rw [scanDone_eq]
  split
  · exact ⟨by simp, by simp; rfl, scanEnd_highest _, by simp⟩
  next req _ =>
    split
    · exact ⟨rfl, rfl, rfl, rfl⟩
    · unfold beginSwap
      split <;> exact ⟨rfl, rfl, rfl, rfl⟩

/-- Settles O9: the page of each pair, the recovery of the newest record, and the ways out of the scan. -/
theorem scanEndsStarting : Obligations.ScanEndsStarting := by
  refine ⟨fun m pair => ?_, fun st => ⟨fun h => ?_, fun q rec hmem hnew => ?_⟩, fun s hb => ?_⟩
  · rcases scanPair_cases m pair with ⟨ha, hle, he⟩ | ⟨hb, hlt, he⟩ | ⟨ha, hb, he⟩ <;> rw [he]
    · refine ⟨fun side hside => ?_, nofun⟩
      obtain rfl : Side.a = side := Option.some.inj hside
      exact ⟨ha, rfl, fun h => ⟨hle h, nofun⟩⟩
    · refine ⟨fun side hside => ?_, nofun⟩
      obtain rfl : Side.b = side := Option.some.inj hside
      exact ⟨hb, rfl, fun h => ⟨Nat.le_of_lt (hlt h), fun _ => hlt h⟩⟩
    · exact ⟨nofun, fun _ => ⟨ha, hb, rfl⟩⟩
  · rw [recoveryOf, h]
    rfl
  · have heq := recoveryOf_eq hmem hnew
    refine ⟨fun h => heq.trans (if_neg h), fun h => ?_⟩
    have h80 := le_length_of_mem_validRecords hmem
    have hlen := length_recoveryImage rec
    dsimp only at h80
    refine ⟨heq.trans (if_pos h), hlen, ?_, ?_, ?_, fun i hi h4 h5 h10 => ?_⟩ <;> rw [byteAt_recoveryImage (by omega)]
    · rfl
    · rfl
    · rfl
    · rw [if_neg h10, if_neg h5, if_neg h4]
  · obtain ⟨hpairs, hflash, hhigh, hnext⟩ := scanKept_scanDone s
    have heq := scanDone_eq s
    refine ⟨leaveIdle (scanDone s), ?_, ?_⟩
    · show execStoreScanDone s = _
      rw [execStoreScanDone, whenReleased_running (by rw [hb]; nofun), if_pos hb]
    have hlatch := latchedOn_leaveIdle (Latches.scanDone s)
    simp only [leaveIdle_frame]
    refine ⟨hpairs, hflash, hhigh.trans (scanned_highest _), by rw [hnext, hhigh]; rfl, hlatch, fun hr => ?_,
      fun req hr hw => ?_, fun req hr hw hg => ?_, fun req hr hw hg => ?_⟩
    · rw [hr] at heq
      dsimp only at heq
      rw [hnext, heq]
      obtain ⟨hboot, hst, hposted, hunconf, hv1, hv2⟩ := startUpEnded_scanEnd { s with store := scanned s.store }
      obtain ⟨hready, hspent⟩ := scanEnd_store { s with store := scanned s.store }
      refine ⟨hboot, hst, hunconf, hposted, hv1, hv2, ?_⟩
      split
      next h => rw [(hspent h).1]
      next h => rw [hready h]
    · rw [hr] at heq
      dsimp only at heq
      rw [heq, if_pos hw]
      exact ⟨rfl, rfl, rfl, rfl⟩
    · rw [hr] at heq
      dsimp only at heq
      rw [heq, if_neg (by simp [hw]), beginSwap_of_lt (by exact hg)]
      exact ⟨rfl, rfl, rfl, rfl⟩
    · rw [hr] at heq
      dsimp only at heq
      rw [heq, if_neg (by simp [hw]), beginRecovery_worn (by exact hg)]
      exact ⟨rfl, rfl, rfl, rfl, rfl, rfl⟩

end Sys2Proof.Machine
end

section
/-! SUPPORT. A cycle closed and a checkpoint requested, with what STORE makes of the request, and the end of a circuit (O15). -/
namespace Sys2Proof.Machine

/-! ## What a commit request leaves -/

theorem failRequest_leak (req : Request) (s : State) : (failRequest req s).leak = s.leak := (failRequest_frame req s).2.2.2.2.1

/-- A request that begins no recovery leaves LEAK alone. -/
theorem commitRequest_leak (req : Request) (s : State) : (commitRequest req s).leak = s.leak := by
  have hswap : (beginSwap false req s).leak = s.leak := by
    unfold beginSwap
    split
    · exact failRequest_leak req _
    · rfl
  unfold commitRequest
  split
  · rfl
  · split
    · rfl
    · exact hswap
  · rfl
  · exact failRequest_leak req s

/-- CYC hears nothing of a CHECKPOINT (R9). -/
theorem commitRequest_checkpoint_cyc {req : Request} (hk : req.kind = .checkpoint) (s : State) :
    (commitRequest req s).cyc = s.cyc := by
  have hfail (u : State) : failRequest req u = u := by rw [failRequest, hk]
  unfold commitRequest beginSwap
  (repeat' split) <;> simp [hfail] at *

/-- The posted cycle state is CYC's own (R18). -/
def statePosted (s : State) : Prop := s.peer.posting.cycleState = s.cyc.station

theorem statePosted_commitEnded {s : State} (h : statePosted s) : statePosted (commitEnded s) := by
  rcases commitEnded_cases s with ⟨-, he⟩ | ⟨-, he⟩ <;> rw [he]
  · exact h
  · rfl

theorem statePosted_failRequest (req : Request) {s : State} (h : statePosted s) : statePosted (failRequest req s) := by
  rcases failRequest_cases req s with ⟨-, he⟩ | ⟨-, he⟩ <;> rw [he]
  · exact h
  · exact statePosted_commitEnded h

theorem statePosted_commitRequest (req : Request) {s : State} (h : statePosted s) : statePosted (commitRequest req s) := by
  unfold commitRequest
  split
  · exact h
  · split
    · exact h
    · unfold beginSwap
      split
      · exact statePosted_failRequest req h
      · exact h
  · exact h
  · exact statePosted_failRequest req h

/-! ## The close of a cycle (R10, R11, R160) -/

/-- The open record with the cycle time and DEV's copy of a moment (R6, R8). -/
def refreshed (s : State) (r : OpenRecord) : OpenRecord := { r with cycleTime := cycleTime s, dev := devCopy s.dev }

/-- The record as the close leaves it. -/
def closedRecord (s : State) (r : OpenRecord) : OpenRecord :=
  { refreshed s r with verdict := verdictOf s.cfg.station.severity s.dev.status, final := true }

/-- The station in CLOSING, before STORE has the FINAL. -/
def closingState (s : State) : State :=
  setStation .closing { s with cyc := { s.cyc with
    formed := verdictOf s.cfg.station.severity s.dev.status
    record := s.cyc.record.map (closedRecord s) } }

theorem closeCycle_eq {s : State} {r : OpenRecord} (h : s.cyc.record = some r) :
    closeCycle s = commitRequest (requestOf .final (closedRecord s r)) (closingState s) := by
  have hstate : setStation .closing { writeRecord (fun r => { r with
      verdict := verdictOf s.cfg.station.severity s.dev.status, final := true }) (refreshRecord s) with
      cyc := { (writeRecord (fun r => { r with
        verdict := verdictOf s.cfg.station.severity s.dev.status, final := true }) (refreshRecord s)).cyc with
        formed := verdictOf s.cfg.station.severity s.dev.status } } = closingState s := by
    simp [closingState, writeRecord, refreshRecord, h, closedRecord, refreshed]
  unfold closeCycle
  dsimp only
  rw [hstate, handOver]
  simp [closingState, h]

theorem closeCycle_record {s : State} {r : OpenRecord} (h : s.cyc.record = some r) :
    (closeCycle s).cyc.record = some (closedRecord s r) := by
  rw [closeCycle_eq h]
  simp [closingState, h]

theorem closeCycle_leak (s : State) : (closeCycle s).leak = s.leak := by
  unfold closeCycle handOver
  dsimp only
  split
  · rw [commitRequest_leak]
    simp
  · simp

theorem statePosted_closeCycle (s : State) : statePosted (closeCycle s) := by
  unfold closeCycle handOver
  dsimp only
  split
  · exact statePosted_commitRequest _ rfl
  · rfl

/-- The closed record's FINAL is in STORE's hands. -/
theorem finalHandedOver_closeCycle {s : State} {r : OpenRecord} (h : s.cyc.record = some r) :
    finalHandedOver s (closeCycle s) (closedRecord s r) := by
  have hstore : (closingState s).store = s.store := by simp [closingState]
  have hwarn : (closingState s).supplyWarning = s.supplyWarning := by simp [closingState]
  rw [closeCycle_eq h]
  refine ⟨fun hst hw hg => ?_, fun hst => ?_, fun hst => ?_⟩
  · rw [commitRequest_ready (hstore ▸ hst) (hwarn.trans hw), beginSwap_of_lt (by rw [hstore]; exact hg), hstore]
    exact ⟨rfl, rfl⟩
  · rw [commitRequest_held (by rw [hstore, hwarn]; exact hst), replacePending_takes fun _ _ => .inr rfl, hstore]
    exact ⟨rfl, rfl⟩
  · rw [commitRequest_faulted (hstore ▸ hst), failRequest_closing rfl rfl]
    refine ⟨by simp [hstore], rfl, ?_⟩
    simp [closingState, h]

/-! ## A checkpoint (R8, R160) -/

theorem checkpoint_eq {s : State} {r : OpenRecord} (hin : inCycle s.cyc.station = true) (h : s.cyc.record = some r) :
    checkpoint s = commitRequest (requestOf .checkpoint (refreshed s r)) (refreshRecord s) := by
  rw [checkpoint, if_pos hin, handOver]
  simp [refreshRecord, h, refreshed]

theorem checkpoint_leak (s : State) : (checkpoint s).leak = s.leak := by
  unfold checkpoint handOver
  (repeat' split) <;> simp [commitRequest_leak]

theorem checkpoint_station (s : State) : (checkpoint s).cyc.station = s.cyc.station := by
  unfold checkpoint handOver
  split
  · split
    · rw [commitRequest_checkpoint_cyc rfl]
      simp
    · simp
  · rfl

theorem checkpoint_record {s : State} {r : OpenRecord} (hin : inCycle s.cyc.station = true) (h : s.cyc.record = some r) :
    (checkpoint s).cyc.record = some (refreshed s r) := by
  rw [checkpoint_eq hin h]
  simp [refreshRecord, h, refreshed]

/-- What STORE makes of a checkpoint (R160, R161, R164). -/
structure checkpointTaken (s t : State) (req : Request) : Prop where
  begins : s.store.state = .ready → s.supplyWarning = false → (swapOf s.store false req).gen < spentSeq →
    t.store.swap = some (swapOf s.store false req)
  waits : s.store.state = .swapping ∨ s.store.state = .ready ∧ s.supplyWarning = true →
    t.store = { s.store with pending := replacePending s.store.pending req }
  fails : s.store.state = .faulted → t.store = s.store

theorem checkpointTaken_checkpoint {s : State} {r : OpenRecord} (hin : inCycle s.cyc.station = true)
    (h : s.cyc.record = some r) : checkpointTaken s (checkpoint s) (requestOf .checkpoint (refreshed s r)) := by
  have hstore : (refreshRecord s).store = s.store := by simp
  have hwarn : (refreshRecord s).supplyWarning = s.supplyWarning := by simp
  rw [checkpoint_eq hin h]
  refine ⟨fun hst hw hg => ?_, fun hst => ?_, fun hst => ?_⟩
  · rw [commitRequest_ready (hstore ▸ hst) (hwarn.trans hw), beginSwap_of_lt (by rw [hstore]; exact hg), hstore]
  · rw [commitRequest_held (by rw [hstore, hwarn]; exact hst), hstore]
  · rw [commitRequest_faulted (hstore ▸ hst), failRequest]
    rfl

/-! ## The end of a job (R8, R10, R17) -/

theorem jobEnded_close {s : State} (hin : inCycle s.cyc.station = true) (h : jobsAtRest s = true) :
    jobEnded s = closeCycle s := by rw [jobEnded, if_pos hin, if_pos h]

theorem jobEnded_checkpoint {s : State} (hin : inCycle s.cyc.station = true) (h : jobsAtRest s = false) :
    jobEnded s = checkpoint s := by rw [jobEnded, if_pos hin, if_neg (by simp [h])]

theorem jobEnded_leak (s : State) : (jobEnded s).leak = s.leak := by
  unfold jobEnded
  (repeat' split) <;> simp [closeCycle_leak, checkpoint_leak]

/-- A job's end changes the station state only by the close, which posts it. -/
theorem jobEnded_posted (s : State) (h : (jobEnded s).cyc.station ≠ s.cyc.station) : statePosted (jobEnded s) := by
  unfold jobEnded at h ⊢
  split
  next hin =>
    rw [if_pos hin] at h
    split
    · exact statePosted_closeCycle s
    next hrest =>
      rw [if_neg hrest] at h
      exact absurd (checkpoint_station s) h
  next hin => exact absurd rfl (if_neg hin ▸ h)

/-- STORE's hold on a FINAL depends on STORE and the warning before, and on CYC, STORE and the posting after. -/
theorem finalHandedOver_of {s u t : State} {r : OpenRecord} (h : finalHandedOver u t r) (hs : u.store = s.store)
    (hw : u.supplyWarning = s.supplyWarning) : finalHandedOver s (leaveIdle t) r := by
  obtain ⟨h1, h2, h3⟩ := h
  rw [hs, hw] at h1 h2
  rw [hs] at h3
  refine ⟨?_, ?_, ?_⟩ <;> simpa

theorem checkpointTaken_of {s u t : State} {req : Request} (h : checkpointTaken u t req) (hs : u.store = s.store)
    (hw : u.supplyWarning = s.supplyWarning) : checkpointTaken s (leaveIdle t) req := by
  obtain ⟨h1, h2, h3⟩ := h
  rw [hs, hw] at h1 h2
  rw [hs] at h3
  refine ⟨?_, ?_, ?_⟩ <;> simpa

/-! ## The end of a circuit (R127, R130) -/

/-- The circuit in DONE and its section written, before CYC hears of it. -/
def circuitDone (c : CircuitId) (s : State) : State := writeCircuit c (withCircuit c enterDone s)

theorem ventExpired_eq {c : CircuitId} {s : State} (h : (circuitOf s c).state = .vent) :
    ventExpired c s = jobEnded (circuitDone c s) := if_pos h

@[simp] theorem circuitDone_frame (c : CircuitId) (s : State) :
    (circuitDone c s).store = s.store ∧ (circuitDone c s).supplyWarning = s.supplyWarning ∧ (circuitDone c s).dev = s.dev
      ∧ (circuitDone c s).cfg = s.cfg ∧ (circuitDone c s).cyc.station = s.cyc.station
      ∧ cycleTime (circuitDone c s) = cycleTime s := by
  simp [circuitDone, cycleTime]

theorem jobsAtRest_circuitDone (c : CircuitId) (s : State) :
    jobsAtRest (circuitDone c s) = jobsAtRest (withCircuit c enterDone s) := rfl

/-- A circuit is as LEAK has it. -/
theorem circuitOf_congr {s t : State} (h : t.leak = s.leak) (c : CircuitId) : circuitOf t c = circuitOf s c := by
  simp only [circuitOf, h]

theorem circuitOf_ventExpired {c : CircuitId} {s : State} (h : (circuitOf s c).state = .vent) (d : CircuitId) :
    circuitOf (ventExpired c s) d = circuitOf (withCircuit c enterDone s) d := by
  rw [ventExpired_eq h]
  exact circuitOf_congr (by rw [jobEnded_leak, circuitDone]; simp) d

/-- The circuit's section of a record. -/
def sectionOf (c : CircuitId) (r : OpenRecord) : CircuitSection :=
  match c with
  | .one => r.circuit1
  | .two => r.circuit2

/-- A record with the summary of a circuit that has ended. -/
def circuitWritten (c : CircuitId) (s : State) (r : OpenRecord) : OpenRecord :=
  setCircuitSection c (circuitSection (enterDone (circuitOf s c))) r

theorem circuitWritten_spec (c : CircuitId) (s : State) (r : OpenRecord) :
    sectionOf c (circuitWritten c s r) = circuitSection (enterDone (circuitOf s c))
      ∧ (circuitWritten c s r).final = r.final := by
  cases c <;> exact ⟨rfl, rfl⟩

theorem circuitDone_record {c : CircuitId} {s : State} {r : OpenRecord} (h : s.cyc.record = some r) :
    (circuitDone c s).cyc.record = some (circuitWritten c s r) := by
  simp [circuitDone, writeCircuit, circuitWritten, h]

/-- Settles O15: the circuit, and then the close or the checkpoint. -/
theorem ventExpiryEndsTheCircuit : Obligations.VentExpiryEndsTheCircuit := by
  intro c s hb hvent
  have heq := ventExpired_eq hvent
  have hleave (d : CircuitId) : circuitOf (leaveIdle (ventExpired c s)) d = circuitOf (withCircuit c enterDone s) d :=
    (circuitOf_congr (by simp) d).trans (circuitOf_ventExpired hvent d)
  have hc := (hleave c).trans (withCircuit_same c enterDone s)
  refine ⟨leaveIdle (ventExpired c s), whenReleased_running hb, ?_⟩
  rw [hc]
  refine ⟨rfl, rfl, rfl, rfl, rfl, by simp, by simp, by simp, by simp, fun d hd => ?_,
    latchedOn_leaveIdle (.ventExpired c s), fun hst => ?_, fun r hr hin => ?_⟩
  · rw [hleave, withCircuit_other _ _ _ _ hd]
  · simp only [leaveIdle_frame] at hst ⊢
    rw [heq] at hst ⊢
    exact jobEnded_posted _ (by simpa using hst)
  obtain ⟨hstore, hwarn, hdev, hcfg, hst, htime⟩ := circuitDone_frame c s
  obtain ⟨hsec, hfin⟩ := circuitWritten_spec c s r
  have hrec := circuitDone_record (c := c) hr
  have hin' : inCycle (circuitDone c s).cyc.station = true := hst ▸ hin
  have hrest := jobsAtRest_circuitDone c s
  cases hj : jobsAtRest (withCircuit c enterDone s) with
  | true =>
    rw [heq, jobEnded_close hin' (hrest.trans hj)]
    refine ⟨closedRecord (circuitDone c s) (circuitWritten c s r), by simpa using closeCycle_record hrec, ?_, ?_, htime,
      fun _ => ⟨rfl, ?_, finalHandedOver_of (finalHandedOver_closeCycle hrec) hstore hwarn⟩, nofun⟩
    · cases c <;> exact hsec
    · exact congrArg devCopy hdev
    · show verdictOf _ _ = _
      rw [hcfg, hdev]
  | false =>
    rw [heq, jobEnded_checkpoint hin' (hrest.trans hj)]
    obtain ⟨h1, h2, h3⟩ := checkpointTaken_of (checkpointTaken_checkpoint hin' hrec) hstore hwarn
    refine ⟨refreshed (circuitDone c s) (circuitWritten c s r), by simpa using checkpoint_record hin' hrec, ?_, ?_, htime,
      nofun, fun _ => ⟨?_, hfin, h1, h2, h3⟩⟩
    · cases c <;> exact hsec
    · exact congrArg devCopy hdev
    · simpa using (checkpoint_station (circuitDone c s)).trans hst

end Sys2Proof.Machine
end

section
/-! SUPPORT. LEAK armed, and the end of the run-in: STOPPING and COMPLETE (O37). -/
namespace Sys2Proof.Machine

/-! ## LEAK armed (R115, R117) -/

theorem Latches.intentTest (c : CircuitId) (s : State) : Latches s (intentTest c s) := by
  unfold Machine.intentTest
  split
  · exact .withCircuit c _ s
  · exact .refl s

theorem Latches.armLeak (s : State) : Latches s (armLeak s) := by
  unfold Machine.armLeak
  split
  · exact .refl s
  · refine Latches.trans (Latches.trans (Latches.trans ?_ (.withCircuit .two _ _)) (.intentTest .one _)) (.intentTest .two _)
    exact (Latches.withCircuit .one _ _).after rfl

theorem circuitOf_intentTest_other {c d : CircuitId} (s : State) (h : d ≠ c) :
    circuitOf (intentTest c s) d = circuitOf s d := by
  unfold intentTest
  split
  · exact withCircuit_other c d _ s h
  · rfl

/-- The intent test takes a circuit from WAIT to INTENT, or leaves it. -/
theorem circuitOf_intentTest_same (c : CircuitId) (s : State) :
    circuitOf (intentTest c s) c = circuitOf s c
      ∨ (circuitOf s c).state = .wait ∧ circuitOf (intentTest c s) c = enterIntent (circuitOf s c) := by
  unfold intentTest
  split
  next h => exact .inr ⟨h.1, withCircuit_same c _ s⟩
  · exact .inl rfl

theorem armLeak_refused {s : State} (h : s.leak.armed = true ∨ s.leak.armRefused = true) : armLeak s = s :=
  if_pos (by simpa using h)

/-- LEAK with both circuits armed, before their intent tests. -/
def circuitsArmed (s : State) : State :=
  withCircuit .two (armCircuit (enabledOf s .two)) (withCircuit .one (armCircuit (enabledOf s .one))
    { s with leak := { s.leak with armed := true } })

theorem armLeak_taken {s : State} (ha : s.leak.armed = false) (hr : s.leak.armRefused = false) :
    armLeak s = intentTest .two (intentTest .one (circuitsArmed s)) := by
  rw [armLeak, if_neg (by simp [ha, hr])]
  rfl

theorem circuitOf_circuitsArmed (s : State) (c : CircuitId) :
    circuitOf (circuitsArmed s) c = armCircuit (enabledOf s c) (circuitOf s c) := by
  cases c <;> rfl

/-- What arming makes of a circuit: what R115 says, and INTENT at once where the intent test lets it in. -/
theorem circuitOf_armLeak {s : State} (ha : s.leak.armed = false) (hr : s.leak.armRefused = false) (c : CircuitId) :
    circuitOf (armLeak s) c = armCircuit (enabledOf s c) (circuitOf s c)
      ∨ (armCircuit (enabledOf s c) (circuitOf s c)).state = .wait
        ∧ circuitOf (armLeak s) c = enterIntent (armCircuit (enabledOf s c) (circuitOf s c)) := by
  rw [armLeak_taken ha hr, ← circuitOf_circuitsArmed]
  cases c with
  | one =>
    rw [circuitOf_intentTest_other _ (by decide)]
    exact circuitOf_intentTest_same .one _
  | two =>
    have h := circuitOf_intentTest_same .two (intentTest .one (circuitsArmed s))
    rwa [circuitOf_intentTest_other (c := .one) (circuitsArmed s) (by decide)] at h

theorem intentTest_marks (c : CircuitId) (s : State) :
    (intentTest c s).leak.armed = s.leak.armed ∧ (intentTest c s).leak.armRefused = s.leak.armRefused
      ∧ (intentTest c s).leak.airWaitMark = s.leak.airWaitMark := by
  unfold intentTest
  split
  · cases c <;> exact ⟨rfl, rfl, rfl⟩
  · exact ⟨rfl, rfl, rfl⟩

/-- Arming sets the armed mark and no other. -/
theorem armLeak_marks (s : State) (ha : s.leak.armed = false) (hr : s.leak.armRefused = false) :
    (armLeak s).leak.armed = true ∧ (armLeak s).leak.armRefused = s.leak.armRefused
      ∧ (armLeak s).leak.airWaitMark = s.leak.airWaitMark := by
  rw [armLeak_taken ha hr]
  obtain ⟨h1, h2, h3⟩ := intentTest_marks .one (circuitsArmed s)
  obtain ⟨h4, h5, h6⟩ := intentTest_marks .two (intentTest .one (circuitsArmed s))
  exact ⟨h4.trans h1, h5.trans h2, h6.trans h3⟩

theorem armCircuit_enabled {k : Circuit} (h : k.state = .off) :
    armCircuit true k = { k.enter .wait with claimAge := 0, airWaitMs := 0, backoff := 0 } := if_pos ⟨rfl, h⟩

theorem armCircuit_disabled (k : Circuit) : armCircuit false k = k := if_neg (by simp)

/-- RUN's report to arm, as LEAK takes it. -/
theorem armingTold_armLeak (s : State) : armingTold s (armLeak s) := by
  refine ⟨fun ha hr => ⟨(armLeak_marks s ha hr).1, fun c hoff => ⟨fun hen => ?_, fun hdis => ?_⟩⟩,
    fun h => by rw [armLeak_refused h]⟩
  · have h := circuitOf_armLeak ha hr c
    rw [hen, armCircuit_enabled hoff] at h
    rcases h with h | ⟨-, h⟩ <;> rw [h] <;> exact ⟨rfl, rfl, rfl⟩
  · have h := circuitOf_armLeak ha hr c
    rw [hdis, armCircuit_disabled] at h
    rcases h with h | ⟨hw, -⟩
    · exact h
    · exact absurd (hoff.symm.trans hw) nofun

/-- What LEAK is told depends on LEAK and on the circuits that the programme in force enables. -/
theorem armingTold_of {s u t v : State} (h : armingTold u t) (hs : u.leak = s.leak) (he : ∀ c, enabledOf u c = enabledOf s c)
    (ht : v.leak = t.leak) : armingTold s v := by
  obtain ⟨h1, h2⟩ := h
  have hu := circuitOf_congr (s := s) (t := u) hs
  have hv := circuitOf_congr (s := t) (t := v) ht
  refine ⟨fun ha hr => ?_, fun h => ?_⟩
  · obtain ⟨harm, hc⟩ := h1 (hs ▸ ha) (hs ▸ hr)
    refine ⟨ht ▸ harm, fun c hoff => ?_⟩
    rw [hv, ← hu, ← he]
    exact hc c (hu c ▸ hoff)
  · rw [ht, ← hs]
    exact h2 (hs ▸ h)

/-! ## RUN's report to LEAK at COMPLETE (R60) -/

theorem armAtComplete_arms {s : State} (ht : s.run.leakTold = false) (hr : armsAtComplete s.run.endReason = true) :
    armAtComplete s = armLeak (withRun (fun r => { r with leakTold := true }) s) := if_pos (by simp [ht, hr])

theorem armAtComplete_still {s : State} (h : s.run.leakTold = true ∨ armsAtComplete s.run.endReason = false) :
    armAtComplete s = s := if_neg (by rcases h with h | h <;> simp [h])

theorem Latches.armAtComplete (s : State) : Latches s (armAtComplete s) := by
  unfold Machine.armAtComplete
  split
  · exact (Latches.armLeak _).after rfl
  · exact .refl s

/-- Of RUN's state the report moves the told mark alone. -/
theorem armAtComplete_run (s : State) :
    (armAtComplete s).run = { s.run with leakTold := (armAtComplete s).run.leakTold } := by
  unfold armAtComplete
  split
  · simp
  · rfl

/-! ## COMPLETE (R60, R61) -/

/-- RUN in COMPLETE and its section written, before CYC and LEAK hear of it. -/
def runComplete (s : State) : State :=
  writeRecord (fun r => { r with runIn := runSection s }) (postSpeed (withRun (fun r =>
    { r with state := .complete, rampLeft := 0 }) s))

theorem complete_eq (s : State) : complete s = armAtComplete (jobEnded (runComplete s)) := by
  have h : runSection (postSpeed (withRun (fun r => { r with state := .complete, rampLeft := 0 }) s)) = runSection s := rfl
  unfold complete runComplete
  dsimp only
  rw [h]

theorem Latches.complete (s : State) : Latches s (complete s) := by
  rw [complete_eq]
  refine (Latches.trans ?_ (.jobEnded _)).trans (.armAtComplete _)
  exact Latches.trans ((Latches.withRun _ s).trans (.postSpeed _)) (.writeRecord _ _)

/-- A job's end leaves of the record all but the verdict, the state, the cycle time and DEV's copy. -/
structure recordKept (r r' : OpenRecord) : Prop where
  seq : r'.seq = r.seq
  runIn : r'.runIn = r.runIn
  noise : r'.noise = r.noise

/-- What CYC makes of a job's end at which every job is at rest (R10). -/
structure cycleClosed (s t : State) (r r' : OpenRecord) : Prop where
  record : t.cyc.record = some r'
  kept : recordKept r r'
  final : r'.final = true
  verdict : r'.verdict = verdictOf s.cfg.station.severity s.dev.status
  cycleTime : r'.cycleTime = cycleTime s
  dev : r'.dev = devCopy s.dev
  closing : s.store.state ≠ .faulted → (swapOf s.store false (requestOf .final r')).gen < spentSeq → t.cyc.station = .closing
  handed : finalHandedOver s t r'

/-- What CYC makes of a job's end at which another job goes on (R8). -/
structure cycleGoesOn (s t : State) (r r' : OpenRecord) : Prop where
  record : t.cyc.record = some r'
  kept : recordKept r r'
  final : r'.final = r.final
  cycleTime : r'.cycleTime = cycleTime s
  dev : r'.dev = devCopy s.dev
  station : t.cyc.station = s.cyc.station
  handed : checkpointTaken s t (requestOf .checkpoint r')

/-- CLOSING stands unless the FINAL fails at once (R11, R160). -/
theorem closeCycle_closing {s : State} {r : OpenRecord} (h : s.cyc.record = some r) (hf : s.store.state ≠ .faulted)
    (hg : (swapOf s.store false (requestOf .final (closedRecord s r))).gen < spentSeq) :
    (closeCycle s).cyc.station = .closing := by
  have hstore : (closingState s).store = s.store := by simp [closingState]
  rw [closeCycle_eq h]
  unfold commitRequest
  rw [hstore]
  split
  · rfl
  · split
    · rfl
    · rw [beginSwap_of_lt (by rw [hstore]; exact hg)]
      rfl
  · rfl
  next hst => exact absurd hst hf

theorem cycleClosed_closeCycle {s : State} {r : OpenRecord} (h : s.cyc.record = some r) :
    cycleClosed s (closeCycle s) r (closedRecord s r) :=
  ⟨closeCycle_record h, ⟨rfl, rfl, rfl⟩, rfl, rfl, rfl, rfl, closeCycle_closing h, finalHandedOver_closeCycle h⟩

theorem cycleGoesOn_checkpoint {s : State} {r : OpenRecord} (hin : inCycle s.cyc.station = true) (h : s.cyc.record = some r) :
    cycleGoesOn s (checkpoint s) r (refreshed s r) :=
  ⟨checkpoint_record hin h, ⟨rfl, rfl, rfl⟩, rfl, rfl, rfl, checkpoint_station s, checkpointTaken_checkpoint hin h⟩

/-! ## A ramp step in STOPPING (R60) -/

theorem rampStep_stopping {s : State} (h : s.run.state = .stopping) : rampStep s = stoppingStep (beginStep s) := by
  rw [rampStep, h]

theorem Latches.rampStep_stopping {s : State} (h : s.run.state = .stopping) : Latches s (rampStep s) := by
  rw [Machine.rampStep_stopping h]
  unfold stoppingStep beginStep clearTrack
  split
  · exact ((Latches.withRun _ s).trans (.withRun _ _)).trans (.complete _)
  · exact ((Latches.withRun _ s).trans (.withRun _ _)).trans (.setSpeed _ _)

/-- The state that a step to COMPLETE starts from. -/
def completing (s : State) : State := clearTrack (beginStep s)

theorem rampStep_complete {s : State} (h : s.run.state = .stopping) (hc : s.run.cmd = 0) (hm : s.run.measured = 0) :
    rampStep s = armAtComplete (jobEnded (runComplete (completing s))) := by
  rw [rampStep_stopping h, stoppingStep, if_pos ⟨hc, hm⟩, complete_eq]
  rfl

@[simp] theorem runComplete_frame (s : State) :
    (runComplete (completing s)).store = s.store ∧ (runComplete (completing s)).supplyWarning = s.supplyWarning
      ∧ (runComplete (completing s)).dev = s.dev ∧ (runComplete (completing s)).cfg = s.cfg
      ∧ (runComplete (completing s)).leak = s.leak ∧ (runComplete (completing s)).cyc.station = s.cyc.station
      ∧ (runComplete (completing s)).run = { s.run with
          state := .complete, rampLeft := 0, trackCount := 0, lastSum := demandSum s, lastAllowed := allowedPower s }
      ∧ (runComplete (completing s)).cyc.record = s.cyc.record.map (fun r => { r with runIn := runSection s }) :=
  ⟨rfl, rfl, rfl, rfl, rfl, rfl, rfl, rfl⟩

theorem jobsAtRest_runComplete (s : State) :
    jobsAtRest (runComplete (completing s)) = jobsAtRest { s with run := { s.run with state := .complete } } := rfl

/-- A step in STOPPING that still falls (R60). -/
theorem rampStep_falling {s : State} (h : s.run.state = .stopping) (hf : 0 < s.run.cmd ∨ 0 < s.run.measured) :
    rampStep s = setSpeed (s.run.cmd - stepSize (progOf s).abortRate) (completing s) := by
  rw [rampStep_stopping h, stoppingStep, if_neg (by show ¬ (s.run.cmd = 0 ∧ s.run.measured = 0); omega)]
  rfl

/-- Of the speed's posting only the class can be an event (R20). -/
theorem eventChange_speed (p : Posting) (acoustic : Acoustic) (demand : Nat) :
    eventChange p { p with acoustic := acoustic, demand := demand } = decide (p.acoustic ≠ acoustic) := by
  simp [eventChange]

/-- The speed set: its class and demand posted, and the latch by the class alone (R20, R50, R53). -/
theorem setSpeed_eq (rpm : Nat) (s : State) {acoustic : Acoustic}
    (h : acoustic = if s.cfg.station.quietLimit < rpm then .loud else .quiet) :
    setSpeed rpm s = { s with
      run := { s.run with cmd := rpm }
      peer := { s.peer with
        latch := s.peer.latch || decide (s.peer.posting.acoustic ≠ acoustic)
        posting := { s.peer.posting with
          acoustic := acoustic, demand := demandOf s.run.torque rpm s.cfg.station.stationCap } } } := by
  subst h
  rw [← eventChange_speed]
  rfl

theorem armsAtComplete_of_mem {why : EndReason} :
    (why ∈ [EndReason.profileEnd, .fatalStop, .trackStop] → armsAtComplete why = true)
      ∧ (why ∈ [EndReason.abort, .standStop] → armsAtComplete why = false) := by
  cases why <;> decide

/-- Settles O37: the fall, and at COMPLETE what CYC and LEAK make of it. -/
theorem stoppingStepFallsToComplete : Obligations.StoppingStepFallsToComplete := by
  intro s hb hst
  refine ⟨fun hf => ⟨_, _, rfl, rfl, ?_⟩, fun hc hm => ?_⟩
  · refine whenReleased_eq hb ?_
    rw [rampStep_falling hst hf, setSpeed_eq _ _ rfl]
    rfl
  obtain ⟨hstore, hwarn, hdev, hcfg, hleak, hstation, hrun, hrecord⟩ := runComplete_frame s
  have heq := rampStep_complete hst hc hm
  have hrest := jobsAtRest_runComplete s
  have hjob : (rampStep s).cyc = (jobEnded (runComplete (completing s))).cyc
      ∧ (rampStep s).store = (jobEnded (runComplete (completing s))).store := by
    rw [heq]
    simp
  have hruns : (rampStep s).run = { (runComplete (completing s)).run with leakTold := (rampStep s).run.leakTold } := by
    rw [heq, armAtComplete_run]
    simp
  have hjobrun : (jobEnded (runComplete (completing s))).run.leakTold = s.run.leakTold
      ∧ (jobEnded (runComplete (completing s))).run.endReason = s.run.endReason := by
    simp
  have hjobleak : (jobEnded (runComplete (completing s))).leak = s.leak := (jobEnded_leak _).trans hleak
  rw [hrun] at hruns
  refine ⟨leaveIdle (rampStep s), whenReleased_running hb, latchedOn_leaveIdle (.rampStep_stopping hst), ?_⟩
  simp only [leaveIdle_frame]
  refine ⟨by rw [hruns], by rw [hruns]; exact hc, by rw [hruns], by rw [hruns], by rw [hruns], by rw [hruns], fun r hr => ?_,
    fun htold hwhy => ?_, fun h => ?_⟩
  · have hrec : (runComplete (completing s)).cyc.record = some { r with runIn := runSection s } := by rw [hrecord, hr]; rfl
    rw [hjob.1, hjob.2]
    cases hin : inCycle s.cyc.station with
    | false =>
      have hout : ¬ inCycle (runComplete (completing s)).cyc.station = true := by simp [hin]
      rw [jobEnded, if_neg hout]
      exact ⟨_, hrec, rfl, rfl, rfl, rfl, rfl, nofun, nofun⟩
    | true =>
      have hin' : inCycle (runComplete (completing s)).cyc.station = true := by rw [hstation, hin]
      cases hj : jobsAtRest { s with run := { s.run with state := .complete } } with
      | true =>
        rw [jobEnded_close hin' (hrest.trans hj)]
        obtain ⟨hr', -, hfinal, hverdict, -, -, hclosing, hhanded⟩ := cycleClosed_closeCycle hrec
        rw [hstore] at hclosing
        rw [hcfg, hdev] at hverdict
        refine ⟨_, hr', rfl, rfl, rfl, rfl, rfl, fun _ _ => ⟨hfinal, hverdict, hclosing, fun hready hw hg => ?_⟩, nofun⟩
        have hbegins := hhanded.begins
        rw [hstore, hwarn] at hbegins
        exact (hbegins hready hw hg).2
      | false =>
        rw [jobEnded_checkpoint hin' (hrest.trans hj)]
        obtain ⟨hr', -, hfinal, -, hcopy, hkeeps, hhanded⟩ := cycleGoesOn_checkpoint hin' hrec
        refine ⟨_, hr', rfl, rfl, rfl, rfl, rfl, nofun, fun _ _ => ⟨hfinal, hkeeps.trans hstation, ?_, ?_⟩⟩
        · rw [hcopy, hdev]
        · have hbegins := hhanded.begins
          rw [hstore, hwarn] at hbegins
          exact hbegins
  · have harms := armAtComplete_arms (hjobrun.1.trans htold)
      (by rw [hjobrun.2]; exact armsAtComplete_of_mem.1 hwhy)
    have harming := armingTold_armLeak (withRun (fun r => { r with leakTold := true }) (jobEnded (runComplete (completing s))))
    rw [← harms, ← heq] at harming
    refine ⟨by rw [heq, harms]; simp, armingTold_of harming hjobleak (fun c => ?_) (by simp)⟩
    cases c <;> simp [enabledOf, progOf, runComplete, completing, clearTrack, beginStep]
  · have hstill := armAtComplete_still (s := jobEnded (runComplete (completing s)))
      (h.imp hjobrun.1.trans fun hwhy => by rw [hjobrun.2]; exact armsAtComplete_of_mem.2 hwhy)
    rw [heq, hstill, hjobleak]

end Sys2Proof.Machine
end

section
/-! SUPPORT. An abort cause in TESTING: RUN's stop, LEAK's abort, and the close at once (O13). -/
namespace Sys2Proof.Machine

/-! ## RUN's stop for a cause (R60) -/

/-- What a stop request leaves: a run-in stopping for the cause, its speed 0 where the cause takes it there at once, and
outside a run-in RUN as it was. Of the rest LSN, VIB and the posting move alone. -/
structure stopTaken (why : EndReason) (s t : State) : Prop where
  run : inRunIn s.run.state = true → t.run.state = .stopping ∧ t.run.endReason = why
    ∧ t.run.holds = (if s.run.state = .stopping then s.run.holds else noHolds)
    ∧ t.run.cmd = (if why = .standStop then 0 else s.run.cmd)
  rest : inRunIn s.run.state = false → t.run = s.run
  others : t.cyc = s.cyc ∧ t.dev = s.dev ∧ t.leak = s.leak ∧ t.store = s.store ∧ t.cfg = s.cfg
    ∧ t.supplyWarning = s.supplyWarning
  latches : Latches s t

/-- A stop request changes the reason of a run-in that is stopping, and takes one in a segment to STOPPING. -/
theorem stopRequest_run (why : EndReason) (s : State) :
    (inRunIn s.run.state = true → (toStopping why (changeReason why s)).run
        = { s.run with
            state := .stopping
            endReason := why
            holds := if s.run.state = .stopping then s.run.holds else noHolds })
      ∧ (inRunIn s.run.state = false → (toStopping why (changeReason why s)).run = s.run) := by
  unfold toStopping changeReason
  cases hst : s.run.state <;> simp [hst, inSegment, inRunIn, withRun]

theorem stopTaken_stopForAbort (s : State) : stopTaken .abort s (stopForAbort s) := by
  obtain ⟨h1, h2⟩ := stopRequest_run .abort s
  refine ⟨fun h => ?_, h2, by simp, .stopForAbort s⟩
  rw [stopForAbort, h1 h]
  exact ⟨rfl, rfl, rfl, rfl⟩

theorem stopTaken_stopAtOnce (s : State) : stopTaken .standStop s (stopAtOnce s) := by
  obtain ⟨h1, -⟩ := stopRequest_run .standStop s
  refine ⟨fun h => ?_, fun h => by simp [stopAtOnce, h], by simp, .stopAtOnce s⟩
  have hrun : (stopAtOnce s).run = { (toStopping .standStop (changeReason .standStop s)).run with cmd := 0 } := by
    rw [stopAtOnce, if_pos h]
    rfl
  rw [hrun, h1 h]
  exact ⟨rfl, rfl, rfl, rfl⟩

theorem stopTaken_complete {why : EndReason} {s t : State} (h : stopTaken why s t) :
    t.run.state = .complete ↔ s.run.state = .complete := by
  cases hin : inRunIn s.run.state with
  | true =>
    rw [(h.run hin).1]
    refine ⟨nofun, fun hc => ?_⟩
    rw [hc] at hin
    cases hin
  | false => rw [h.rest hin]

/-- A run-in that is stopping holds nothing (R42). -/
theorem holds_of_stopping {s : State} (h : holdLaw s) (hst : s.run.state = .stopping) : s.run.holds = noHolds := by
  have hempty : s.run.holds.isEmpty = true := by
    by_contra hne
    exact absurd (hst.symm.trans (h.1.mp (by simpa using hne))) nofun
  unfold Holds.isEmpty at hempty
  simp only [Bool.and_eq_true, Bool.not_eq_true'] at hempty
  obtain ⟨⟨⟨h1, h2⟩, h3⟩, h4⟩ := hempty
  cases hh : s.run.holds
  simp_all [noHolds]

/-! ## LEAK's abort (R128) -/

/-- The abort as a circuit takes it, OFF or not. -/
def circuitAborted (enabled armed : Bool) (p : CircuitParams) (k : Circuit) : Circuit :=
  if k.state = .off then if enabled ∧ armed = false then { k with outcome := .aborted } else k else abortActive p k

theorem circuitOf_abortCircuit_same (c : CircuitId) (s : State) : circuitOf (abortCircuit c s) c
    = circuitAborted (enabledOf s c) s.leak.armed (paramsOf s c) (circuitOf s c) := by
  have hwrite (u : State) : circuitOf (writeCircuit c u) c = circuitOf u c := circuitOf_congr (by simp) c
  unfold abortCircuit circuitAborted
  split
  · split
    · rw [hwrite, withCircuit_same]
    · rfl
  · rw [withCircuit_same]

theorem circuitOf_abortCircuit_other {c d : CircuitId} (s : State) (h : d ≠ c) :
    circuitOf (abortCircuit c s) d = circuitOf s d := by
  have hwrite (u : State) : circuitOf (writeCircuit c u) d = circuitOf u d := circuitOf_congr (by simp) d
  unfold abortCircuit
  split
  · split
    · rw [hwrite, withCircuit_other _ _ _ _ h]
    · rfl
  · rw [withCircuit_other _ _ _ _ h]

theorem abortCircuit_armed (c : CircuitId) (s : State) : (abortCircuit c s).leak.armed = s.leak.armed := by
  unfold abortCircuit
  split
  · split
    · cases c <;> rfl
    · rfl
  · cases c <;> rfl

theorem circuitOf_abortLeak (s : State) (c : CircuitId) : circuitOf (abortLeak s) c
    = circuitAborted (enabledOf s c) s.leak.armed (paramsOf s c) (circuitOf s c) := by
  show circuitOf (abortCircuit .two (abortCircuit .one s)) c = _
  cases c with
  | one => rw [circuitOf_abortCircuit_other _ (by decide), circuitOf_abortCircuit_same]
  | two =>
    rw [circuitOf_abortCircuit_same, circuitOf_abortCircuit_other _ (by decide), abortCircuit_armed]
    simp [enabledOf, paramsOf, progOf]

/-- A circuit after the abort, by its state before: under test it vents, ABORTED; in VENT and DONE it is as it was; and OFF it
stays OFF, its outcome ABORTED where it was still to be armed. -/
theorem circuitAborted_cases (enabled armed : Bool) (p : CircuitParams) (k : Circuit) :
    (k.state ∈ [.wait, .intent, .fill, .stabilise, .measure] →
        (circuitAborted enabled armed p k).state = .vent ∧ (circuitAborted enabled armed p k).outcome = .aborted
          ∧ (circuitAborted enabled armed p k).ventValve = true)
      ∧ (k.state = .vent ∨ k.state = .done → circuitAborted enabled armed p k = k)
      ∧ (k.state = .off → (circuitAborted enabled armed p k).state = .off
          ∧ (enabled = true → armed = false → (circuitAborted enabled armed p k).outcome = .aborted)) := by
  unfold circuitAborted abortActive
  cases hst : k.state with
  | off => cases enabled <;> cases armed <;> simp [hst]
  | vent => simp
  | done => simp
  | _ => exact ⟨fun _ => ⟨rfl, rfl, rfl⟩, by simp, by simp⟩

/-- Whether a circuit has come to rest in an abort is what it was before: OFF or DONE (R17). -/
theorem circuitAborted_atRest (enabled armed : Bool) (p : CircuitParams) (k : Circuit) :
    (circuitAborted enabled armed p k).state ∈ [.off, .done] ↔ k.state ∈ [.off, .done] := by
  obtain ⟨htest, hkeep, hoff⟩ := circuitAborted_cases enabled armed p k
  cases hst : k.state with
  | off => simp [(hoff hst).1]
  | done => simp [hkeep (.inr hst), hst]
  | vent => simp [hkeep (.inl hst), hst]
  | _ => simp [(htest (by simp [hst])).1]

theorem writeCircuit_record {c : CircuitId} {s : State} {r : OpenRecord} (h : s.cyc.record = some r) :
    ∃ r', (writeCircuit c s).cyc.record = some r' ∧ r'.seq = r.seq :=
  ⟨setCircuitSection c (circuitSection (circuitOf s c)) r, by simp [writeCircuit, h], by cases c <;> rfl⟩

/-- LEAK's abort moves no more of the record than the circuits' sections. -/
theorem abortLeak_record {s : State} {r : OpenRecord} (h : s.cyc.record = some r) :
    ∃ r', (abortLeak s).cyc.record = some r' ∧ r'.seq = r.seq := by
  have hone (c : CircuitId) (u : State) (r : OpenRecord) (h : u.cyc.record = some r) :
      ∃ r', (abortCircuit c u).cyc.record = some r' ∧ r'.seq = r.seq := by
    unfold abortCircuit
    split
    · split
      · exact writeCircuit_record (by simpa using h)
      · exact ⟨r, h, rfl⟩
    · exact ⟨r, by simp [h], rfl⟩
  obtain ⟨r1, h1, hs1⟩ := hone .one s r h
  obtain ⟨r2, h2, hs2⟩ := hone .two (abortCircuit .one s) r1 h1
  exact ⟨r2, h2, hs2.trans hs1⟩

/-! ## The abort (R13, R17) -/

/-- The station in ABORTING with every job told, before CYC looks whether all are at rest. -/
def aborting (e : DevEvent) (stop : State → State) (s : State) : State :=
  setStation .aborting (abortLeak (abandonSweep (stop (takeDev e s))))

theorem abortCycle_eq (e : DevEvent) (stop : State → State) (s : State) :
    abortCycle e stop s = closeIfAtRest (aborting e stop s) := rfl

theorem abandonSweep_idle (s : State) : (abandonSweep s).vib.state = .idle ∧ (abandonSweep s).lsn.state = .inactive := by
  refine ⟨?_, ?_⟩
  · show (vibAbandon _).state = _
    unfold vibAbandon
    split
    · assumption
    · rfl
  · show (lsnAbandon s).lsn.state = _
    unfold lsnAbandon
    split
    · assumption
    · rfl

/-- What every job stands at in ABORTING, before the close. -/
structure abortedJobs (e : DevEvent) (stop : State → State) (s t : State) : Prop where
  dev : t.dev = (takeDev e s).dev
  run : t.run = (stop (takeDev e s)).run
  vib : t.vib.state = .idle
  lsn : t.lsn.state = .inactive
  circuits : ∀ c, circuitOf t c = circuitAborted (enabledOf s c) s.leak.armed (paramsOf s c) (circuitOf s c)
  station : t.cyc.station = .aborting
  store : t.store = s.store ∧ t.supplyWarning = s.supplyWarning
  cfg : t.cfg = s.cfg
  time : cycleTime t = cycleTime s
  enabled : ∀ c, enabledOf t c = enabledOf s c
  record : ∀ r, s.cyc.record = some r → ∃ r', t.cyc.record = some r' ∧ r'.seq = r.seq
  posted : statePosted t
  latches : Latches s t

theorem abortedJobs_aborting {e : DevEvent} {why : EndReason} {stop : State → State} {s : State}
    (h : stopTaken why (takeDev e s) (stop (takeDev e s))) : abortedJobs e stop s (aborting e stop s) := by
  obtain ⟨hcyc, hdev, hleak, hstore, hcfg, hwarn⟩ := h.others
  obtain ⟨hvib, hlsn⟩ := abandonSweep_idle (stop (takeDev e s))
  have hprog : progOf (abandonSweep (stop (takeDev e s))) = progOf s := by simp [progOf, hcyc, hcfg]
  have henabled (c : CircuitId) : enabledOf (abandonSweep (stop (takeDev e s))) c = enabledOf s c := by
    cases c <;> simp only [enabledOf, hprog]
  have hparams (c : CircuitId) : paramsOf (abandonSweep (stop (takeDev e s))) c = paramsOf s c := by
    cases c <;> simp only [paramsOf, hprog]
  have hleak' : (abandonSweep (stop (takeDev e s))).leak = s.leak := by simp [hleak]
  refine ⟨?_, ?_, ?_, ?_, fun c => ?_, rfl, ?_, ?_, ?_, fun c => ?_, fun r hr => ?_, rfl, ?_⟩ <;> unfold aborting
  · simp [hdev]
  · simp
  · simp [hvib]
  · simp [hlsn]
  · rw [circuitOf_congr (s := abortLeak (abandonSweep (stop (takeDev e s)))) (by simp), circuitOf_abortLeak, henabled, hparams,
      hleak', circuitOf_congr hleak']
  · simp [hstore, hwarn]
  · simp [hcfg]
  · simp [cycleTime, hcyc]
  · rw [← henabled]
    cases c <;> simp [enabledOf, progOf]
  · obtain ⟨r', hr', hseq⟩ := abortLeak_record (s := abandonSweep (stop (takeDev e s))) (r := r) (by simp [hcyc, hr])
    exact ⟨r', by simpa using hr', hseq⟩
  · exact ((((Latches.takeDev e s).trans h.latches).trans (.abandonSweep _)).trans (.abortLeak _)).trans
      (.setStation .aborting _)

theorem circuitAtRest_aborting {s : State} (h : s.cyc.station = .aborting) (c : CircuitId) :
    circuitAtRest s c = true ↔ (enabledOf s c = true → (circuitOf s c).state ∈ [.off, .done]) := by
  unfold circuitAtRest
  rw [h]
  cases enabledOf s c <;> simp [or_comm]

/-- Every job is at rest in ABORTING exactly where RUN had reached COMPLETE and no enabled circuit is left to vent (R17). -/
theorem jobsAtRest_aborting {e : DevEvent} {why : EndReason} {stop : State → State} {s t : State}
    (h : stopTaken why (takeDev e s) (stop (takeDev e s))) (ht : abortedJobs e stop s t) :
    jobsAtRest t = true
      ↔ s.run.state = .complete ∧ ∀ c, enabledOf s c = true → (circuitOf s c).state ∈ [.off, .done] := by
  have hrun : t.run.state = .complete ↔ s.run.state = .complete := by
    rw [ht.run, stopTaken_complete h]
    simp
  have hc (c : CircuitId) : circuitAtRest t c = true
      ↔ (enabledOf s c = true → (circuitOf s c).state ∈ [.off, .done]) := by
    rw [circuitAtRest_aborting ht.station, ht.enabled, ht.circuits, circuitAborted_atRest]
  have hall (p : CircuitId → Prop) : (∀ c, p c) ↔ p .one ∧ p .two :=
    ⟨fun h => ⟨h _, h _⟩, fun h c => by cases c <;> simp [h]⟩
  rw [hall, jobsAtRest]
  simp only [Bool.and_eq_true, beq_iff_eq, hrun, ht.vib, hc, and_assoc, true_and]

theorem commitRequest_station (req : Request) (s : State) :
    (commitRequest req s).cyc.station = s.cyc.station ∨ (commitRequest req s).cyc.station = .done := by
  have hfail (u : State) : (failRequest req u).cyc.station = u.cyc.station ∨ (failRequest req u).cyc.station = .done := by
    rcases failRequest_cases req u with ⟨-, he⟩ | ⟨-, he⟩
    · exact .inl (by rw [he])
    · rcases commitEnded_cases u with ⟨-, he'⟩ | ⟨-, he'⟩ <;> rw [he, he']
      · exact .inl rfl
      · exact .inr rfl
  unfold commitRequest
  split
  · exact .inl rfl
  · split
    · exact .inl rfl
    · unfold beginSwap
      split
      · exact hfail _
      · exact .inl rfl
  · exact .inl rfl
  · exact hfail s

theorem closeCycle_station (s : State) : (closeCycle s).cyc.station = .closing ∨ (closeCycle s).cyc.station = .done := by
  unfold closeCycle handOver
  dsimp only
  split
  · exact commitRequest_station _ _
  · exact .inl rfl

/-- The abort as a whole, from the jobs it leaves and the close (R13, R17). -/
theorem stoppedFor_closeIfAtRest {e : DevEvent} {why : EndReason} {stop : State → State} {s t : State}
    (h : stopTaken why (takeDev e s) (stop (takeDev e s))) (ht : abortedJobs e stop s t) (hl : holdLaw s) :
    stoppedFor e why s (closeIfAtRest t) := by
  have hrest := jobsAtRest_aborting h ht
  have hleak : (closeIfAtRest t).leak = t.leak := by
    unfold closeIfAtRest
    split
    · exact closeCycle_leak t
    · rfl
  have hcircuit (c : CircuitId) := (circuitOf_congr hleak c).trans (ht.circuits c)
  have hcases (c : CircuitId) := circuitAborted_cases (enabledOf s c) s.leak.armed (paramsOf s c) (circuitOf s c)
  refine ⟨by simpa using ht.dev, fun hin => ?_, by simpa using ht.vib, by simpa using ht.lsn, fun c hc => ?_, fun c hc => ?_,
    fun c hc hen harm => ?_, ⟨?_, fun hne => ?_⟩, fun hrun hoff r hr => ?_, ?_, ?_⟩
  · obtain ⟨h1, h2, h3, h4⟩ := h.run (by simpa using hin)
    have hholds : (if (takeDev e s).run.state = .stopping then (takeDev e s).run.holds else noHolds) = noHolds := by
      split
      next hst => simpa using holds_of_stopping hl (by simpa using hst)
      · rfl
    rw [(closeIfAtRest_frame t).1, ht.run]
    exact ⟨h1, h2, h3.trans hholds, by simpa using h4⟩
  · rw [hcircuit]
    exact (hcases c).1 hc
  · rw [hcircuit]
    exact (hcases c).2.1 (.inl hc)
  · rw [hcircuit]
    exact ⟨((hcases c).2.2 hc).1, ((hcases c).2.2 hc).2 hen harm⟩
  · unfold closeIfAtRest
    split
    · rcases closeCycle_station t with hst | hst <;> rw [hst] <;> decide
    · rw [ht.station]
      decide
  · have hnot : jobsAtRest t ≠ true := fun hj => by
      obtain ⟨hrun, hoff⟩ := hrest.mp hj
      rcases hne with hne | ⟨c, hen, hc⟩
      · exact hne hrun
      · exact hc (hoff c hen)
    rw [closeIfAtRest, if_neg fun hj => hnot hj.2, ht.station]
  · obtain ⟨r0, hr0, hseq⟩ := ht.record r hr
    have hclose : closeIfAtRest t = closeCycle t := if_pos ⟨ht.station, hrest.mpr ⟨hrun, hoff⟩⟩
    obtain ⟨hrec, hkept, hfinal, hverdict, htime, hcopy, -, hhanded⟩ := cycleClosed_closeCycle hr0
    rw [hclose]
    refine ⟨_, hrec, hkept.seq.trans hseq, hfinal, ?_, htime.trans ht.time, ?_, ?_⟩
    · rw [hverdict, ht.cfg]
      simp
    · rw [hcopy]
      simp
    · obtain ⟨h1, h2, h3⟩ := hhanded
      rw [ht.store.1, ht.store.2] at h1 h2
      rw [ht.store.1] at h3
      exact ⟨h1, h2, h3⟩
  · show statePosted _
    unfold closeIfAtRest
    split
    · exact statePosted_closeCycle t
    · exact ht.posted
  · exact latchedOn_of_latches (ht.latches.trans (.closeIfAtRest t))

theorem stoppedFor_abortCycle {e : DevEvent} {why : EndReason} {stop : State → State} {s : State}
    (h : stopTaken why (takeDev e s) (stop (takeDev e s))) (hl : holdLaw s) :
    stoppedFor e why s (abortCycle e stop s) :=
  stoppedFor_closeIfAtRest h (abortedJobs_aborting h) hl

/-- The transmitter's choice and a reply move LIF alone. -/
theorem stoppedFor.leave {e : DevEvent} {why : EndReason} {s t : State} (h : stoppedFor e why s t) :
    stoppedFor e why s (leaveIdle t) := by
  rcases leaveIdle_cases t with he | ⟨_, -, -, he⟩ <;> rw [he]
  · exact h
  · obtain ⟨h1, h2, h3, h4, h5, h6, h7, h8, h9, h10⟩ := h
    refine ⟨h1, h2, h3, h4, h5, h6, h7, h8, fun hrun hoff r hr => ?_, h10⟩
    obtain ⟨r', hr', hseq, hfin, hver, htime, hdev, h11, h12, h13⟩ := h9 hrun hoff r hr
    exact ⟨r', hr', hseq, hfin, hver, htime, hdev, h11, h12, h13⟩

theorem stoppedFor.answer {e : DevEvent} {why : EndReason} {s t : State} (h : stoppedFor e why s t) (r : Reply) :
    stoppedFor e why s (answered r t) := by
  refine stoppedFor.leave ?_
  obtain ⟨h1, h2, h3, h4, h5, h6, h7, h8, h9, h10⟩ := h
  refine ⟨h1, h2, h3, h4, h5, h6, h7, h8, fun hrun hoff r hr => ?_, h10⟩
  obtain ⟨r', hr', hseq, hfin, hver, htime, hdev, h11, h12, h13⟩ := h9 hrun hoff r hr
  exact ⟨r', hr', hseq, hfin, hver, htime, hdev, h11, h12, h13⟩

/-- No part of the abort looks at the input levels of before. -/
theorem stoppedFor.ofPins {e : DevEvent} {why : EndReason} {s t : State} {p : Pins}
    (h : stoppedFor e why { s with pins := p } t) : stoppedFor e why s t := by
  obtain ⟨h1, h2, h3, h4, h5, h6, h7, h8, h9, h10⟩ := h
  refine ⟨h1.trans (takeDev_pins e p s), h2, h3, h4, h5, h6, h7, h8, fun hrun hoff r hr => ?_, h10⟩
  obtain ⟨r', hr', hseq, hfin, hver, htime, hdev, h11, h12, h13⟩ := h9 hrun hoff r hr
  exact ⟨r', hr', hseq, hfin, hver, htime, hdev, h11, h12, h13⟩

/-- A stand input's abort, whatever the input levels that it is seen at. -/
theorem stoppedFor_standAbort {s : State} (input : Nat) (p : Pins) (hst : s.cyc.station = .testing) (hl : holdLaw s) :
    stoppedFor ⟨.standStop, s.run.seg, input, 0⟩ .standStop s (leaveIdle (standAbort input { s with pins := p })) := by
  rw [standAbort_testing (s := { s with pins := p }) input hst]
  exact (stoppedFor_abortCycle (s := { s with pins := p }) (stopTaken_stopAtOnce _) hl).leave.ofPins

/-- Settles O13: the abort is one for the three causes, which differ in the event and the stop. -/
theorem abortCauseStopsTheJobs : Obligations.AbortCauseStopsTheJobs := by
  intro s hst hl
  refine ⟨fun dest h hd => ⟨_, exec_abort_accepted h hd (by rw [hst]; rfl), ?_⟩,
    fun hb => ⟨_, whenReleased_running hb, ?_⟩, fun hb which => ⟨_, whenReleased_running hb, ?_⟩⟩
  · rw [abortTaken_testing false hst]
    exact (stoppedFor_abortCycle (stopTaken_stopForAbort _) hl).answer _
  · exact stoppedFor_standAbort 1 _ hst hl
  · rw [axleFall_stand which (by simp [hst])]
    exact stoppedFor_standAbort _ _ hst hl

end Sys2Proof.Machine
end

section
/-! SUPPORT. A segment entered, and the START that is accepted (O11). -/
namespace Sys2Proof.Machine

/-! ## A segment entered (R44) -/

/-- The segment of the programme in force at an index. -/
def segAt (i : Nat) (s : State) : Segment := (progOf s).segments.getD i segmentZero

/-- RUN at a segment, before its direction, LEAK and LSN are seen to (R44, step 1). -/
def atSegment (i : Nat) (s : State) : State :=
  withRun (fun r => { r with state := .segment, seg := i, dwellMs := 0, trackCount := 0, stage := .deferred }) s

theorem enterSegment_eq (i : Nat) (s : State) :
    enterSegment i s = withRun settleHolds (beginSweep (tellLeak (faceDirection (atSegment i s)))) := rfl

theorem atSegment_run (i : Nat) (s : State) : (atSegment i s).run = { s.run with
    state := .segment, seg := i, dwellMs := 0, trackCount := 0, stage := .deferred } := rfl

/-- What facing a segment's direction moves of RUN. -/
theorem faceDirection_run (s : State) : ∃ dir cmd reversal, (faceDirection s).run
    = { s.run with dir := dir, cmd := cmd, holds := { s.run.holds with reversal := reversal } } := by
  unfold faceDirection
  split
  · exact ⟨_, _, _, rfl⟩
  · split
    · exact ⟨segDir s, s.run.cmd, s.run.holds.reversal, rfl⟩
    · exact ⟨s.run.dir, 0, true, rfl⟩

theorem tellLeak_run (s : State) : ∃ told, (tellLeak s).run = { s.run with leakTold := told } := by
  unfold tellLeak
  split
  · exact ⟨true, by simp⟩
  · exact ⟨_, rfl⟩

theorem beginSweep_run (s : State) : ∃ cmd defer,
    (beginSweep s).run = { s.run with cmd := cmd, holds := { s.run.holds with defer := defer } } := by
  unfold beginSweep cutQuiet
  split
  · rw [(lsnBegin_frame _).2.1]
    split
    · exact ⟨s.cfg.station.quietLimit, true, rfl⟩
    · exact ⟨s.run.cmd, true, rfl⟩
  · exact ⟨_, _, rfl⟩

theorem settleHolds_eq (r : Run) : ∃ st, settleHolds r = { r with state := st }
    ∧ (inSegment r.state = true → inSegment st = true) := by
  unfold settleHolds
  split
  · refine ⟨if r.holds.isEmpty then .segment else .held, rfl, fun _ => ?_⟩
    split <;> rfl
  · exact ⟨r.state, rfl, id⟩

/-- RUN in a segment just entered: what R44 sets, and what it may move besides. -/
theorem enterSegment_run (i : Nat) (s : State) : ∃ st dir cmd reversal defer told, inSegment st = true
    ∧ (enterSegment i s).run = { s.run with
        state := st, seg := i, dwellMs := 0, trackCount := 0, stage := .deferred, dir := dir, cmd := cmd, leakTold := told
        holds := { s.run.holds with reversal := reversal, defer := defer } } := by
  obtain ⟨dir, cmd, reversal, h1⟩ := faceDirection_run (atSegment i s)
  obtain ⟨told, h2⟩ := tellLeak_run (faceDirection (atSegment i s))
  obtain ⟨cmd', defer, h3⟩ := beginSweep_run (tellLeak (faceDirection (atSegment i s)))
  obtain ⟨st, h4, hst⟩ := settleHolds_eq (beginSweep (tellLeak (faceDirection (atSegment i s)))).run
  refine ⟨st, dir, cmd', reversal, defer, told, hst ?_, ?_⟩
  · rw [h3, h2, h1, atSegment_run]
    rfl
  · rw [enterSegment_eq, withRun_run, h4, h3, h2, h1, atSegment_run]

theorem lsnBegin_totals (s : State) : (lsnBegin s).lsn.totalDeferralMs = s.lsn.totalDeferralMs
    ∧ (lsnBegin s).lsn.forcedCount = s.lsn.forcedCount := by
  unfold lsnBegin
  split
  · dsimp only
    split <;> exact ⟨rfl, rfl⟩
  · exact ⟨rfl, rfl⟩

@[simp] theorem enterSegment_frame (i : Nat) (s : State) :
    (enterSegment i s).cyc = s.cyc ∧ (enterSegment i s).vib = s.vib ∧ (enterSegment i s).sca = s.sca
      ∧ (enterSegment i s).dev = s.dev ∧ (enterSegment i s).store = s.store ∧ (enterSegment i s).lif = s.lif
      ∧ (enterSegment i s).cfg = s.cfg ∧ (enterSegment i s).supplyWarning = s.supplyWarning
      ∧ (enterSegment i s).peer.table = s.peer.table
      ∧ (enterSegment i s).peer.posting.cycleState = s.peer.posting.cycleState
      ∧ (enterSegment i s).peer.posting.programme = s.peer.posting.programme
      ∧ (enterSegment i s).peer.posting.openSeq = s.peer.posting.openSeq
      ∧ (enterSegment i s).peer.posting.lastVerdict = s.peer.posting.lastVerdict := by
  simp [enterSegment]

/-- The listen totals of the cycle are not a segment's to clear (R43, R65). -/
theorem enterSegment_totals (i : Nat) (s : State) : (enterSegment i s).lsn.totalDeferralMs = s.lsn.totalDeferralMs
    ∧ (enterSegment i s).lsn.forcedCount = s.lsn.forcedCount := by
  have h (u : State) (hu : u.lsn = s.lsn) : (beginSweep u).lsn.totalDeferralMs = s.lsn.totalDeferralMs
      ∧ (beginSweep u).lsn.forcedCount = s.lsn.forcedCount := by
    unfold beginSweep
    split
    · obtain ⟨h1, h2⟩ := lsnBegin_totals (cutQuiet (withRun (fun r => { r with holds := { r.holds with defer := true } }) u))
      rw [h1, h2, ← hu]
      simp
    · rw [hu]
      exact ⟨rfl, rfl⟩
  have hlsn : (tellLeak (faceDirection (atSegment i s))).lsn = s.lsn := by simp [atSegment]
  rw [enterSegment_eq]
  simp only [withRun_frame]
  exact h _ hlsn

/-- The state in which LEAK is told of a segment: the segment is the one entered, and LEAK as before. -/
theorem faced_spec (i : Nat) (s : State) : segOf (faceDirection (atSegment i s)) = segAt i s
    ∧ (faceDirection (atSegment i s)).run.leakTold = s.run.leakTold ∧ (faceDirection (atSegment i s)).leak = s.leak
    ∧ ∀ c, enabledOf (faceDirection (atSegment i s)) c = enabledOf s c := by
  obtain ⟨dir, cmd, reversal, hrun⟩ := faceDirection_run (atSegment i s)
  have hprog : progOf (faceDirection (atSegment i s)) = progOf s := by simp [progOf, atSegment]
  refine ⟨by rw [segOf, segAt, hprog, hrun, atSegment_run], by rw [hrun, atSegment_run], by simp [atSegment], fun c => ?_⟩
  cases c <;> simp only [enabledOf, hprog]

theorem enterSegment_leak (i : Nat) (s : State) :
    (enterSegment i s).leak = (tellLeak (faceDirection (atSegment i s))).leak := by
  rw [enterSegment_eq]
  simp

/-- A segment entered that does not tell LEAK, or a second one that would, leaves LEAK as it is. -/
theorem enterSegment_leak_still {i : Nat} {s : State} (h : (segAt i s).leakStart = false ∨ s.run.leakTold = true) :
    (enterSegment i s).leak = s.leak := by
  obtain ⟨hseg, htold, hleak, -⟩ := faced_spec i s
  rw [enterSegment_leak, tellLeak, hseg, htold, if_neg (by rcases h with h | h <;> simp [h]), hleak]

/-- The first segment entered that carries the flag arms LEAK (R44, R115). -/
theorem enterSegment_arms {i : Nat} {s : State} (h : (segAt i s).leakStart = true) (ht : s.run.leakTold = false) :
    ∃ u, (enterSegment i s).leak = (armLeak u).leak ∧ u.leak = s.leak ∧ ∀ c, enabledOf u c = enabledOf s c := by
  obtain ⟨hseg, htold, hleak, hen⟩ := faced_spec i s
  refine ⟨withRun (fun r => { r with leakTold := true }) (faceDirection (atSegment i s)), ?_, hleak, fun c => ?_⟩
  · rw [enterSegment_leak, tellLeak, hseg, htold, if_pos (by simp [h, ht])]
  · rw [← hen]
    cases c <;> rfl

/-! ## START accepted (R4) -/

/-- The first entry of a history that is empty is only entered: there is no rise to test (R57). -/
theorem appendOil_first {s : State} (h : s.run.oilHistory = []) :
    ∃ hist, appendOil s = withRun (fun r => { r with oilHistory := hist }) s := by
  unfold appendOil
  split
  next code _ =>
    refine ⟨pushOil s.run.oilHistory code, ?_⟩
    rw [judgeOilRise]
    simp [h, pushOil, oilRise, withRun]
  · exact ⟨s.run.oilHistory, rfl⟩

/-- The cycle opened, DEV, LEAK and the noise table cleared, and RUN's start request made, up to the entry to segment 0. -/
def startReady (programme : Nat) (serial stamp : List Byte) (s : State) : State :=
  appendOil (withLsn (fun l => { l with totalDeferralMs := 0, forcedCount := 0 }) (withRun runClear
    (withVib vibStart (leakStart { openCycle programme serial stamp s with dev := devClear }))))

theorem startCycle_eq (programme : Nat) (serial stamp : List Byte) (s : State) :
    startCycle programme serial stamp s = setStation .testing (writePosting (fun p => { p with
      programme := programme, openSeq := s.store.nextSeq }) (enterSegment 0 (startReady programme serial stamp s))) := rfl

/-- What stands when segment 0 is entered. -/
structure readied (programme : Nat) (serial stamp : List Byte) (s t : State) : Prop where
  run : ∃ hist, t.run = { runClear s.run with oilHistory := hist }
  cyc : t.cyc = (openCycle programme serial stamp s).cyc
  store : t.store = { s.store with nextSeq := s.store.nextSeq + 1 }
  dev : t.dev = devClear
  leak : t.leak = leakClear
  vib : t.vib = vibStart s.vib
  lsn : t.lsn.totalDeferralMs = 0 ∧ t.lsn.forcedCount = 0
  others : t.sca = s.sca ∧ t.cfg = s.cfg ∧ t.lif = s.lif ∧ t.peer.table = s.peer.table
  posting : t.peer.posting.cycleState = s.peer.posting.cycleState ∧ t.peer.posting.lastVerdict = s.peer.posting.lastVerdict

theorem readied_startReady (programme : Nat) (serial stamp : List Byte) (s : State) :
    readied programme serial stamp s (startReady programme serial stamp s) := by
  obtain ⟨hist, h⟩ := appendOil_first (s := withLsn (fun l => { l with totalDeferralMs := 0, forcedCount := 0 })
    (withRun runClear (withVib vibStart (leakStart { openCycle programme serial stamp s with dev := devClear })))) rfl
  unfold startReady
  rw [h]
  exact ⟨⟨hist, rfl⟩, rfl, rfl, rfl, rfl, rfl, ⟨rfl, rfl⟩, ⟨rfl, rfl, rfl, rfl⟩, rfl, rfl⟩

/-- A circuit at a START: cleared, and seeking air where segment 0 arms it. -/
theorem circuitOf_cycleBegun {programme : Nat} {serial stamp : List Byte} {s w : State}
    (h : readied programme serial stamp s w) (c : CircuitId) :
    ((segAt 0 w).leakStart = false → circuitOf (enterSegment 0 w) c = circuitClear false)
      ∧ ((segAt 0 w).leakStart = true →
        circuitOf (enterSegment 0 w) c = armCircuit (enabledOf w c) (circuitClear false)
          ∨ (armCircuit (enabledOf w c) (circuitClear false)).state = .wait
            ∧ circuitOf (enterSegment 0 w) c = enterIntent (armCircuit (enabledOf w c) (circuitClear false))) := by
  have hclear (u : State) (hu : u.leak = w.leak) : circuitOf u c = circuitClear false := by
    rw [circuitOf, hu, h.leak]
    cases c <;> rfl
  have htold : w.run.leakTold = false := by
    obtain ⟨hist, hrun⟩ := h.run
    rw [hrun]
    rfl
  refine ⟨fun hno => hclear _ (enterSegment_leak_still (.inl hno)), fun hyes => ?_⟩
  obtain ⟨u, hu, huw, hen⟩ := enterSegment_arms hyes htold
  have harm := circuitOf_armLeak (s := u) (by rw [huw, h.leak]; rfl) (by rw [huw, h.leak]; rfl) c
  rwa [hclear u huw, hen, ← circuitOf_congr hu] at harm

/-- LEAK's marks at a START (R115). -/
theorem marks_cycleBegun {programme : Nat} {serial stamp : List Byte} {s w : State} (h : readied programme serial stamp s w) :
    (enterSegment 0 w).leak.armed = (segAt 0 w).leakStart ∧ (enterSegment 0 w).leak.armRefused = false
      ∧ (enterSegment 0 w).leak.airWaitMark = false := by
  have htold : w.run.leakTold = false := by
    obtain ⟨hist, hrun⟩ := h.run
    rw [hrun]
    rfl
  cases hseg : (segAt 0 w).leakStart with
  | false =>
    rw [enterSegment_leak_still (.inl hseg), h.leak]
    exact ⟨rfl, rfl, rfl⟩
  | true =>
    obtain ⟨u, hu, huw, -⟩ := enterSegment_arms hseg htold
    obtain ⟨h1, h2, h3⟩ := armLeak_marks u (by rw [huw, h.leak]; rfl) (by rw [huw, h.leak]; rfl)
    rw [hu, h1, h2, h3, huw, h.leak]
    exact ⟨rfl, rfl, rfl⟩

/-- The fields of a circuit that arming at a START leaves cleared. -/
structure circuitFresh (k : Circuit) : Prop where
  summary : k.outcome = .absent ∧ k.leakRate = none ∧ k.d8 = 0
  windows : k.startPrs = [] ∧ k.startAirt = [] ∧ k.endPrs = [] ∧ k.endAirt = []
  counts : k.backoff = 0 ∧ k.claimAge = 0 ∧ k.airWaitMs = 0 ∧ k.extended = false ∧ k.fillTime = 0
  state : k.state = .off ∨ k.state = .wait ∨ k.state = .intent

theorem circuitFresh_armed (enabled : Bool) :
    circuitFresh (armCircuit enabled (circuitClear false))
      ∧ circuitFresh (enterIntent (armCircuit enabled (circuitClear false)))
      ∧ ((armCircuit enabled (circuitClear false)).state = .off ↔ enabled = false) := by
  cases enabled with
  | false => exact ⟨⟨by decide, by decide, by decide, by decide⟩, ⟨by decide, by decide, by decide, by decide⟩, by decide⟩
  | true => exact ⟨⟨by decide, by decide, by decide, by decide⟩, ⟨by decide, by decide, by decide, by decide⟩, by decide⟩

theorem circuitFresh_cycleBegun {programme : Nat} {serial stamp : List Byte} {s w : State}
    (h : readied programme serial stamp s w) (c : CircuitId) :
    circuitFresh (circuitOf (enterSegment 0 w) c)
      ∧ (enabledOf w c = false → circuitOf (enterSegment 0 w) c = circuitClear false)
      ∧ ((circuitOf (enterSegment 0 w) c).state = .off ↔ enabledOf w c = false ∨ (segAt 0 w).leakStart = false) := by
  obtain ⟨hno, hyes⟩ := circuitOf_cycleBegun h c
  obtain ⟨hf, hfi, hoff⟩ := circuitFresh_armed (enabledOf w c)
  cases hseg : (segAt 0 w).leakStart with
  | false =>
    rw [hno hseg]
    exact ⟨⟨by decide, by decide, by decide, by decide⟩, fun _ => rfl, by simp [circuitClear]⟩
  | true =>
    rcases hyes hseg with he | ⟨hw, he⟩ <;> rw [he]
    · exact ⟨hf, fun hd => by rw [hd, armCircuit_disabled], by simp [hoff]⟩
    · have hen : ¬ enabledOf w c = false := fun hd => by
        rw [hoff.mpr hd] at hw
        cases hw
      exact ⟨hfi, fun hd => absurd hd hen, ⟨nofun, fun hor => absurd hor (by simpa using hen)⟩⟩

/-- What is posted before a START cannot show TESTING, so its posting is an event (R4, R20). -/
theorem startCycle_latch {programme : Nat} {serial stamp : List Byte} {s : State}
    (h : s.peer.posting.cycleState ≠ .testing) : (startCycle programme serial stamp s).peer.latch = true := by
  have hw := (readied_startReady programme serial stamp s).posting.1
  rw [startCycle_eq, setStation, writePosting_latch]
  simp [eventChange, hw, h]

/-- What an accepted START leaves, from the state in which segment 0 was entered. -/
structure cycleStarted (programme : Nat) (serial stamp : List Byte) (s w t : State) : Prop where
  ready : readied programme serial stamp s w
  run : t.run = (enterSegment 0 w).run
  lsn : t.lsn = (enterSegment 0 w).lsn
  leak : t.leak = (enterSegment 0 w).leak
  vib : t.vib = vibStart s.vib
  dev : t.dev = devClear
  store : t.store = { s.store with nextSeq := s.store.nextSeq + 1 }
  sca : t.sca = s.sca
  cfg : t.cfg = s.cfg
  cyc : t.cyc = { (openCycle programme serial stamp s).cyc with station := .testing }
  table : t.peer.table = s.peer.table
  shown : t.peer.posting.cycleState = .testing ∧ t.peer.posting.programme = programme
    ∧ t.peer.posting.openSeq = s.store.nextSeq ∧ t.peer.posting.lastVerdict = s.peer.posting.lastVerdict
  latch : s.peer.posting.cycleState ≠ .testing → t.peer.latch = true

theorem cycleStarted_startCycle (programme : Nat) (serial stamp : List Byte) (s : State) :
    cycleStarted programme serial stamp s (startReady programme serial stamp s) (startCycle programme serial stamp s) := by
  have hready := readied_startReady programme serial stamp s
  obtain ⟨-, hcyc, hstore, hdev, -, hvib, -, ⟨hsca, hcfg, -, htable⟩, -, hverdict⟩ :=
    readied_startReady programme serial stamp s
  have hbegun : (enterSegment 0 (startReady programme serial stamp s)).cyc = (openCycle programme serial stamp s).cyc
      ∧ (enterSegment 0 (startReady programme serial stamp s)).vib = vibStart s.vib
      ∧ (enterSegment 0 (startReady programme serial stamp s)).dev = devClear
      ∧ (enterSegment 0 (startReady programme serial stamp s)).store = { s.store with nextSeq := s.store.nextSeq + 1 }
      ∧ (enterSegment 0 (startReady programme serial stamp s)).sca = s.sca
      ∧ (enterSegment 0 (startReady programme serial stamp s)).cfg = s.cfg
      ∧ (enterSegment 0 (startReady programme serial stamp s)).peer.table = s.peer.table
      ∧ (enterSegment 0 (startReady programme serial stamp s)).peer.posting.lastVerdict = s.peer.posting.lastVerdict := by
    simp only [enterSegment_frame, hcyc, hvib, hdev, hstore, hsca, hcfg, htable, hverdict, true_and]
  have hlatch := startCycle_latch (programme := programme) (serial := serial) (stamp := stamp) (s := s)
  rw [startCycle_eq] at hlatch ⊢
  generalize hb : enterSegment 0 (startReady programme serial stamp s) = b at hbegun hlatch ⊢
  obtain ⟨h1, h2, h3, h4, h5, h6, h7, h8⟩ := hbegun
  refine ⟨hready, ?_, ?_, ?_, h2, h3, h4, h5, h6, ?_, h7, ⟨rfl, rfl, rfl, h8⟩, hlatch⟩
  · rw [hb]
    rfl
  · rw [hb]
    rfl
  · rw [hb]
    rfl
  · rw [← h1]
    rfl

/-- An answer moves LIF alone. -/
theorem answered_frame (r : Reply) (s : State) :
    (answered r s).cyc = s.cyc ∧ (answered r s).peer = s.peer ∧ (answered r s).run = s.run ∧ (answered r s).lsn = s.lsn
      ∧ (answered r s).vib = s.vib ∧ (answered r s).sca = s.sca ∧ (answered r s).leak = s.leak ∧ (answered r s).dev = s.dev
      ∧ (answered r s).store = s.store ∧ (answered r s).cfg = s.cfg
      ∧ (answered r s).lif.replies = s.lif.replies ++ [r] := by
  simp [answered]

theorem cycleStarted.answer {programme : Nat} {serial stamp : List Byte} {s w t : State}
    (h : cycleStarted programme serial stamp s w t) (r : Reply) : cycleStarted programme serial stamp s w (answered r t) := by
  obtain ⟨hcyc, hpeer, hrun, hlsn, hvib, hsca, hleak, hdev, hstore, hcfg, -⟩ := answered_frame r t
  obtain ⟨h1, h2, h3, h4, h5, h6, h7, h8, h9, h10, h11, h12, h13⟩ := h
  rw [← hrun] at h2
  rw [← hlsn] at h3
  rw [← hleak] at h4
  rw [← hvib] at h5
  rw [← hdev] at h6
  rw [← hstore] at h7
  rw [← hsca] at h8
  rw [← hcfg] at h9
  rw [← hcyc] at h10
  rw [← hpeer] at h11 h12 h13
  exact ⟨h1, h2, h3, h4, h5, h6, h7, h8, h9, h10, h11, h12, h13⟩

theorem progOf_congr {s t : State} (hcfg : t.cfg = s.cfg) (hcyc : t.cyc.programme = s.cyc.programme) :
    progOf t = progOf s := by
  rw [progOf, progOf, hcfg, hcyc]

theorem startCycle_lif (programme : Nat) (serial stamp : List Byte) (s : State) :
    (startCycle programme serial stamp s).lif = s.lif := by
  have h := (readied_startReady programme serial stamp s).others.2.2.1
  have hbegun : (enterSegment 0 (startReady programme serial stamp s)).lif = s.lif := by
    rw [(enterSegment_frame 0 _).2.2.2.2.2.1, h]
  rw [startCycle_eq]
  simp only [setStation_frame, writePosting_frame]
  exact hbegun

theorem exec_start_accepted {lines : StandLines} {dest : Byte} {body : List Byte} {s : State} (h : takesOrders s)
    (hd : addressed s dest) (hw : wellFormedBody codeStart body = true)
    (hwhy : startRefusal (field body 0 1) (withPins (setLines lines) s) = none) :
    exec (.start lines dest body) s = .next (answered ⟨codeStart, .accepted, none, 0, be 4 s.store.nextSeq⟩
      (startCycle (field body 0 1) (body.drop 6) ((body.drop 2).take 4) (withPins (setLines lines) s))) := by
  refine (whenReleased_running (s := withPins (setLines lines) s) h.1.1).trans ?_
  rw [receive_start h hd hw, ownStart, hwhy]
  rfl

/-- Settles O11: the cycle opened, and RUN, LEAK and the posting as the entry to segment 0 leaves them. -/
theorem startIsAccepted : Obligations.StartIsAccepted := by
  intro lines dest body s h hd hw hlaw hwhy
  have hnone : startRefusal (field body 0 1) (withPins (setLines lines) s) = none :=
    (startRefusal_eq_firstReason _ _).trans hwhy
  refine ⟨_, exec_start_accepted h hd hw hnone, ?_⟩
  have hstarted := (cycleStarted_startCycle (field body 0 1) (body.drop 6) ((body.drop 2).take 4)
    (withPins (setLines lines) s)).answer ⟨codeStart, .accepted, none, 0, be 4 s.store.nextSeq⟩
  have hreplies := (answered_frame ⟨codeStart, .accepted, none, 0, be 4 s.store.nextSeq⟩
    (startCycle (field body 0 1) (body.drop 6) ((body.drop 2).take 4) (withPins (setLines lines) s))).2.2.2.2.2.2.2.2.2.2
  rw [startCycle_lif] at hreplies
  generalize answered ⟨codeStart, .accepted, none, 0, be 4 s.store.nextSeq⟩
    (startCycle (field body 0 1) (body.drop 6) ((body.drop 2).take 4) (withPins (setLines lines) s)) = t at hstarted hreplies
  generalize startReady (field body 0 1) (body.drop 6) ((body.drop 2).take 4) (withPins (setLines lines) s) = w at hstarted
  obtain ⟨hready, hrun, hlsn, hleak, hvib, hdev, hstore, hsca, hcfg, hcyc, htable, ⟨hst, hp, hseq, hverdict⟩, hlatch⟩ := hstarted
  have hprog : progOf t = progOf w := progOf_congr (by rw [hcfg, hready.others.2.1]) (by rw [hcyc, hready.cyc])
  obtain ⟨st, dir, cmd, reversal, defer, told, hin, hentered⟩ := enterSegment_run 0 w
  obtain ⟨hist, hwrun⟩ := hready.run
  rw [hentered, hwrun] at hrun
  have hseg : segOf t = segAt 0 w := by rw [segOf, hprog, hrun]; rfl
  have hen (c : CircuitId) : enabledOf t c = enabledOf w c := by cases c <;> simp only [enabledOf, hprog]
  have hfresh (c : CircuitId) := circuitFresh_cycleBegun hready c
  obtain ⟨harmed, hrefused, hmark⟩ := marks_cycleBegun hready
  rw [← hleak] at harmed hrefused hmark
  have hcircuit (c : CircuitId) : circuitOf t c = circuitOf (enterSegment 0 w) c := circuitOf_congr hleak c
  obtain ⟨htotal, hforced⟩ := enterSegment_totals 0 w
  rw [← hlsn] at htotal hforced
  refine ⟨hstore, hcyc, hdev, by rw [hrun]; exact hin, congrArg Run.seg hrun, congrArg Run.rampLeft hrun,
    congrArg Run.endReason hrun, congrArg Run.powerMs hrun, congrArg Run.yieldMs hrun, congrArg Run.torqueMarks hrun,
    congrArg Run.trackMarks hrun, congrArg Run.segsDone hrun, htotal.trans hready.lsn.1, hforced.trans hready.lsn.2,
    congrArg Vib.cells1 hvib, congrArg Vib.cells2 hvib, congrArg Vib.cycle hvib, fun c hdis => ?_, fun c => ?_, hmark,
    hseg ▸ harmed, hrefused, fun c => ?_, fun c => ?_, hst, hp, hseq, hverdict, hlatch ?_, htable, hsca, hcfg, hreplies⟩
  · rw [hcircuit]
    exact (hfresh c).2.1 (hen c ▸ hdis)
  · obtain ⟨⟨h1, h2, h3⟩, ⟨h4, h5, h6, h7⟩, ⟨h8, h9, h10, h11, h12⟩, -⟩ := (hfresh c).1
    rw [hcircuit]
    exact ⟨h1, h2, h3, h4, h5, h6, h7, h8, h9, h10, h11, h12⟩
  · rw [hcircuit, hen, hseg]
    exact (hfresh c).2.2
  · rw [hcircuit]
    exact (hfresh c).1.state
  · show s.peer.posting.cycleState ≠ .testing
    rw [hlaw.1]
    rcases station_of_startRefusal_none hnone with hidle | hdone
    · exact fun he => nomatch hidle.symm.trans he
    · exact fun he => nomatch hdone.symm.trans he

end Sys2Proof.Machine
end

section
/-! SUPPORT. VIB's assessment at the end of a sweep: what it reads, and what it leaves alone (R91 to R95). -/
namespace Sys2Proof.Machine

/-! ## What the assessment moves -/

/-- Of a state, VIB and DEV alone have moved. -/
def noiseMoved (s t : State) : Prop := ∃ v d, t = { s with vib := v, dev := d }

theorem noiseMoved.refl (s : State) : noiseMoved s s := ⟨s.vib, s.dev, rfl⟩

theorem noiseMoved.trans {s t u : State} (h : noiseMoved s t) (h' : noiseMoved t u) : noiseMoved s u := by
  obtain ⟨v, d, rfl⟩ := h
  obtain ⟨v', d', rfl⟩ := h'
  exact ⟨v', d', rfl⟩

theorem noiseMoved_withVib (f : Vib → Vib) (s : State) : noiseMoved s (withVib f s) := ⟨f s.vib, s.dev, rfl⟩

theorem noiseMoved_takeDev (e : DevEvent) (s : State) : noiseMoved s (takeDev e s) := by
  rcases takeDev_cases e s with ⟨-, he⟩ | ⟨-, d, he, -⟩ <;> rw [he]
  · exact .refl s
  · exact ⟨s.vib, d, rfl⟩

theorem noiseMoved_assessCell (ch : FastChannel) (s : State) (b : Nat) : noiseMoved s (assessCell ch s b) := by
  unfold assessCell
  dsimp only
  split
  · exact (noiseMoved_withVib _ s).trans (noiseMoved_takeDev _ _)
  · exact .refl s

theorem noiseMoved_foldl (ch : FastChannel) (l : List Nat) (s : State) : noiseMoved s (l.foldl (assessCell ch) s) := by
  induction l generalizing s with
  | nil => exact .refl s
  | cons b l ih => exact (noiseMoved_assessCell ch s b).trans (ih _)

theorem noiseMoved_assessLimits (s : State) : noiseMoved s (assessLimits s) :=
  (noiseMoved_foldl .v1 _ s).trans (noiseMoved_foldl .v2 _ _)

theorem noiseMoved_assessCoverage (s : State) : noiseMoved s (assessCoverage s).1 := by
  unfold assessCoverage
  split
  · exact noiseMoved_withVib _ s
  · split
    · dsimp only
      exact noiseMoved_withVib _ s
    · exact (noiseMoved_takeDev _ s).trans (noiseMoved_withVib _ _)

theorem noiseMoved_assessShare (s : State) : noiseMoved s (assessShare s) := by
  unfold assessShare
  split
  · exact (noiseMoved_withVib _ s).trans (noiseMoved_takeDev _ _)
  · exact .refl s

/-- The assessment up to its share test: every revolution not yet judged is dropped first (R91 to R94). -/
def noiseJudged (s : State) : State := assessShare (assessCoverage (assessLimits (withVib dropRevs s))).1

/-- Whether the assessment's outcome is REPEAT (R93). -/
def noiseAgain (s : State) : Bool := (assessCoverage (assessLimits (withVib dropRevs s))).2

theorem noiseMoved_noiseJudged (s : State) : noiseMoved s (noiseJudged s) :=
  (((noiseMoved_withVib _ s).trans (noiseMoved_assessLimits _)).trans (noiseMoved_assessCoverage _)).trans
    (noiseMoved_assessShare _)

/-- What the assessment hands on: the summary in VIB and in the record, and VIB in IDLE (R95). -/
def noiseHanded (s : State) : State := withVib (fun v => { v with state := .idle }) (writeSummary (noiseJudged s))

theorem assessSweep_eq {s : State} (h : s.vib.state ≠ .idle) : assessSweep s = some (noiseHanded s, noiseAgain s) :=
  if_neg h

theorem noiseHanded_vib (s : State) : (noiseHanded s).vib = { (noiseJudged s).vib with
    state := .idle, summary := summaryOf (progOf (noiseJudged s)) (noiseJudged s).vib } := by
  unfold noiseHanded
  generalize noiseJudged s = u
  rfl

theorem noiseHanded_dev (s : State) : (noiseHanded s).dev = (noiseJudged s).dev := by
  unfold noiseHanded
  generalize noiseJudged s = u
  rfl

/-- Besides VIB and DEV the assessment writes the summary into the open record, and moves nothing. -/
theorem noiseHanded_eq (s : State) : ∃ v d, v.state = .idle ∧ noiseHanded s = { s with
    vib := v
    dev := d
    cyc := { s.cyc with record := s.cyc.record.map (fun r => { r with noise := v.summary }) } } := by
  obtain ⟨v, d, h⟩ := noiseMoved_noiseJudged s
  refine ⟨{ v with state := .idle, summary := summaryOf (progOf s) v }, d, rfl, ?_⟩
  rw [noiseHanded, writeSummary, h]
  rfl

/-! ## What the assessment reads -/

/-- Two states that VIB's assessment cannot tell apart: VIB's own state is not among what it reads. -/
structure noiseAlike (s t : State) : Prop where
  vib : ∃ st, t.vib = { s.vib with state := st }
  dev : t.dev = s.dev
  cfg : t.cfg = s.cfg
  cyc : t.cyc = s.cyc
  seg : t.run.seg = s.run.seg

theorem noiseAlike.progOf {s t : State} (h : noiseAlike s t) : progOf t = progOf s :=
  progOf_congr h.cfg (by rw [h.cyc])

theorem noiseAlike.takeDev {s t : State} (h : noiseAlike s t) (e : DevEvent) : noiseAlike (takeDev e s) (takeDev e t) := by
  obtain ⟨⟨st, hv⟩, hd, hc, hy, hg⟩ := h
  have hdev : (Machine.takeDev e t).dev = (Machine.takeDev e s).dev := by
    unfold Machine.takeDev
    rw [hy]
    split
    · simp only [maskedClass, severityOf, cycleTime, hc, hd, hy]
      rfl
    · exact hd
  exact ⟨⟨st, by simpa using hv⟩, hdev, by simpa using hc, by simpa using hy, by simpa using hg⟩

/-- A change of VIB that does not look at VIB's state keeps two states alike. -/
theorem noiseAlike.withVib {s t : State} (h : noiseAlike s t) {f : Vib → Vib}
    (hf : ∀ v st, ∃ st', f { v with state := st } = { f v with state := st' }) :
    noiseAlike (withVib f s) (withVib f t) := by
  obtain ⟨⟨st, hv⟩, hd, hc, hy, hg⟩ := h
  obtain ⟨st', hst⟩ := hf s.vib st
  exact ⟨⟨st', by rw [withVib_vib, hv, hst]; rfl⟩, hd, hc, hy, hg⟩

theorem noiseAlike.assessCell {s t : State} (h : noiseAlike s t) (ch : FastChannel) (b : Nat) :
    noiseAlike (assessCell ch s b) (assessCell ch t b) := by
  obtain ⟨st, hv⟩ := h.vib
  have hcells : cellsOf t.vib ch = cellsOf s.vib ch := by rw [hv]; cases ch <;> rfl
  unfold Machine.assessCell
  rw [h.progOf, hcells]
  dsimp only
  split
  · exact (h.withVib fun v st => ⟨st, by cases ch <;> rfl⟩).takeDev _
  · exact h

theorem noiseAlike.foldl {s t : State} (h : noiseAlike s t) (ch : FastChannel) (l : List Nat) :
    noiseAlike (l.foldl (Machine.assessCell ch) s) (l.foldl (Machine.assessCell ch) t) := by
  induction l generalizing s t with
  | nil => exact h
  | cons b l ih => exact ih (h.assessCell ch b)

theorem noiseAlike.assessLimits {s t : State} (h : noiseAlike s t) : noiseAlike (assessLimits s) (assessLimits t) :=
  (h.foldl .v1 _).foldl .v2 _

theorem noiseAlike.assessCoverage {s t : State} (h : noiseAlike s t) :
    noiseAlike (assessCoverage s).1 (assessCoverage t).1 ∧ (assessCoverage t).2 = (assessCoverage s).2 := by
  obtain ⟨st, hv⟩ := h.vib
  have hcount : uncoveredCount (Machine.progOf t) t.vib = uncoveredCount (Machine.progOf s) s.vib := by
    rw [h.progOf, hv]
    rfl
  have hrepeat : t.vib.repeatCount = s.vib.repeatCount := by rw [hv]
  unfold Machine.assessCoverage
  rw [hcount, hrepeat, h.progOf, h.seg]
  split
  · exact ⟨h.withVib fun v st => ⟨st, rfl⟩, rfl⟩
  · split
    · refine ⟨?_, rfl⟩
      dsimp only
      exact h.withVib fun v st => ⟨st, rfl⟩
    · exact ⟨(h.takeDev _).withVib fun v st => ⟨st, rfl⟩, rfl⟩

theorem noiseAlike.assessShare {s t : State} (h : noiseAlike s t) : noiseAlike (assessShare s) (assessShare t) := by
  obtain ⟨st, hv⟩ := h.vib
  have hpass : t.vib.pass = s.vib.pass := by rw [hv]
  have hmark : t.vib.contaminatedMark = s.vib.contaminatedMark := by rw [hv]
  unfold Machine.assessShare
  rw [hpass, hmark, h.seg]
  split
  · exact (h.withVib fun v st => ⟨st, rfl⟩).takeDev _
  · exact h

/-- Two states alike once their unjudged revolutions are dropped are assessed alike. -/
theorem noiseHanded_congr {s t : State} (h : noiseAlike (withVib dropRevs s) (withVib dropRevs t)) :
    (noiseHanded t).vib = (noiseHanded s).vib ∧ (noiseHanded t).dev = (noiseHanded s).dev ∧ noiseAgain t = noiseAgain s := by
  obtain ⟨hcover, hagain⟩ := h.assessLimits.assessCoverage
  have hshare : noiseAlike (noiseJudged s) (noiseJudged t) := hcover.assessShare
  obtain ⟨st, hv⟩ := hshare.vib
  refine ⟨?_, by rw [noiseHanded_dev, noiseHanded_dev, hshare.dev], hagain⟩
  have hsummary (p : Programme) (v : Vib) : summaryOf p { v with state := st } = summaryOf p v := rfl
  rw [noiseHanded_vib, noiseHanded_vib, hshare.progOf, hv, hsummary]

end Sys2Proof.Machine
end

section
/-! SUPPORT. A SWEEP's ramp step by its stage, and the sweep's end (O23). -/
namespace Sys2Proof.Machine

/-! ## The latch through the operations of RUN (R20, R21) -/

theorem Latches.cutQuiet (s : State) : Latches s (cutQuiet s) := by
  unfold Machine.cutQuiet
  split
  · exact .setSpeed _ s
  · exact .refl s

theorem Latches.faceDirection (s : State) : Latches s (faceDirection s) := by
  unfold Machine.faceDirection
  split
  · exact .refl s
  · split
    · exact .withRun _ s
    · exact (Latches.withRun _ s).trans (.setSpeed 0 _)

theorem Latches.tellLeak (s : State) : Latches s (tellLeak s) := by
  unfold Machine.tellLeak
  split
  · exact (Latches.withRun _ s).trans (.armLeak _)
  · exact .refl s

theorem Latches.postListen (l : Listen) (s : State) : Latches s (postListen l s) := .writePosting _ s

theorem Latches.postListenAge (s : State) : Latches s (postListenAge s) := .writePosting _ s

theorem Latches.lsnBegin (s : State) : Latches s (lsnBegin s) := by
  unfold Machine.lsnBegin
  split
  · have hage (f : Lsn → Lsn) : Latches s (Machine.postListenAge (Machine.withLsn f s)) :=
      (Latches.withLsn f s).trans (.postListenAge _)
    dsimp only
    split
    · exact (hage _).trans (.after (.postListen _ _) rfl)
    · exact (hage _).trans (.after (.postListen _ _) rfl)
  · exact .refl s

theorem Latches.beginSweep (s : State) : Latches s (beginSweep s) := by
  unfold Machine.beginSweep
  split
  · exact ((Latches.withRun _ s).trans (.cutQuiet _)).trans (.lsnBegin _)
  · exact .refl s

theorem Latches.enterSegment (i : Nat) (s : State) : Latches s (enterSegment i s) := by
  rw [enterSegment_eq]
  exact ((((Latches.withRun _ s).trans (.faceDirection _)).trans (.tellLeak _)).trans (.beginSweep _)).trans (.withRun _ _)

theorem Latches.segmentEnd (s : State) : Latches s (segmentEnd s) := by
  unfold Machine.segmentEnd
  dsimp only
  split
  · exact .after (.enterSegment _ _) rfl
  · exact .after (.toStopping _ _) rfl

theorem Latches.takeOutcome (again : Bool) (s : State) : Latches s (takeOutcome again s) := by
  unfold Machine.takeOutcome
  split
  · exact .enterSegment _ s
  · exact .segmentEnd s

theorem Latches.moveTo (target rate : Nat) (s : State) : Latches s (moveTo target rate s) := .of_peer (by simp)

theorem Latches.noiseHanded (s : State) : Latches s (noiseHanded s) := by
  obtain ⟨v, d, -, h⟩ := noiseHanded_eq s
  exact .of_peer (by rw [h])

theorem Latches.sweepEnd (s : State) : Latches s (sweepEnd s) := by
  have htold : Latches s (Machine.lsnSweepEnded (Machine.setStage .assessing s)) :=
    (Latches.withRun _ s).trans (.lsnSweepEnded _)
  unfold Machine.sweepEnd
  by_cases hv : (Machine.lsnSweepEnded (Machine.setStage .assessing s)).vib.state = .idle
  · rw [assessSweep, if_pos hv]
    exact htold
  · rw [assessSweep_eq hv]
    exact ((htold.trans (.noiseHanded _)).trans (.takeOutcome _ _)).trans (.checkpoint _)

theorem Latches.sweepStep (g : Segment) (s : State) : Latches s (sweepStep g s) := by
  unfold Machine.sweepStep
  split
  · have hmoved := Latches.moveTo g.startSpeed g.rate s
    dsimp only
    split
    · exact hmoved.trans (.withRun _ _)
    · exact hmoved
  · have hmoved := Latches.moveTo g.endSpeed g.rate s
    dsimp only
    split
    · exact hmoved.trans (.sweepEnd _)
    · exact hmoved
  · exact .refl s
  · exact .refl s

theorem Latches.runDeviation (c : DevClass) (measured limit : Nat) (s : State) : Latches s (runDeviation c measured limit s) := by
  unfold Machine.runDeviation
  dsimp only
  split
  · exact (Latches.takeDev _ s).trans (.toStopping _ _)
  · exact .takeDev _ s

theorem Latches.countPower (s : State) : Latches s (countPower s) := by
  unfold Machine.countPower
  split
  · dsimp only
    split
    · exact .after (.runDeviation _ _ _ _) rfl
    · exact .of_peer rfl
  · exact .refl s

theorem Latches.countYield (s : State) : Latches s (countYield s) := by
  unfold Machine.countYield holdYield
  split
  · dsimp only
    split
    · exact .after (.postYielding _ _) rfl
    · exact .of_peer rfl
  · exact .refl s

/-! ## The frame of a ramp step (R45) -/

/-- What a step that finds no hold acts on. -/
def stepBegun (s : State) : State := clearTrack (clearPower (beginStep s))

/-- What every step in SEGMENT and HELD ends with. -/
def stepEnded (s : State) : State := postSpeed (withRun settleHolds (countYield (countPower s)))

theorem Latches.stepEnded (s : State) : Latches s (stepEnded s) :=
  (((Latches.countPower s).trans (.countYield _)).trans (.withRun _ _)).trans (.postSpeed _)

/-- A step of a free SWEEP (R45, R47). -/
theorem rampStep_sweep {s : State} (h : freeToMove s) (hk : segKind s = .sweep) :
    rampStep s = stepEnded (sweepStep (segOf s) (stepBegun s)) := by
  obtain ⟨hin, hyields, hdefer, hreversal, hcond⟩ := h
  have hstep : rampStep s = activeStep (beginStep s) := by
    unfold rampStep
    cases hst : s.run.state <;> simp [hst, inSegment] at hin ⊢
  have hrev : updateReversal (clearPower (beginStep s)) = clearPower (beginStep s) := by
    refine if_neg ?_
    show ¬ (s.run.holds.reversal = true ∧ _)
    simp [hreversal]
  have hyield : updateYield (clearPower (beginStep s)) = clearPower (beginStep s) := by
    have hc : yieldCondition (clearPower (beginStep s)) = false := hcond
    have hh : (clearPower (beginStep s)).run.holds.yields = false := hyields
    rw [updateYield, hc, hh]
    rfl
  have hempty : (clearPower (beginStep s)).run.holds.isEmpty = true := by
    show Holds.isEmpty { s.run.holds with power := false } = true
    simp [Holds.isEmpty, hyields, hdefer, hreversal]
  have hact : actStep (clearPower (beginStep s)) = sweepStep (segOf s) (stepBegun s) := by
    have hkind : segKind (clearPower (beginStep s)) = .sweep := hk
    rw [actStep, hkind]
    rfl
  rw [hstep, activeStep, updateHolds, hrev, hyield, if_pos hempty, hact]
  rfl

/-- Of the state that a free step acts on, RUN's step counts and hold set alone differ from before. -/
theorem stepBegun_eq {s : State} (h : freeToMove s) : stepBegun s = { s with run := { s.run with
    rampLeft := 20, lastSum := demandSum s, lastAllowed := allowedPower s, trackCount := 0, holds := noHolds } } := by
  obtain ⟨-, hyields, hdefer, hreversal, -⟩ := h
  have hholds : ({ s.run.holds with power := false } : Holds) = noHolds := by
    cases hh : s.run.holds
    simp_all [noHolds]
  rw [← hholds]
  rfl

/-- With neither POWER nor YIELD held a step's end counts nothing. -/
theorem stepEnded_free {s : State} (hp : s.run.holds.power = false) (hy : s.run.holds.yields = false) :
    stepEnded s = postSpeed (withRun settleHolds s) := by
  have hpower : countPower s = s := if_neg (by simp [hp])
  have hyield : countYield s = s := if_neg (by simp [hy])
  rw [stepEnded, hpower, hyield]

/-- Counting a power hold moves its time and its mark, of RUN; POWER_WAIT never stops a run-in (R52, R59). -/
theorem countPower_run {s : State} (h : s.run.holds.power = true) :
    ∃ ms mark, (countPower s).run = { s.run with powerMs := ms, powerWaitMark := mark }
      ∧ (countPower s).lsn = s.lsn ∧ (countPower s).vib = s.vib := by
  have hdev (a b : Nat) (u : State) : runDeviation .powerWait a b u = takeDev ⟨.powerWait, u.run.seg, a, b⟩ u := by
    have hnone : stopReason u .powerWait = none := by
      unfold stopReason
      split <;> rfl
    rw [runDeviation, hnone]
  rw [countPower, if_pos h]
  dsimp only
  split
  · refine ⟨s.run.powerMs + 20, true, ?_⟩
    rw [hdev]
    simp
  · exact ⟨s.run.powerMs + 20, s.run.powerWaitMark, rfl, rfl, rfl⟩

/-- A step that withholds an increase: POWER alone is held. -/
theorem stepEnded_withheld {s : State} (hin : inSegment s.run.state = true) (h : s.run.holds = ⟨true, false, false, false⟩) :
    ∃ ms mark, (stepEnded s).run = { s.run with state := .held, powerMs := ms, powerWaitMark := mark }
      ∧ (stepEnded s).lsn = s.lsn ∧ (stepEnded s).vib = s.vib := by
  obtain ⟨ms, mark, hrun, hlsn, hvib⟩ := countPower_run (s := s) (by rw [h])
  have hyield : countYield (countPower s) = countPower s := if_neg (by rw [hrun]; simp [h])
  rw [stepEnded, hyield]
  refine ⟨ms, mark, ?_, by simp [hlsn], by simp [hvib]⟩
  have hsettled : settleHolds (countPower s).run = { (countPower s).run with state := .held } := by
    simp [settleHolds, hrun, hin, h, Holds.isEmpty]
  rw [(postSpeed_frame _).2.1, withRun_run, hsettled, hrun]

/-! ## A setpoint moved or withheld (R51) -/

theorem moveTo_withheld {target rate : Nat} {s : State} (hlt : s.run.cmd < target)
    (h : withheld s (nextSetpoint s.run.cmd target rate) = true) :
    moveTo target rate s = withRun (fun r => { r with holds := { r.holds with power := true } }) s := if_pos ⟨hlt, h⟩

theorem moveTo_moves {target rate : Nat} {s : State}
    (h : withheld s (nextSetpoint s.run.cmd target rate) = false ∨ target ≤ s.run.cmd) :
    moveTo target rate s = withRun (fun r => { r with cmd := nextSetpoint r.cmd target rate }) s :=
  if_neg fun hw => by rcases h with h | h
                      · simp [h] at hw
                      · omega

end Sys2Proof.Machine
end

section
/-! SUPPORT. The end of a sweep: VIB's assessment handed on, and the segment repeated or ended (O23). -/
namespace Sys2Proof.Machine

/-! ## The setpoint of a SWEEP moved by its stage (R47) -/

/-- The stage of a sweep that moves, with the speed it moves toward. -/
abbrev sweepToward (g : Segment) (s : State) (target : Nat) : Prop :=
  s.run.stage = .approach ∧ target = g.startSpeed ∨ s.run.stage = .sweeping ∧ target = g.endSpeed

theorem sweepStep_withheld {g : Segment} {s : State} {target : Nat} (h : sweepToward g s target)
    (hlt : s.run.cmd < target) (hw : withheld s (nextSetpoint s.run.cmd target g.rate) = true) :
    sweepStep g s = withRun (fun r => { r with holds := { r.holds with power := true } }) s := by
  have hne : ¬ s.run.cmd = target := Nat.ne_of_lt hlt
  rcases h with ⟨hst, rfl⟩ | ⟨hst, rfl⟩ <;>
    · rw [sweepStep, hst]
      dsimp only
      rw [moveTo_withheld hlt hw]
      exact if_neg hne

/-- A move that does not end the sweep; it takes APPROACH to SWEEPING where it reaches the start speed. -/
theorem sweepStep_moved {g : Segment} {s : State} {target : Nat} (h : sweepToward g s target)
    (hw : withheld s (nextSetpoint s.run.cmd target g.rate) = false ∨ target ≤ s.run.cmd)
    (hn : s.run.stage = .approach ∨ nextSetpoint s.run.cmd target g.rate ≠ target) :
    sweepStep g s = withRun (fun r => { r with
      cmd := nextSetpoint s.run.cmd target g.rate
      stage := if nextSetpoint s.run.cmd target g.rate = target then .sweeping else s.run.stage }) s := by
  rcases h with ⟨hst, rfl⟩ | ⟨hst, rfl⟩
  · rw [sweepStep, hst]
    dsimp only
    rw [moveTo_moves hw]
    by_cases he : nextSetpoint s.run.cmd g.startSpeed g.rate = g.startSpeed
    · rw [if_pos he]
      exact if_pos he
    · rw [if_neg he, ← hst]
      exact if_neg he
  · have he : nextSetpoint s.run.cmd g.endSpeed g.rate ≠ g.endSpeed := hn.resolve_left (by simp [hst])
    rw [if_neg he, sweepStep, hst]
    dsimp only
    rw [moveTo_moves hw, ← hst]
    exact if_neg he

theorem sweepStep_ends {g : Segment} {s : State} (hst : s.run.stage = .sweeping)
    (hw : withheld s (nextSetpoint s.run.cmd g.endSpeed g.rate) = false ∨ g.endSpeed ≤ s.run.cmd)
    (hn : nextSetpoint s.run.cmd g.endSpeed g.rate = g.endSpeed) :
    sweepStep g s = sweepEnd (withRun (fun r => { r with cmd := g.endSpeed }) s) := by
  have hmoved : moveTo g.endSpeed g.rate s = withRun (fun r => { r with cmd := g.endSpeed }) s := by
    rw [moveTo_moves hw, withRun, withRun, hn]
  rw [sweepStep, hst]
  dsimp only
  rw [hmoved]
  exact if_pos rfl

/-! ## LSN and VIB told, and the assessment (R72, R91) -/

/-- The end speed reached, and LSN told. -/
def sweepTold (s : State) : State := leaveListening (setStage .assessing s)

theorem sweepTold_vib {s : State} (hl : s.lsn.state = .listening) (hv : s.vib.state = .sampling) :
    (sweepTold s).vib = { dropOpen s.vib with state := .holding } := by
  have hvib : (sweepTold s).vib = if s.lsn.state = .listening then vibListenEnded s.vib else s.vib := rfl
  rw [hvib, if_pos hl, vibListenEnded, if_pos hv]

theorem sweepTold_lsn (s : State) : (sweepTold s).lsn = lsnClose s.lsn := rfl

theorem sweepEnd_eq {s : State} (hl : s.lsn.state = .listening) (hv : s.vib.state = .sampling) :
    sweepEnd s = checkpoint (takeOutcome (noiseAgain (sweepTold s)) (noiseHanded (sweepTold s))) := by
  have htold : lsnSweepEnded (setStage .assessing s) = sweepTold s := if_pos hl
  have hstate : (sweepTold s).vib.state ≠ .idle := by
    rw [sweepTold_vib hl hv]
    exact nofun
  rw [sweepEnd, htold, assessSweep_eq hstate]

/-- Dropping the open revolution first changes nothing of what an assessment drops. -/
theorem dropRevs_dropOpen (v : Vib) : dropRevs (dropOpen v) = dropRevs v := by
  unfold dropRevs dropOpen
  cases v.conv with
  | none => rfl
  | some c =>
    dsimp only [Option.map_some]
    split <;> rfl

/-- What RUN and LSN have done at a sweep's end is nothing to VIB's assessment. -/
theorem noiseAlike_sweepTold {s b : State} {f : Run → Run} (hb : b = { s with run := f s.run })
    (hseg : b.run.seg = s.run.seg) (hl : b.lsn.state = .listening) (hv : b.vib.state = .sampling) :
    noiseAlike (withVib dropRevs s) (withVib dropRevs (sweepTold b)) := by
  have hvib : b.vib = s.vib := by rw [hb]
  refine ⟨⟨.holding, ?_⟩, ?_, ?_, ?_, ?_⟩
  · rw [withVib_vib, sweepTold_vib hl hv, withVib_vib, hvib, ← dropRevs_dropOpen s.vib]
    rfl
  · simp [sweepTold, setStage, hb]
  · simp [sweepTold, setStage, hb]
  · simp [sweepTold, setStage, hb]
  · simpa [sweepTold, setStage] using hseg

/-- The assessment of a sweep that has just ended is handed on: what stands then, from the state before the step. -/
structure sweepJudged (s w : State) : Prop where
  vib : w.vib = (noiseHanded s).vib
  dev : w.dev = (noiseHanded s).dev
  idle : w.vib.state = .idle
  lsn : w.lsn = lsnClose s.lsn
  cyc : w.cyc = { s.cyc with record := s.cyc.record.map (fun r => { r with noise := (noiseHanded s).vib.summary }) }
  others : w.store = s.store ∧ w.supplyWarning = s.supplyWarning ∧ w.cfg = s.cfg ∧ w.peer.table = s.peer.table

theorem sweepJudged_noiseHanded {s b : State} {f : Run → Run} (hb : b = { s with run := f s.run })
    (hseg : b.run.seg = s.run.seg) (hl : b.lsn.state = .listening) (hv : b.vib.state = .sampling) :
    sweepJudged s (noiseHanded (sweepTold b)) ∧ noiseAgain (sweepTold b) = noiseAgain s
      ∧ (noiseHanded (sweepTold b)).run = { b.run with stage := .assessing } := by
  obtain ⟨hvib, hdev, hagain⟩ := noiseHanded_congr (noiseAlike_sweepTold hb hseg hl hv)
  obtain ⟨v, d, hidle, h⟩ := noiseHanded_eq (sweepTold b)
  have hv' : v = (noiseHanded (sweepTold b)).vib := by rw [h]
  have hcyc : (sweepTold b).cyc = s.cyc := by simp [sweepTold, setStage, hb]
  refine ⟨⟨hvib, hdev, hv' ▸ hidle, ?_, ?_, ?_⟩, hagain, ?_⟩
  · rw [h]
    show (sweepTold b).lsn = _
    rw [sweepTold_lsn, hb]
  · rw [← hvib, ← hv', h]
    dsimp only
    rw [hcyc]
  · rw [h]
    simp [sweepTold, setStage, hb]
  · rw [h]
    simp [sweepTold, setStage]

/-! ## The outcome taken (R46, R93, R95) -/

/-- A stop with no sweep in progress leaves LSN and VIB as they are. -/
theorem toStopping_idle {why : EndReason} {s : State} (hin : inSegment s.run.state = true) (hv : s.vib.state = .idle)
    (hl : s.lsn.state = .inactive) : toStopping why s = postYielding false
      (withRun (fun r => { r with state := .stopping, holds := noHolds, endReason := why }) s) := by
  have hvib (u : State) (hu : u.vib = s.vib) : withVib vibAbandon u = u := by
    rw [withVib, vibAbandon, hu, if_pos hv, ← hu]
  rw [toStopping, if_pos hin, abandonSweep, lsnAbandon, if_pos (by simpa using hl), hvib _ (by simp)]

@[simp] theorem takeOutcome_frame (again : Bool) (s : State) :
    (takeOutcome again s).cyc = s.cyc ∧ (takeOutcome again s).dev = s.dev ∧ (takeOutcome again s).store = s.store
      ∧ (takeOutcome again s).supplyWarning = s.supplyWarning := by
  unfold takeOutcome segmentEnd
  split
  · simp
  · dsimp only
    split <;> simp

/-- A segment that ends with VIB and LSN at rest (R46). -/
structure segmentOver (s t : State) : Prop where
  ended : t.run.segsDone = s.run.segsDone + 1
  next : s.run.seg + 1 < (progOf s).segCount →
    t.run.seg = s.run.seg + 1 ∧ inSegment t.run.state = true ∧ t.run.dwellMs = 0 ∧ t.run.trackCount = 0
      ∧ t.run.stage = .deferred
  last : (progOf s).segCount ≤ s.run.seg + 1 →
    t.run.seg = s.run.seg ∧ t.run.state = .stopping ∧ t.run.endReason = .profileEnd ∧ t.run.holds = noHolds
  free : s.run.holds = noHolds → t.run.holds.power = false ∧ t.run.holds.yields = false
  rest : t.vib = s.vib ∧ t.lsn.totalDeferralMs = s.lsn.totalDeferralMs

/-- The segment counted, before the next is entered. -/
def segmentCounted (s : State) : State := withRun (fun r => { r with segsDone := r.segsDone + 1 }) s

theorem segmentCounted_run (s : State) : (segmentCounted s).run = { s.run with segsDone := s.run.segsDone + 1 } := rfl

theorem segmentEnd_eq (s : State) : segmentEnd s = if s.run.seg + 1 < (progOf s).segCount then
    enterSegment (s.run.seg + 1) (segmentCounted s) else toStopping .profileEnd (segmentCounted s) := rfl

theorem segmentOver_segmentEnd {s : State} (hin : inSegment s.run.state = true) (hv : s.vib.state = .idle)
    (hl : s.lsn.state = .inactive) : segmentOver s (segmentEnd s) := by
  rw [segmentEnd_eq]
  split
  next hnext =>
    obtain ⟨st, dir, cmd, reversal, defer, told, hst, hrun⟩ := enterSegment_run (s.run.seg + 1) (segmentCounted s)
    have htotal : (enterSegment (s.run.seg + 1) (segmentCounted s)).lsn.totalDeferralMs = s.lsn.totalDeferralMs :=
      (enterSegment_totals _ _).1
    have hvib : (enterSegment (s.run.seg + 1) (segmentCounted s)).vib = s.vib := (enterSegment_frame _ _).2.1
    generalize enterSegment (s.run.seg + 1) (segmentCounted s) = t at hrun htotal hvib
    rw [segmentCounted_run] at hrun
    refine ⟨congrArg Run.segsDone hrun, fun _ => ?_, fun h => absurd hnext (Nat.not_lt.mpr h), fun h => ?_, hvib, htotal⟩
    · rw [hrun]
      exact ⟨rfl, hst, rfl, rfl, rfl⟩
    · rw [hrun, h]
      exact ⟨rfl, rfl⟩
  next hnext =>
    rw [toStopping_idle (s := segmentCounted s) hin hv hl]
    exact ⟨rfl, fun h => absurd h hnext, fun _ => ⟨rfl, rfl, rfl, rfl⟩, fun _ => ⟨rfl, rfl⟩, rfl, rfl⟩

/-! ## A SWEEP entered again (R44, R47) -/

theorem neighbourClaims_congr {s t : State} (ht : t.peer.table = s.peer.table) (hc : t.cfg = s.cfg) :
    neighbourClaims t = neighbourClaims s := by
  rw [neighbourClaims, neighbourClaims, acousticPeers, acousticPeers, ht, hc]

theorem lsnBegin_inactive {s : State} (h : s.lsn.state = .inactive) :
    (lsnBegin s).lsn.state = (if neighbourClaims s then .deferring else .claiming) ∧ (lsnBegin s).lsn.claimAge = 0 := by
  have hclaims (f : Lsn → Lsn) : neighbourClaims (postListenAge (withLsn f s)) = neighbourClaims s :=
    neighbourClaims_congr rfl rfl
  rw [lsnBegin, if_pos h]
  dsimp only
  rw [hclaims]
  split <;> exact ⟨rfl, rfl⟩

theorem cutQuiet_run (s : State) : (cutQuiet s).run = { s.run with cmd := min s.run.cmd s.cfg.station.quietLimit } := by
  unfold cutQuiet
  split
  next h =>
    rw [Nat.min_eq_right (Nat.le_of_lt h)]
    rfl
  next h => rw [Nat.min_eq_left (Nat.not_lt.mp h)]

/-- A SWEEP entered in its own direction with no hold: deferred, at Vq at most, and LSN told. -/
theorem enterSegment_sweep {i : Nat} {s : State} (hk : kindOfCode (segAt i s).kindCode = .sweep)
    (hd : directionOfCode (segAt i s).dirCode = s.run.dir) (hh : s.run.holds = noHolds) (hl : s.lsn.state = .inactive) :
    (∃ told, (enterSegment i s).run = { s.run with
        state := .held, seg := i, dwellMs := 0, trackCount := 0, stage := .deferred, leakTold := told
        cmd := min s.run.cmd s.cfg.station.quietLimit, holds := ⟨false, false, true, false⟩ })
      ∧ (enterSegment i s).lsn.state = (if neighbourClaims s then .deferring else .claiming)
      ∧ (enterSegment i s).lsn.claimAge = 0 := by
  have hface : faceDirection (atSegment i s) = atSegment i s := if_pos hd
  obtain ⟨told, htold⟩ := tellLeak_run (atSegment i s)
  have hframe : (tellLeak (atSegment i s)).cfg = s.cfg ∧ (tellLeak (atSegment i s)).cyc = s.cyc
      ∧ (tellLeak (atSegment i s)).lsn = s.lsn ∧ (tellLeak (atSegment i s)).peer.table = s.peer.table := by
    simp [atSegment]
  rw [enterSegment_eq, hface]
  generalize tellLeak (atSegment i s) = u at htold hframe
  obtain ⟨hcfg, hcyc, hlsn, htable⟩ := hframe
  rw [atSegment_run] at htold
  have hkind : segKind u = .sweep := by
    rw [segKind, segOf, progOf_congr hcfg (by rw [hcyc]), htold]
    exact hk
  rw [beginSweep, if_pos hkind]
  obtain ⟨hstate, hage⟩ := lsnBegin_inactive (s := cutQuiet (withRun (fun r => { r with holds := { r.holds with defer := true } }) u))
    (by simp [hlsn, hl])
  refine ⟨⟨told, ?_⟩, ?_, hage⟩
  · rw [withRun_run, (lsnBegin_frame _).2.1, cutQuiet_run, withRun_run, htold, hh]
    simp [settleHolds, inSegment, hcfg, noHolds, Holds.isEmpty]
  · show (lsnBegin _).lsn.state = _
    rw [hstate, neighbourClaims_congr (s := s) (by simp [htable]) (by simp [hcfg])]

end Sys2Proof.Machine
end

section
/-! SUPPORT. A SWEEP's ramp step as a whole (O23). -/
namespace Sys2Proof.Machine

/-! ## A sweep's end, step by step -/

/-- VIB's outcome taken keeps POWER and YIELD out of the hold set, and VIB and the listen totals as they are. -/
theorem takeOutcome_rest {again : Bool} {w : State} (hin : inSegment w.run.state = true) (hv : w.vib.state = .idle)
    (hl : w.lsn.state = .inactive) (hh : w.run.holds = noHolds) :
    (takeOutcome again w).run.holds.power = false ∧ (takeOutcome again w).run.holds.yields = false
      ∧ (takeOutcome again w).vib = w.vib
      ∧ (takeOutcome again w).lsn.totalDeferralMs = w.lsn.totalDeferralMs := by
  cases again with
  | true =>
    obtain ⟨st, dir, cmd, reversal, defer, told, -, hrun⟩ := enterSegment_run w.run.seg w
    have hentered : takeOutcome true w = enterSegment w.run.seg w := rfl
    rw [hentered, hrun, hh]
    exact ⟨rfl, rfl, (enterSegment_frame _ _).2.1, (enterSegment_totals _ _).1⟩
  | false =>
    obtain ⟨-, -, -, hfree, hvib, htotal⟩ := segmentOver_segmentEnd hin hv hl
    exact ⟨(hfree hh).1, (hfree hh).2, hvib, htotal⟩

/-- What follows a checkpoint in a step moves RUN's state and the posting alone. -/
theorem stepEnded_checkpoint {x : State} (hp : x.run.holds.power = false) (hy : x.run.holds.yields = false) :
    (stepEnded (checkpoint x)).run = settleHolds x.run ∧ (stepEnded (checkpoint x)).lsn = x.lsn
      ∧ (stepEnded (checkpoint x)).vib = x.vib ∧ (stepEnded (checkpoint x)).dev = x.dev
      ∧ (stepEnded (checkpoint x)).cyc = (checkpoint x).cyc ∧ (stepEnded (checkpoint x)).store = (checkpoint x).store := by
  have hrun : (checkpoint x).run = x.run := by simp
  rw [stepEnded_free (by rw [hrun]; exact hp) (by rw [hrun]; exact hy)]
  simp

/-- The segment ended, as RUN stands once its hold set is settled. -/
theorem segmentEnded_of_segmentOver {s w x t : State} (h : segmentOver w x) (ht : t.run = settleHolds x.run)
    (hseg : w.run.seg = s.run.seg) (hdone : w.run.segsDone = s.run.segsDone) (hprog : progOf w = progOf s) :
    segmentEnded s t := by
  obtain ⟨hcount, hnext, hlast, -, -⟩ := h
  obtain ⟨st, hset, hin⟩ := settleHolds_eq x.run
  refine ⟨?_, fun hlt => ?_, fun hge => ?_⟩
  · rw [ht, hset, hcount, hdone]
  · obtain ⟨h1, h2, h3, h4, h5⟩ := hnext (by rw [hseg, hprog]; exact hlt)
    rw [ht, hset]
    exact ⟨h1.trans (by rw [hseg]), hin h2, h3, h4, h5⟩
  · obtain ⟨h1, h2, h3, h4⟩ := hlast (by rw [hseg, hprog]; exact hge)
    have hstill : settleHolds x.run = x.run := if_neg (by rw [h2]; decide)
    rw [ht, hstill]
    exact ⟨h1.trans hseg, h2, h3, h4⟩

/-- The step that ends a sweep: the assessment made, its outcome taken and a checkpoint requested. -/
theorem rampStep_sweepEnd {s : State} (hf : freeToMove s) (hk : segKind s = .sweep) (hst : s.run.stage = .sweeping)
    (hw : withheld s (nextSetpoint s.run.cmd (segOf s).endSpeed (segOf s).rate) = false ∨ (segOf s).endSpeed ≤ s.run.cmd)
    (hn : nextSetpoint s.run.cmd (segOf s).endSpeed (segOf s).rate = (segOf s).endSpeed)
    (hl : s.lsn.state = .listening) (hv : s.vib.state = .sampling) :
    ∃ w left sum allowed, rampStep s = stepEnded (checkpoint (takeOutcome (noiseAgain s) w)) ∧ sweepJudged s w
      ∧ w.run = { s.run with
          rampLeft := left, lastSum := sum, lastAllowed := allowed, trackCount := 0, holds := noHolds
          cmd := (segOf s).endSpeed, stage := .assessing } := by
  have hbegun := stepBegun_eq hf
  have hends := sweepStep_ends (g := segOf s) (s := stepBegun s) hst hw hn
  have hreached : withRun (fun r => { r with cmd := (segOf s).endSpeed }) (stepBegun s)
      = { s with run := { (stepBegun s).run with cmd := (segOf s).endSpeed } } := by rw [hbegun]; rfl
  obtain ⟨hjudged, hagain, hrun⟩ := sweepJudged_noiseHanded (s := s)
    (f := fun _ => { (stepBegun s).run with cmd := (segOf s).endSpeed }) hreached rfl (by rw [hreached]; exact hl)
    (by rw [hreached]; exact hv)
  refine ⟨_, 20, demandSum s, allowedPower s, ?_, hjudged, ?_⟩
  · rw [rampStep_sweep hf hk, hends, sweepEnd_eq (by rw [hreached]; exact hl) (by rw [hreached]; exact hv), hagain]
  · rw [hrun, hreached, hbegun]

/-- The end of a sweep, from the state before the step to the one after it, with the assessment's outcome (R47, R72, R91,
R95). -/
structure sweepClosed (s t u : State) (again : Bool) : Prop where
  vib : t.vib = u.vib
  dev : t.dev = u.dev
  total : t.lsn.totalDeferralMs = s.lsn.totalDeferralMs + s.lsn.deferralMs
  ended : again = false → segmentEnded s t
  repeats : again = true → s.run.dir = segDir s →
    t.run.seg = s.run.seg ∧ t.run.segsDone = s.run.segsDone ∧ t.run.stage = .deferred
      ∧ t.run.state = .held ∧ t.run.holds = ⟨false, false, true, false⟩
      ∧ t.run.cmd = min (segOf s).endSpeed s.cfg.station.quietLimit
      ∧ t.lsn.state = (if neighbourClaims s then .deferring else .claiming) ∧ t.lsn.claimAge = 0
  record : ∀ r, s.cyc.record = some r → inCycle s.cyc.station = true → ∃ r', t.cyc.record = some r'
    ∧ r'.noise = u.vib.summary ∧ r'.dev = devCopy u.dev ∧ r'.cycleTime = cycleTime s ∧ r'.final = r.final
    ∧ (s.store.state = .ready → s.supplyWarning = false → (swapOf s.store false (requestOf .checkpoint r')).gen < spentSeq →
        t.store.swap = some (swapOf s.store false (requestOf .checkpoint r')))

theorem sweepClosed_rampStep {s : State} (hf : freeToMove s) (hk : segKind s = .sweep) (hst : s.run.stage = .sweeping)
    (hw : withheld s (nextSetpoint s.run.cmd (segOf s).endSpeed (segOf s).rate) = false ∨ (segOf s).endSpeed ≤ s.run.cmd)
    (hn : nextSetpoint s.run.cmd (segOf s).endSpeed (segOf s).rate = (segOf s).endSpeed)
    (hl : s.lsn.state = .listening) (hv : s.vib.state = .sampling) :
    sweepClosed s (leaveIdle (rampStep s)) (noiseHanded s) (noiseAgain s) := by
  obtain ⟨w, left, sum, allowed, heq, ⟨hvib, hdev, hidle, hlsn, hcyc, hstore, hwarn, hcfg, htable⟩, hrun⟩ :=
    rampStep_sweepEnd hf hk hst hw hn hl hv
  have hinactive : w.lsn.state = .inactive := by rw [hlsn]; rfl
  have hin : inSegment w.run.state = true := by rw [hrun]; exact hf.1
  have hholds : w.run.holds = noHolds := by rw [hrun]
  have hprog : progOf w = progOf s := progOf_congr hcfg (by rw [hcyc])
  obtain ⟨hp, hy, hvib', htotal'⟩ := takeOutcome_rest (again := noiseAgain s) hin hidle hinactive hholds
  obtain ⟨hcyc', hdev', hstore', hwarn'⟩ := takeOutcome_frame (noiseAgain s) w
  obtain ⟨trun, tlsn, tvib, tdev, tcyc, tstore⟩ := stepEnded_checkpoint hp hy
  rw [← heq] at trun tlsn tvib tdev tcyc tstore
  refine ⟨?_, ?_, ?_, fun hagain => ?_, fun hagain hdir => ?_, fun r hr hinc => ?_⟩
  · simp only [leaveIdle_frame]
    rw [tvib, hvib', hvib]
  · simp only [leaveIdle_frame]
    rw [tdev, hdev', hdev]
  · simp only [leaveIdle_frame]
    rw [tlsn, htotal', hlsn]
    rfl
  · rw [hagain] at trun
    refine segmentEnded_of_segmentOver (segmentOver_segmentEnd hin hidle hinactive) ?_ (by rw [hrun]) (by rw [hrun]) hprog
    simp only [leaveIdle_frame]
    exact trun
  · rw [hagain] at trun tlsn
    have hseg : segAt w.run.seg w = segOf s := by rw [segAt, segOf, hprog, hrun]
    obtain ⟨⟨told, hentered⟩, hstate, hage⟩ := enterSegment_sweep (i := w.run.seg) (s := w) (by rw [hseg]; exact hk)
      (by rw [hseg, hrun]; exact hdir.symm) hholds hinactive
    have htaken : takeOutcome true w = enterSegment w.run.seg w := rfl
    rw [htaken] at trun tlsn
    rw [hentered, hrun] at trun
    simp only [leaveIdle_frame]
    rw [trun, tlsn, hstate, hage, neighbourClaims_congr htable hcfg, ← hcfg]
    exact ⟨rfl, rfl, rfl, rfl, rfl, rfl, rfl, rfl⟩
  · have hrec : (takeOutcome (noiseAgain s) w).cyc.record = some { r with noise := (noiseHanded s).vib.summary } := by
      rw [hcyc', hcyc, hr]
      rfl
    have hinc' : inCycle (takeOutcome (noiseAgain s) w).cyc.station = true := by rw [hcyc', hcyc]; exact hinc
    have htime : cycleTime (takeOutcome (noiseAgain s) w) = cycleTime s := by rw [cycleTime, cycleTime, hcyc', hcyc]
    have htaken := (checkpointTaken_checkpoint hinc' hrec).begins
    rw [hstore', hstore, hwarn', hwarn] at htaken
    simp only [leaveIdle_frame]
    rw [tcyc, tstore, checkpoint_record hinc' hrec]
    exact ⟨_, rfl, rfl, congrArg devCopy (hdev'.trans hdev), htime, rfl, htaken⟩

/-! ## The other steps of a SWEEP -/

/-- The step of a SWEEP that waits: for LISTENING, or for VIB's outcome. -/
theorem rampStep_sweepWaits {s : State} (hf : freeToMove s) (hk : segKind s = .sweep)
    (hst : s.run.stage = .deferred ∨ s.run.stage = .assessing) :
    (rampStep s).run.cmd = s.run.cmd ∧ (rampStep s).run.stage = s.run.stage ∧ (rampStep s).run.seg = s.run.seg
      ∧ (rampStep s).lsn = s.lsn ∧ (rampStep s).vib = s.vib := by
  have hbegun := stepBegun_eq hf
  have hstay : sweepStep (segOf s) (stepBegun s) = stepBegun s := by
    have hstage : (stepBegun s).run.stage = s.run.stage := rfl
    unfold sweepStep
    rw [hstage]
    rcases hst with h | h <;> rw [h]
  obtain ⟨st, hset, -⟩ := settleHolds_eq (stepBegun s).run
  have hrun : (rampStep s).run = { (stepBegun s).run with state := st } := by
    rw [rampStep_sweep hf hk, hstay, stepEnded_free (by rw [hbegun]; rfl) (by rw [hbegun]; rfl), (postSpeed_frame _).2.1,
      withRun_run, hset]
  refine ⟨by rw [hrun]; rfl, by rw [hrun]; rfl, by rw [hrun]; rfl, ?_⟩
  rw [rampStep_sweep hf hk, hstay, stepEnded_free (by rw [hbegun]; rfl) (by rw [hbegun]; rfl), hbegun]
  simp

/-- The step of a SWEEP whose increase is withheld (R47, R51). -/
theorem rampStep_sweepWithheld {s : State} {target : Nat} (hf : freeToMove s) (hk : segKind s = .sweep)
    (h : sweepToward (segOf s) s target) (hlt : s.run.cmd < target)
    (hw : withheld s (nextSetpoint s.run.cmd target (segOf s).rate) = true) :
    (rampStep s).run.cmd = s.run.cmd ∧ (rampStep s).run.stage = s.run.stage
      ∧ (rampStep s).run.holds = ⟨true, false, false, false⟩ ∧ (rampStep s).run.state = .held
      ∧ (rampStep s).run.seg = s.run.seg ∧ (rampStep s).lsn = s.lsn ∧ (rampStep s).vib = s.vib := by
  have hbegun := stepBegun_eq hf
  have hstep := sweepStep_withheld (s := stepBegun s) h hlt hw
  have hheld : ((sweepStep (segOf s) (stepBegun s)).run.holds = ⟨true, false, false, false⟩) := by
    rw [hstep, hbegun]
    rfl
  obtain ⟨ms, mark, hrun, hlsn, hvib⟩ := stepEnded_withheld (s := sweepStep (segOf s) (stepBegun s))
    (by rw [hstep]; exact hf.1) hheld
  rw [rampStep_sweep hf hk, hrun, hlsn, hvib, hheld, hstep]
  exact ⟨rfl, rfl, rfl, rfl, rfl, rfl, rfl⟩

/-- The step of a SWEEP that moves and does not reach the sweep's end (R47). -/
theorem rampStep_sweepMoves {s : State} {target : Nat} (hf : freeToMove s) (hk : segKind s = .sweep)
    (h : sweepToward (segOf s) s target)
    (hw : withheld s (nextSetpoint s.run.cmd target (segOf s).rate) = false ∨ target ≤ s.run.cmd)
    (hn : s.run.stage = .approach ∨ nextSetpoint s.run.cmd target (segOf s).rate ≠ target) :
    (rampStep s).run.cmd = nextSetpoint s.run.cmd target (segOf s).rate ∧ (rampStep s).run.state = .segment
      ∧ (rampStep s).run.seg = s.run.seg
      ∧ (rampStep s).run.stage
          = (if nextSetpoint s.run.cmd target (segOf s).rate = target then .sweeping else s.run.stage)
      ∧ (rampStep s).lsn = s.lsn ∧ (rampStep s).vib = s.vib ∧ (rampStep s).dev = s.dev ∧ (rampStep s).cyc = s.cyc
      ∧ (rampStep s).store = s.store := by
  have hbegun := stepBegun_eq hf
  have hstep := sweepStep_moved (s := stepBegun s) h hw hn
  have hsettle (r : Run) (hin : inSegment r.state = true) (hh : r.holds = noHolds) :
      settleHolds r = { r with state := .segment } := by
    rw [settleHolds, if_pos hin, hh]
    rfl
  have hrun : (rampStep s).run = { (sweepStep (segOf s) (stepBegun s)).run with state := .segment } := by
    rw [rampStep_sweep hf hk, stepEnded_free (by rw [hstep, hbegun]; rfl) (by rw [hstep, hbegun]; rfl),
      (postSpeed_frame _).2.1, withRun_run, hsettle _ (by rw [hstep]; exact hf.1) (by rw [hstep, hbegun]; rfl)]
  refine ⟨by rw [hrun, hstep]; rfl, by rw [hrun], by rw [hrun, hstep]; rfl, by rw [hrun, hstep]; rfl, ?_⟩
  rw [rampStep_sweep hf hk, stepEnded_free (by rw [hstep, hbegun]; rfl) (by rw [hstep, hbegun]; rfl), hstep, hbegun]
  simp

/-- Settles O23, by what the step does at each stage: wait, withhold, move, or end the sweep. -/
theorem sweepRunsByStages : Obligations.SweepRunsByStages := by
  intro s hb hf hk
  have hlatch : Latches s (rampStep s) := by
    rw [rampStep_sweep hf hk]
    exact (Latches.of_peer (by rw [stepBegun_eq hf])).trans ((Latches.sweepStep _ (stepBegun s)).trans (.stepEnded _))
  refine ⟨leaveIdle (rampStep s), whenReleased_running hb, latchedOn_leaveIdle hlatch, fun hst => ?_,
    fun target next h hnext => ⟨fun hw hlt => ?_, fun hw => ⟨fun hstage => ?_, fun hst he hlaw hl => ?_⟩⟩⟩
  · simp only [leaveIdle_frame]
    exact rampStep_sweepWaits hf hk hst
  · rw [hnext] at hw
    simp only [leaveIdle_frame]
    exact rampStep_sweepWithheld hf hk h hlt hw
  · subst hnext
    simp only [leaveIdle_frame]
    exact rampStep_sweepMoves hf hk h hw hstage
  · obtain ⟨-, rfl⟩ : s.run.stage = .sweeping ∧ target = (segOf s).endSpeed := h.resolve_left (by simp [hst])
    have hv : s.vib.state = .sampling := hlaw.2.2.2.2.2.2.1.mpr hl
    rw [hnext] at hw he
    obtain ⟨h1, h2, h3, h4, h5, h6⟩ := sweepClosed_rampStep hf hk hst hw he hl hv
    exact ⟨noiseHanded s, noiseAgain s, assessSweep_eq (by rw [hv]; exact nofun), h1, h2, h3, h4, h5, h6⟩

end Sys2Proof.Machine
end

section
/-! SUPPORT. The bytes of big-endian fields and of a record's header, and the items of live state (O19). -/
namespace Sys2Proof.Machine

/-! ## Big-endian fields -/

@[simp] theorem length_be (k n : Nat) : (be k n).length = k := by
  induction k with
  | zero => rfl
  | succ k ih => simp [be, ih]

theorem be_one (n : Nat) : be 1 n = [BitVec.ofNat 8 n] := by simp [be]

theorem be_two (n : Nat) : be 2 n = twoBytes n := by simp [be, twoBytes]

theorem foldl_be (k n acc : Nat) :
    (be k n).foldl (fun acc b => acc * 256 + b.toNat) acc = acc * 256 ^ k + n % 256 ^ k := by
  induction k generalizing acc with
  | zero => simp [be, Nat.mod_one]
  | succ k ih =>
    have hdigit : n % 256 ^ (k + 1) = n % 256 ^ k + 256 ^ k * (n / 256 ^ k % 256) := by rw [Nat.pow_succ, Nat.mod_mul]
    rw [be, List.foldl_cons, ih, hdigit, BitVec.toNat_ofNat, Nat.pow_succ]
    ring

theorem fromBe_be (k n : Nat) : fromBe (be k n) = n % 256 ^ k := by
  rw [fromBe, foldl_be, Nat.zero_mul, Nat.zero_add]

@[simp] theorem length_beOpt (k : Nat) (o : Option Nat) : (beOpt k o).length = k := by
  cases o <;> simp [beOpt]

@[simp] theorem length_beInt (k : Nat) (i : Int) : (beInt k i).length = k := length_be k _

/-! ## A record's bytes (R6, Layouts: Record header) -/

/-- The bytes 4 to 11 of a record header. -/
def headerMarks (r : OpenRecord) : List Byte :=
  [if r.final then 2 else 1, BitVec.ofNat 8 r.verdict.code, BitVec.ofNat 8 r.programme, BitVec.ofNat 8 r.station,
    BitVec.ofNat 8 (presenceOf r), BitVec.ofNat 8 r.serial.length, if r.resetInterrupted then 1 else 0, 0]

/-- A record's bytes behind its header. -/
def recordSections (r : OpenRecord) : List Byte :=
  devSectionBytes r.dev ++ (runSectionBytes r.runIn ++ ((if r.hasNoise then noiseSectionBytes r.noise else [])
    ++ ((if r.has1 then circuitSectionBytes r.circuit1 else []) ++ (if r.has2 then circuitSectionBytes r.circuit2 else []))))

theorem recordImage_eq (r : OpenRecord) : recordImage r = be 4 r.seq ++ (headerMarks r
    ++ (r.stamp ++ (List.replicate (4 - r.stamp.length) 0 ++ (be 4 r.cycleTime
      ++ (r.serial ++ (List.replicate (20 - r.serial.length) 0 ++ recordSections r)))))) := by
  have hfinal : BitVec.ofNat 8 (if r.final then 2 else 1) = if r.final then (2 : Byte) else 1 := by cases r.final <;> rfl
  have hreset : BitVec.ofNat 8 (bitAt 0 r.resetInterrupted) = if r.resetInterrupted then (1 : Byte) else 0 := by
    cases r.resetInterrupted <;> rfl
  simp only [recordImage, headerBytes, headerMarks, recordSections, be_one, hfinal, hreset, List.append_assoc,
    List.cons_append, List.nil_append]
  rfl

theorem length_recordSections (r : OpenRecord) : (recordSections r).length
    = 36 + (if r.hasNoise then 16 else 0) + (if r.has1 then 24 else 0) + (if r.has2 then 24 else 0) := by
  have hcircuit (c : CircuitSection) : (circuitSectionBytes c).length = 24 := by simp [circuitSectionBytes]
  have hnoise (n : NoiseSummary) : (noiseSectionBytes n).length = 16 := by simp [noiseSectionBytes]
  have hdev (d : DevSection) : (devSectionBytes d).length = 20 := by simp [devSectionBytes]
  have hrun (n : RunSection) : (runSectionBytes n).length = 16 := by simp [runSectionBytes]
  simp only [recordSections, List.length_append, hdev, hrun, apply_ite List.length, hnoise, hcircuit, List.length_nil]
  omega

theorem length_recordImage (r : OpenRecord) : (recordImage r).length
    = 76 + (if r.hasNoise then 16 else 0) + (if r.has1 then 24 else 0) + (if r.has2 then 24 else 0)
      + ((r.stamp.length - 4) + (r.serial.length - 20)) := by
  have hmarks : (headerMarks r).length = 8 := rfl
  simp only [recordImage_eq, List.length_append, length_be, hmarks, List.length_replicate, length_recordSections]
  omega

/-- The header's fields in their places. -/
theorem recordImage_fields (r : OpenRecord) :
    field (recordImage r) 0 4 = r.seq % 2 ^ 32 ∧ byteAt (recordImage r) 4 = (if r.final then 2 else 1)
      ∧ byteAt (recordImage r) 5 = BitVec.ofNat 8 r.verdict.code ∧ byteAt (recordImage r) 6 = BitVec.ofNat 8 r.programme
      ∧ byteAt (recordImage r) 7 = BitVec.ofNat 8 r.station ∧ byteAt (recordImage r) 8 = BitVec.ofNat 8 (presenceOf r)
      ∧ byteAt (recordImage r) 9 = BitVec.ofNat 8 r.serial.length
      ∧ byteAt (recordImage r) 10 = (if r.resetInterrupted then 1 else 0) := by
  rw [recordImage_eq]
  exact ⟨fromBe_be 4 r.seq, rfl, rfl, rfl, rfl, rfl, rfl, rfl⟩

/-- With a stamp of four bytes the cycle time and the serial stand in their places. -/
theorem recordImage_stamped {r : OpenRecord} (h : r.stamp.length = 4) :
    ((recordImage r).drop 12).take 4 = r.stamp ∧ field (recordImage r) 16 4 = r.cycleTime % 2 ^ 32
      ∧ ((recordImage r).drop 20).take r.serial.length = r.serial := by
  have hfront : (be 4 r.seq ++ headerMarks r).length = 12 := by simp [headerMarks]
  have hmiddle : ((be 4 r.seq ++ headerMarks r) ++ r.stamp).length = 16 := by rw [List.length_append, hfront, h]
  have hback : (((be 4 r.seq ++ headerMarks r) ++ r.stamp) ++ be 4 r.cycleTime).length = 20 := by
    rw [List.length_append, hmiddle, length_be]
  have heq : recordImage r = (((be 4 r.seq ++ headerMarks r) ++ r.stamp) ++ be 4 r.cycleTime)
      ++ (r.serial ++ (List.replicate (20 - r.serial.length) 0 ++ recordSections r)) := by
    rw [recordImage_eq, h]
    simp
  refine ⟨?_, ?_, ?_⟩
  · rw [heq, List.append_assoc, List.append_assoc, List.drop_left' hfront, List.take_left' h]
  · rw [heq, field, List.append_assoc, List.drop_left' hmiddle, List.take_left' (length_be 4 _), fromBe_be]
    norm_num
  · rw [heq, List.drop_left' hback, List.take_left]

/-! ## The items (R184) -/

theorem itemReply_head (item index : Byte) (s : State) :
    (itemReply item index s).order = codeItem ∧ (itemReply item index s).qualifier = item := by
  unfold itemReply
  split <;> exact ⟨rfl, rfl⟩

theorem itemReply_held {item index : Byte} {s : State} {d : List Byte} (h : itemData item.toNat index.toNat s = some d) :
    (itemReply item index s).outcome = .data ∧ (itemReply item index s).data = d := by
  rw [itemReply, h]
  exact ⟨rfl, rfl⟩

theorem itemReply_none {item index : Byte} {s : State} (h : itemData item.toNat index.toNat s = none) :
    (itemReply item index s).outcome = .notHeld ∧ (itemReply item index s).data = [] := by
  rw [itemReply, h]
  exact ⟨rfl, rfl⟩

theorem itemReply_outcome (item index : Byte) (s : State) :
    (itemReply item index s).outcome = .data ↔ (itemData item.toNat index.toNat s).isSome = true := by
  cases h : itemData item.toNat index.toNat s with
  | none => simp [(itemReply_none h).1]
  | some d => simp [(itemReply_held h).1]

theorem itemData_above {item : Nat} (index : Nat) (s : State) (h : 10 < item) : itemData item index s = none := by
  unfold itemData
  split
  case h_5 =>
    split
    · split
      case h_8 => rfl
      all_goals omega
    · rfl
  all_goals omega

/-- An item that has no index of its own is held at index 0 alone. -/
theorem itemData_indexed {item index : Nat} (s : State) (h : item ∈ [0, 3, 4, 5, 6, 9, 10]) (hi : index ≠ 0) :
    itemData item index s = none := by
  simp only [List.mem_cons, List.not_mem_nil, or_false] at h
  rcases h with rfl | rfl | rfl | rfl | rfl | rfl | rfl <;> exact if_neg hi

theorem itemData_unindexed {item : Nat} (s : State) (h : item ∈ [0, 3, 4, 6, 9, 10]) : (itemData item 0 s).isSome = true := by
  simp only [List.mem_cons, List.not_mem_nil, or_false] at h
  rcases h with rfl | rfl | rfl | rfl | rfl | rfl <;> rfl

theorem item1_isSome (index : Nat) (s : State) : (item1 index s).isSome = true ↔
    1 ≤ index ∧ index ≤ 16 ∧ index ≠ s.cfg.number ∧ (entryOf s index).isSome = true := by
  unfold item1
  split
  next h => exact ⟨nofun, fun ⟨h1, h16, hown, _⟩ => absurd h (by omega)⟩
  next h =>
    have hrange : 1 ≤ index ∧ index ≤ 16 ∧ index ≠ s.cfg.number := by omega
    cases entryOf s index <;> simp [hrange]

theorem slowOfCode_eq_some {n : Nat} {ch : Slow} : slowOfCode n = some ch ↔ ch.code = n := by
  refine ⟨fun h => ?_, fun h => h ▸ by cases ch <;> rfl⟩
  unfold slowOfCode at h
  split at h <;> cases h <;> rfl

theorem slowOfCode_isSome (n : Nat) : (slowOfCode n).isSome = true ↔ 1 ≤ n ∧ n ≤ 6 := by
  refine ⟨fun h => ?_, fun ⟨h1, h6⟩ => by interval_cases n <;> rfl⟩
  obtain ⟨ch, hch⟩ := Option.isSome_iff_exists.mp h
  rw [slowOfCode_eq_some] at hch
  cases ch <;> cases hch <;> decide

theorem item2_isSome (index : Nat) (s : State) : (item2 index s).isSome = true ↔ 1 ≤ index ∧ index ≤ 6 := by
  rw [← slowOfCode_isSome, item2]
  cases slowOfCode index <;> rfl

theorem item2_eq {index : Nat} {ch : Slow} (s : State) (h : slowOfCode index = some ch) : item2 index s
    = some (twoBytes (slowOf s.sca ch).value ++ [if (slowOf s.sca ch).sampled then 1 else 0]
      ++ twoBytes (slowOf s.sca ch).sinceMs
      ++ [BitVec.ofNat 8 (s.sca.active.filter (fun code => code == index)).length]) := by
  rw [item2, h, ← slowOfCode_eq_some.mp h, ← List.countP_eq_length_filter]
  simp only [be_one, be_two]
  rfl

theorem item7_isSome (index : Nat) (s : State) : (item7 index s).isSome = true ↔ index ≤ 31 := by
  unfold item7
  split <;> simp <;> omega

theorem item8_isSome (index : Nat) (s : State) : (item8 index s).isSome = true ↔ index = 1 ∨ index = 2 := by
  unfold item8
  split <;> simp_all

theorem item10_eq (c : LineCounters) : item10 c = twoBytes c.pulseErrors ++ twoBytes c.lineStuck ++ twoBytes c.lengthErrors
    ++ twoBytes c.crcErrors ++ twoBytes c.overruns ++ twoBytes c.arbLosses ++ twoBytes c.repliesDropped := by
  simp only [item10, be_two]

theorem closeRecord_eq (image : List Byte) : closeRecord image
    = image ++ [BitVec.ofNat 8 ((crc16 image).toNat / 256), BitVec.ofNat 8 (crc16 image).toNat, 0, 0] := by
  rw [closeRecord, crcBytes, be_two, be_two, twoBytes, twoBytes, List.append_assoc]
  rfl

theorem exec_item {dest item index : Byte} {s : State} (h : takesOrders s) (hd : addressed s dest) :
    exec (.item dest [item, index]) s = .next (answered (itemReply item index s) s) := by
  refine whenReleased_answered h.1.1 ?_
  rw [receive_owned h hd rfl rfl]
  rfl

/-- Settles O19, item by item. -/
theorem itemShowsLiveState : Obligations.ItemShowsLiveState := by
  intro dest item index s h hd
  have hout := itemReply_outcome item index s
  have hindex (hi : index ≠ 0) : index.toNat ≠ 0 := fun he => hi (BitVec.eq_of_toNat_eq he)
  have hmem (l : List Byte) (hm : item ∈ l) : item.toNat ∈ l.map BitVec.toNat := List.mem_map_of_mem hm
  refine ⟨exec_item h hd, (itemReply_head item index s).1, (itemReply_head item index s).2, ?_, fun hi => ?_, fun hm hi => ?_,
    fun hm hi => ?_, fun hm hi => ?_, fun hm => ?_, fun hm => ?_, fun hm => ?_, fun hm => ?_, fun ch hm hch => ?_,
    fun hm hi => ?_, fun hm hi => ?_, fun r hm hi hr => ?_, fun hm hi => ?_⟩
  · cases hdata : itemData item.toNat index.toNat s with
    | none => exact .inr ⟨(itemReply_none hdata).1, rfl, (itemReply_none hdata).2⟩
    | some d => exact .inl ⟨(itemReply_held hdata).1, by rw [(itemReply_held hdata).2]⟩
  · exact (itemReply_none (itemData_above _ s hi)).1
  · exact (itemReply_none (itemData_indexed s (hmem _ hm) (hindex hi))).1
  · subst hi
    exact hout.mpr (itemData_unindexed s (hmem _ hm))
  · subst hm hi
    rw [hout]
    exact iff_of_eq (congrArg (· = true) Option.isSome_map)
  · subst hm
    exact hout.trans (item1_isSome _ s)
  · subst hm
    exact hout.trans (item2_isSome _ s)
  · subst hm
    exact hout.trans (item7_isSome _ s)
  · subst hm
    exact hout.trans (item8_isSome _ s)
  · subst hm
    exact (itemReply_held (item := 2) (item2_eq s hch)).2
  · subst hm hi
    rw [(itemReply_held (item := 3) (index := 0) (s := s) rfl).2, item3, be_one]
  · subst hm hi
    rw [(itemReply_held (item := 4) (index := 0) (s := s) rfl).2]
    rfl
  · subst hm hi
    have hdata : itemData (5 : Byte).toNat (0 : Byte).toNat s = some (closeRecord (recordImage r)) := by
      show item5 s = _
      rw [item5, hr]
      rfl
    obtain ⟨h1, h2, h3, h4, h5, h6, h7, h8⟩ := recordImage_fields r
    exact ⟨recordImage r, rfl, by rw [(itemReply_held hdata).2, closeRecord_eq], length_recordImage r, h1, h2, h3, h4, h5,
      h6, h7, h8, recordImage_stamped⟩
  · subst hm hi
    rw [(itemReply_held (item := 10) (index := 0) (s := s) rfl).2, item10_eq]

end Sys2Proof.Machine
end

section
/-! SUPPORT. What a step can do to the line interface's queues, the configuration, the peer table and the contamination
condition: every step but a reset is a sequence of the moves listed here, and the laws of the queues (O53) and of the peer
table (O55) are kept move by move. -/
namespace Sys2Proof.Machine

/-! ## What the jobs, CYC and STORE leave -/

/-- From one state to the next the line interface, the configuration, the peer table and the contamination condition are as
they were, and no reset has begun. -/
structure LineKept (s t : State) : Prop where
  lif : t.lif = s.lif
  cfg : t.cfg = s.cfg
  table : t.peer.table = s.peer.table
  contamination : t.lsn.contamination = s.lsn.contamination
  held : t.boot = .held → s.boot = .held

theorem LineKept.refl (s : State) : LineKept s s := ⟨rfl, rfl, rfl, rfl, id⟩

theorem LineKept.trans {s t u : State} (h : LineKept s t) (h' : LineKept t u) : LineKept s u :=
  ⟨h'.lif.trans h.lif, h'.cfg.trans h.cfg, h'.table.trans h.table, h'.contamination.trans h.contamination,
    fun hu => h.held (h'.held hu)⟩

/-- Whatever an operation's frame says at once. -/
theorem LineKept.of_frame {s t : State} (h : t.lif = s.lif ∧ t.cfg = s.cfg ∧ t.peer.table = s.peer.table
    ∧ t.lsn.contamination = s.lsn.contamination ∧ t.boot = s.boot) : LineKept s t := by
  obtain ⟨hl, hc, ht, hd, hb⟩ := h
  exact ⟨hl, hc, ht, hd, fun hh => hb ▸ hh⟩

/-! ### STORE and CYC -/

theorem LineKept.startUpEnd (s : State) : LineKept s (startUpEnd s) :=
  ⟨by simp, by simp, by simp, by simp, fun h => by cases h⟩

theorem LineKept.scanEnd (s : State) : LineKept s (scanEnd s) := by
  unfold Machine.scanEnd
  split
  · exact (LineKept.of_frame (by simp)).trans (.startUpEnd _)
  · exact (LineKept.of_frame (t := { s with store := _ }) (by simp)).trans (.startUpEnd _)

theorem LineKept.failRequest (req : Request) (s : State) : LineKept s (failRequest req s) := .of_frame (by simp)

theorem LineKept.beginSwap (recovery : Bool) (req : Request) (s : State) : LineKept s (beginSwap recovery req s) := by
  have hf : LineKept s (Machine.enterFaulted .worn s) := .of_frame (by simp)
  unfold Machine.beginSwap
  split
  · split
    · exact hf.trans (.startUpEnd _)
    · exact hf.trans (.failRequest _ _)
  · exact .of_frame (by simp)

theorem LineKept.commitRequest (req : Request) (s : State) : LineKept s (commitRequest req s) := by
  unfold Machine.commitRequest
  split
  · exact .refl s
  · split
    · exact .of_frame (by simp)
    · exact .beginSwap _ _ s
  · exact .of_frame (by simp)
  · exact .failRequest _ s

theorem LineKept.failPending (s : State) : LineKept s (failPending s) := by
  unfold Machine.failPending
  split
  · exact .of_frame (by simp)
  · exact .refl s

theorem LineKept.nextSwap (s : State) : LineKept s (nextSwap s) := by
  unfold Machine.nextSwap
  split
  · split
    · exact .of_frame (by simp)
    · exact (LineKept.of_frame (t := { s with store := _ }) (by simp)).trans (.beginSwap _ _ _)
  · exact .of_frame (by simp)

theorem LineKept.commitEnded (s : State) : LineKept s (commitEnded s) := .of_frame (by simp)

theorem LineKept.requestDone (req : Request) (s : State) : LineKept s (requestDone req s) := by
  unfold Machine.requestDone
  split
  · split
    · exact (LineKept.of_frame (t := Machine.enterFaulted .spent (Machine.commitEnded s)) (by simp)).trans (.failPending _)
    · exact (LineKept.commitEnded s).trans (.nextSwap _)
  · exact .nextSwap s

theorem LineKept.endSwap (w : Swap) (s : State) : LineKept s (endSwap w s) := by
  unfold Machine.endSwap
  dsimp only
  split
  · exact (LineKept.of_frame (t := { s with store := _ }) (by simp)).trans (.scanEnd _)
  · exact (LineKept.of_frame (t := { s with store := _ }) (by simp)).trans (.requestDone _ _)

theorem LineKept.verifyFailure (w : Swap) (s : State) : LineKept s (verifyFailure w s) := by
  have hcut : LineKept s (Machine.enterFaulted .verify { cutSwap w s with store := { (cutSwap w s).store with pending := none } }) :=
    .of_frame (by simp)
  unfold Machine.verifyFailure
  dsimp only
  split
  · exact hcut.trans (.startUpEnd _)
  · split
    · exact hcut.trans (.commitEnded _)
    · exact hcut

theorem LineKept.scanDone (s : State) : LineKept s (scanDone s) := by
  unfold Machine.scanDone
  dsimp only
  split
  · exact (LineKept.of_frame (t := { s with store := _ }) (by simp)).trans (.scanEnd _)
  · split
    · exact ⟨rfl, rfl, rfl, rfl, fun h => by cases h⟩
    · exact LineKept.trans (t := { s with store := _, boot := .recover }) ⟨rfl, rfl, rfl, rfl, fun h => by cases h⟩
        (.beginSwap _ _ _)

theorem LineKept.setWarning (on : Bool) (s : State) : LineKept s (setWarning on s) := .of_frame (by simp)

theorem LineKept.heldSwap (s : State) : LineKept s (heldSwap s) := by
  unfold Machine.heldSwap
  split
  · exact (LineKept.of_frame (t := { s with store := _ }) (by simp)).trans (.beginSwap _ _ _)
  · exact (LineKept.of_frame (t := { s with store := _ }) (by simp)).trans (.beginSwap _ _ _)
  · exact .refl s

theorem LineKept.handOver (kind : CommitKind) (s : State) : LineKept s (handOver kind s) := by
  unfold Machine.handOver
  split
  · exact .commitRequest _ s
  · exact .refl s

theorem LineKept.checkpoint (s : State) : LineKept s (checkpoint s) := by
  unfold Machine.checkpoint
  split
  · exact (LineKept.of_frame (t := refreshRecord s) (by simp)).trans (.handOver _ _)
  · exact .refl s

theorem LineKept.closeCycle (s : State) : LineKept s (closeCycle s) := by
  unfold Machine.closeCycle
  exact LineKept.trans (.of_frame (by simp)) (.handOver .final _)

theorem LineKept.jobEnded (s : State) : LineKept s (jobEnded s) := by
  unfold Machine.jobEnded
  split
  · split
    · exact .closeCycle s
    · exact .checkpoint s
  · exact .refl s

theorem LineKept.closeIfAtRest (s : State) : LineKept s (closeIfAtRest s) := by
  unfold Machine.closeIfAtRest
  split
  · exact .closeCycle s
  · exact .refl s

theorem LineKept.ventExpired (c : CircuitId) (s : State) : LineKept s (ventExpired c s) := by
  unfold Machine.ventExpired
  split
  · exact (LineKept.of_frame (t := writeCircuit c (withCircuit c enterDone s)) (by simp)).trans (.jobEnded _)
  · exact .refl s

theorem LineKept.abortCycle (e : DevEvent) {stop : State → State} (s : State) (hstop : ∀ u, LineKept u (stop u)) :
    LineKept s (abortCycle e stop s) := by
  have hdev : LineKept s (takeDev e s) := .of_frame (by simp)
  have hleak (u : State) : LineKept u (setStation .aborting (abortLeak (abandonSweep u))) := .of_frame (by simp)
  exact ((hdev.trans (hstop _)).trans (hleak _)).trans (.closeIfAtRest _)

theorem LineKept.standAbort (input : Nat) (s : State) : LineKept s (standAbort input s) := by
  unfold Machine.standAbort
  split
  · exact .abortCycle _ s fun u => .of_frame (by simp)
  · exact .of_frame (by simp)
  · exact .refl s

theorem LineKept.abortTaken (broadcast : Bool) (s : State) : LineKept s (abortTaken broadcast s) := by
  unfold Machine.abortTaken
  split
  · exact .abortCycle _ s fun u => .of_frame (by simp)
  · exact .refl s

theorem LineKept.axleFall (which : AxleInput) (s : State) : LineKept s (axleFall which s) := by
  unfold Machine.axleFall
  split
  · split
    · exact .of_frame (by simp)
    · exact .standAbort _ s
  · exact .standAbort _ s

/-! ### RUN -/

theorem LineKept.enterSegment (i : Nat) (s : State) : LineKept s (enterSegment i s) :=
  .of_frame (by simp [Machine.enterSegment])

theorem LineKept.segmentEnd (s : State) : LineKept s (segmentEnd s) := by
  rw [segmentEnd_eq]
  split
  · exact (LineKept.of_frame (t := segmentCounted s) (by simp [segmentCounted])).trans (.enterSegment _ _)
  · exact .of_frame (by simp [segmentCounted])

theorem LineKept.takeOutcome (again : Bool) (s : State) : LineKept s (takeOutcome again s) := by
  unfold Machine.takeOutcome
  split
  · exact .enterSegment _ s
  · exact .segmentEnd s

theorem LineKept.moveTo (target rate : Nat) (s : State) : LineKept s (moveTo target rate s) := .of_frame (by simp)

theorem LineKept.moveStep (target rate : Nat) (s : State) : LineKept s (moveStep target rate s) := by
  have hm : LineKept s (Machine.moveTo target rate (clearTrack s)) := .of_frame (by simp)
  unfold Machine.moveStep
  dsimp only
  split
  · exact hm.trans (.segmentEnd _)
  · exact hm

theorem LineKept.dwellStep (g : Segment) (s : State) : LineKept s (dwellStep g s) := by
  have ht : LineKept s (trackDwell (withRun (fun r => { r with dwellMs := r.dwellMs + 20 }) s)) := .of_frame (by simp)
  unfold Machine.dwellStep
  dsimp only
  split
  · exact ht.trans (.segmentEnd _)
  · exact ht

theorem LineKept.noiseHanded (s : State) : LineKept s (noiseHanded s) := by
  obtain ⟨v, d, -, h⟩ := noiseHanded_eq s
  rw [h]
  exact .of_frame ⟨rfl, rfl, rfl, rfl, rfl⟩

theorem LineKept.sweepEnd (s : State) : LineKept s (sweepEnd s) := by
  have htold : LineKept s (lsnSweepEnded (setStage .assessing s)) := .of_frame (by simp)
  unfold Machine.sweepEnd
  by_cases hv : (lsnSweepEnded (setStage .assessing s)).vib.state = .idle
  · rw [assessSweep, if_pos hv]
    exact htold
  · rw [assessSweep_eq hv]
    exact ((htold.trans (.noiseHanded _)).trans (.takeOutcome _ _)).trans (.checkpoint _)

theorem LineKept.sweepStep (g : Segment) (s : State) : LineKept s (sweepStep g s) := by
  unfold Machine.sweepStep
  split
  · dsimp only
    split <;> exact .of_frame (by simp)
  · dsimp only
    split
    · exact (LineKept.moveTo _ _ s).trans (.sweepEnd _)
    · exact .moveTo _ _ s
  · exact .refl s
  · exact .refl s

theorem LineKept.actStep (s : State) : LineKept s (actStep s) := by
  have hc : LineKept s (clearTrack s) := .of_frame (by simp)
  unfold Machine.actStep
  split
  · exact .moveStep _ _ s
  · exact .moveStep _ _ s
  · split
    · exact .dwellStep _ s
    · exact hc.trans (.moveTo _ _ _)
  · exact hc.trans (.sweepStep _ _)

theorem LineKept.activeStep (s : State) : LineKept s (activeStep s) := by
  have hh : LineKept s (updateHolds s) := .of_frame (by simp)
  have hend (u : State) : LineKept u (stepEnded u) := .of_frame (by simp [stepEnded])
  unfold Machine.activeStep
  refine LineKept.trans ?_ (hend _)
  split
  · exact hh.trans (.actStep _)
  · exact hh.trans (.of_frame (by simp))

theorem LineKept.complete (s : State) : LineKept s (complete s) := by
  have hw : LineKept s (runComplete s) := .of_frame (by simp [runComplete])
  rw [complete_eq]
  exact (hw.trans (.jobEnded _)).trans (.of_frame (by simp))

theorem LineKept.stoppingStep (s : State) : LineKept s (stoppingStep s) := by
  unfold Machine.stoppingStep
  split
  · exact (LineKept.of_frame (t := clearTrack s) (by simp)).trans (.complete _)
  · exact .of_frame (by simp)

theorem LineKept.rampStep (s : State) : LineKept s (rampStep s) := by
  have hb : LineKept s (beginStep s) := .of_frame (by simp)
  unfold Machine.rampStep
  split
  · exact hb.trans (.activeStep _)
  · exact hb.trans (.activeStep _)
  · exact hb.trans (.stoppingStep _)
  · exact .refl s
  · exact .refl s

theorem LineKept.startCycle (programme : Nat) (serial stamp : List Byte) (s : State) :
    LineKept s (startCycle programme serial stamp s) := by
  have hready : LineKept s (startReady programme serial stamp s) := .of_frame (by simp [startReady])
  rw [startCycle_eq]
  exact (hready.trans (.enterSegment 0 _)).trans (.of_frame (by simp))

/-! ## The moves -/

/-- The receive buffer and the reply queue within their bounds, with room left for the answer of a read in hand. -/
def queuesKept (l : Lif) : Prop :=
  l.buffer.length ≤ 2 ∧ l.replies.length ≤ 4 ∧ (l.decoder.isReading = true → l.replies.length ≤ 3)

/-- One move of the line and of the peer table. -/
inductive LineMove : State → State → Prop
  /-- The jobs, CYC and STORE. -/
  | jobs {s t : State} (h : LineKept s t) : LineMove s t
  /-- The line interface alone. -/
  | line {s t : State} {l : Lif} (h : t = { s with lif := l }) (hq : queuesKept s.lif → queuesKept l) : LineMove s t
  /-- A running station enters a full posting of another one (R29). -/
  | entered (s : State) (station : Nat) (p : Posting) (hb : s.boot ≠ .held) (h1 : 1 ≤ station) (h16 : station ≤ 16)
      (hn : station ≠ s.cfg.number) : LineMove s (enterPosting station p s)
  /-- A repeat posting refreshes its station's entry (R30). -/
  | refreshed (s : State) (station : Nat) : LineMove s (repeatPosting station s)
  /-- The table ages (R31). -/
  | aged (s : State) : LineMove s (agePeers s)
  /-- A RESTART (R188). -/
  | restart (s : State) : LineMove s (takeRestart s)
  /-- The image is read (R193). -/
  | image (s : State) (bytes : List Byte) : LineMove s (imageRead bytes s)
  /-- A reset ends (R192). -/
  | release (s : State) (straps : BitVec 4) (low : Bool) (hb : s.boot = .held) : LineMove s (releaseReset straps low s)

/-- A sequence of moves. -/
abbrev LineMoves : State → State → Prop := Relation.ReflTransGen LineMove

theorem LineMoves.refl (s : State) : LineMoves s s := Relation.ReflTransGen.refl

theorem LineMoves.trans {s t u : State} (h : LineMoves s t) (h' : LineMoves t u) : LineMoves s u :=
  Relation.ReflTransGen.trans h h'

theorem LineMoves.move {s t : State} (h : LineMove s t) : LineMoves s t := Relation.ReflTransGen.single h

theorem LineMoves.of_kept {s t : State} (h : LineKept s t) : LineMoves s t := .move (.jobs h)

theorem LineMoves.of_frame {s t : State} (h : t.lif = s.lif ∧ t.cfg = s.cfg ∧ t.peer.table = s.peer.table
    ∧ t.lsn.contamination = s.lsn.contamination ∧ t.boot = s.boot) : LineMoves s t := .of_kept (.of_frame h)

/-- A change of the line interface that touches neither queue nor the decoder. -/
theorem LineMoves.of_lif {s t : State} {l : Lif} (h : t = { s with lif := l }) (hb : l.buffer = s.lif.buffer)
    (hr : l.replies = s.lif.replies) (hd : l.decoder = s.lif.decoder) : LineMoves s t :=
  .move (.line h fun hq => by simpa [queuesKept, hb, hr, hd] using hq)

theorem running_of_move {s t : State} (h : LineMove s t) (hb : s.boot ≠ .held) : t.boot ≠ .held := by
  cases h with
  | jobs h => exact fun ht => hb (h.held ht)
  | line h _ => rwa [h]
  | entered | refreshed | aged => simpa using hb
  | restart | image | release => exact fun ht => by cases ht

/-- No move but a reset's takes a station into reset. -/
theorem LineMoves.running {s t : State} (h : LineMoves s t) (hb : s.boot ≠ .held) : t.boot ≠ .held := by
  induction h with
  | refl => exact hb
  | tail _ hm ih => exact running_of_move hm ih

theorem LineMoves.popBuffer (s : State) : LineMoves s (popBuffer s) :=
  .move (.line rfl fun ⟨hb, hr⟩ => ⟨by simp; omega, hr⟩)

/-- A reply that the decoder, free, finds room for. -/
theorem LineMoves.reply {s t : State} (r : Reply) (h : LineKept s t) (hd : s.lif.decoder = .free)
    (hr : s.lif.replies.length < 4) : LineMoves s (queueReply r t) := by
  refine (LineMoves.of_kept h).trans (.move (.line rfl fun ⟨hb, _, _⟩ => ⟨hb, ?_, fun hc => ?_⟩))
  · simp [h.lif]
    omega
  · simp [h.lif, hd, Decoder.isReading] at hc

/-! ## Orders and postings as moves -/

section
variable {s : State} (hd : s.lif.decoder = .free) (hr : s.lif.replies.length < 4)
include hd hr

theorem LineMoves.answer (r : Reply) : LineMoves s (queueReply r s) := .reply r (.refl s) hd hr

theorem LineMoves.ownAbort (broadcast : Bool) : LineMoves s (ownAbort broadcast s) := by
  unfold Machine.ownAbort
  split
  · exact .of_kept (.abortTaken true s)
  · split
    · exact .answer hd hr _
    · exact .reply _ (.abortTaken false s) hd hr

theorem LineMoves.ownStart (body : List Byte) : LineMoves s (ownStart body s) := by
  unfold Machine.ownStart
  split
  · exact .answer hd hr _
  · exact .reply _ (.startCycle _ _ _ s) hd hr

theorem LineMoves.ownPhases (body : List Byte) : LineMoves s (ownPhases body s) := by
  unfold Machine.ownPhases
  split
  · exact .answer hd hr _
  · split
    · exact .reply _ (.of_frame (by simp)) hd hr
    · exact .answer hd hr _

theorem LineMoves.ownRead (order : Byte) (r : StoreRead) : LineMoves s (ownRead order r s) := by
  unfold Machine.ownRead
  split
  · exact .answer hd hr _
  · exact .move (.line rfl fun ⟨hb, _⟩ => ⟨hb, Nat.le_of_lt hr, fun _ => Nat.le_of_lt_succ hr⟩)

theorem LineMoves.ownRestart (broadcast : Bool) : LineMoves s (ownRestart broadcast s) := by
  unfold Machine.ownRestart
  split
  · split
    · exact .refl s
    · exact .answer hd hr _
  · split
    · exact .move (.restart s)
    · refine (LineMoves.answer hd hr _).trans (.move (.line rfl fun ⟨hb, hrep, _⟩ => ⟨hb, hrep, fun hc => ?_⟩))
      simp [Decoder.isReading] at hc

theorem LineMoves.ownOrder (broadcast : Bool) (order : Byte) (body : List Byte) :
    LineMoves s (ownOrder broadcast order body s) := by
  unfold Machine.ownOrder
  split
  · exact .ownAbort hd hr _
  split
  · exact .ownRead hd hr _ _
  split
  · exact .answer hd hr _
  split
  · exact .ownPhases hd hr _
  split
  · exact .ownRead hd hr _ _
  split
  · exact .ownRead hd hr _ _
  split
  · exact .ownRestart hd hr _
  · exact .ownStart hd hr _

end

/-- An order for all stations is never answered, and so needs no room (R180, step 1). -/
theorem LineMoves.ownOrder_broadcast {order : Byte} (hm : mayBroadcast order = true) (body : List Byte) (s : State) :
    LineMoves s (Machine.ownOrder true order body s) := by
  have hcode : order = codeAbort ∨ order = codeRestart := by simpa [mayBroadcast] using hm
  rcases hcode with rfl | rfl
  · exact .of_kept (.abortTaken true s)
  · show LineMoves s (Machine.ownRestart true s)
    unfold Machine.ownRestart
    split
    · exact .refl s
    · exact .move (.restart s)

theorem LineMoves.dropReply (s : State) :
    LineMoves s (withCounters (fun c => { c with repliesDropped := bump 65535 c.repliesDropped }) s) := .of_lif rfl rfl rfl rfl

theorem LineMoves.judgeOrder {s : State} (hd : s.lif.decoder = .free) (broadcast : Bool) (order : Byte) (body : List Byte) :
    LineMoves s (judgeOrder broadcast order body s) := by
  unfold Machine.judgeOrder
  split
  · exact .dropReply s
  next hdrop =>
    have hroom : s.lif.replies.length < 4 ∨ broadcast = true ∧ mayBroadcast order = true := by
      rw [Nat.lt_iff_add_one_le, or_iff_not_imp_left]
      simpa [dropsOrder] using hdrop
    rcases hroom with hr | ⟨rfl, hm⟩
    · split
      · exact .answer hd hr _
      split
      · exact .answer hd hr _
      split
      · split
        · exact .refl s
        · exact .answer hd hr _
      · exact .ownOrder hd hr _ _ _
    · have hn : namesOrder order = true := by
        rcases (by simpa [mayBroadcast] using hm : order = codeAbort ∨ order = codeRestart) with rfl | rfl <;> rfl
      rw [if_neg (by simp [hn]), if_neg (by simp [hm])]
      split
      · exact .refl s
      · exact .ownOrder_broadcast hm _ s

theorem LineMoves.takeOrder {s : State} (hd : s.lif.decoder = .free) (dest : Byte) (payload : List Byte) :
    LineMoves s (takeOrder dest payload s) := by
  unfold Machine.takeOrder
  split
  · split
    · exact .dropReply s
    next hdrop => exact .answer hd (by simpa [dropsOrder] using hdrop) _
  · exact .judgeOrder hd _ _ _

theorem LineMoves.takeFullPosting (own : Bool) (source : Nat) (payload : List Byte) {s : State} (hb : s.boot ≠ .held) :
    LineMoves s (takeFullPosting own source payload s) := by
  unfold Machine.takeFullPosting
  split
  · exact .refl s
  next hrange =>
    split
    · split
      · exact .refl s
      · exact .of_frame (by simp)
    next hn =>
      split
      · exact .move (.entered s source _ hb (by omega) (by omega) hn)
      · exact .refl s

theorem LineMoves.takeRepeatPosting (own : Bool) (station : Nat) (s : State) :
    LineMoves s (takeRepeatPosting own station s) := by
  unfold Machine.takeRepeatPosting
  split
  · exact .refl s
  · split
    · split
      · exact .refl s
      · exact .of_frame (by simp)
    · exact .move (.refreshed s station)

theorem LineMoves.drain (n : Nat) {s : State} (hb : s.boot ≠ .held) : LineMoves s (drain n s) := by
  induction n generalizing s with
  | zero => exact .refl s
  | succ n ih =>
    have hpop := LineMoves.popBuffer s
    have hnext {u : State} (hu : LineMoves (Machine.popBuffer s) u) : LineMoves s (Machine.drain n u) :=
      (hpop.trans hu).trans (ih ((hpop.trans hu).running hb))
    unfold Machine.drain
    split
    · exact .refl s
    · exact hnext (.takeRepeatPosting _ _ _)
    · split
      · split
        next hd => exact hnext (.takeOrder (s := Machine.popBuffer s) hd _ _)
        · exact .refl s
      · exact hnext (.takeFullPosting _ _ _ (hpop.running hb))

theorem LineMoves.receive (f : Frame) (own : Bool) {s : State} (hb : s.boot ≠ .held) : LineMoves s (receive f own s) := by
  unfold Machine.receive
  split
  · split
    · exact .of_lif rfl rfl rfl rfl
    next hroom =>
      refine LineMoves.trans (.move (.line (t := withLif _ s) rfl fun ⟨_, hr⟩ => ⟨?_, hr⟩)) (.drain _ hb)
      simp
      omega
  · exact .refl s

theorem LineMoves.seeInputs (s : State) : LineMoves s (seeInputs s) := .of_frame (by simp)

theorem LineMoves.serveRead {s : State} (hb : s.boot ≠ .held) : LineMoves s (serveRead s) := by
  cases hd : s.lif.decoder with
  | free => unfold Machine.serveRead; rw [hd]
  | restarting => unfold Machine.serveRead; rw [hd]
  | reading r =>
    obtain ⟨answer, h⟩ := serveRead_reading hd
    have hserved : LineMoves s (withLif (fun l => { l with decoder := .free }) (queueReply answer s)) := by
      refine .move (.line rfl fun ⟨hbuf, _, hroom⟩ => ⟨hbuf, ?_, fun hc => ?_⟩)
      · simpa using Nat.lt_succ_of_le (hroom (by rw [hd]; rfl))
      · simp [Decoder.isReading] at hc
    rw [h, readServed]
    split
    · exact hserved
    · exact (hserved.trans (.seeInputs _)).trans (.drain _ hb)

theorem LineMoves.setClassifier (c : Classifier) (s : State) : LineMoves s (setClassifier c s) := .of_lif rfl rfl rfl rfl

theorem LineMoves.frameEnded {s : State} (hb : s.boot ≠ .held) : LineMoves s (frameEnded s) := by
  unfold Machine.frameEnded
  split
  · split
    · split
      · exact ((LineMoves.setClassifier _ s).trans (.seeInputs _)).trans (.receive _ _ hb)
      · exact .of_lif rfl rfl rfl rfl
    · exact .of_lif rfl rfl rfl rfl
  · exact .refl s

theorem LineMoves.takePulse (c : PulseClass) (s : State) : LineMoves s (takePulse c s) := by
  unfold Machine.takePulse
  split
  · exact .refl s
  · refine LineMoves.trans (t := setBusIdle false s) (.of_lif rfl rfl rfl rfl) ?_
    unfold classifyPulse bitTaken
    (repeat' split) <;> exact .of_lif rfl rfl rfl rfl

theorem LineMoves.busIdle (s : State) : LineMoves s (busIdle s) := by
  unfold Machine.busIdle
  split
  · exact .refl s
  all_goals exact .of_lif rfl rfl rfl rfl

/-! ## The own transmitter as moves -/

theorem LineMoves.withTx (t : Tx) (s : State) : LineMoves s (withTx t s) := .of_lif rfl rfl rfl rfl

theorem LineMoves.leaveIdle (s : State) : LineMoves s (leaveIdle s) := by
  rcases leaveIdle_cases s with h | ⟨c, -, -, h⟩
  · rw [h]
  · rw [h]
    exact .withTx _ s

theorem LineMoves.attempt (s : State) : LineMoves s (attempt s) := by
  unfold Machine.attempt
  split
  · split
    · exact .of_lif rfl rfl rfl rfl
    · exact .withTx _ s
  · exact .refl s

theorem LineMoves.sendFrame (c : TxChoice) (f : Frame) (s : State) : LineMoves s (sendFrame c f s) := .of_lif rfl rfl rfl rfl

theorem LineMoves.withPeer (f : Peer → Peer) (s : State) (h : (f s.peer).table = s.peer.table) :
    LineMoves s (withPeer f s) := .of_frame ⟨rfl, rfl, h, rfl, rfl⟩

theorem LineMoves.won (s : State) : LineMoves s (won s) := by
  unfold Machine.won
  split
  · split
    · split
      · exact .sendFrame _ _ s
      · exact .refl s
    · exact LineMoves.trans (.withPeer _ s (by rfl)) (.sendFrame _ _ _)
    · exact LineMoves.trans (.withPeer _ s (by rfl)) (.sendFrame _ _ _)
    · exact .refl s
  · exact .refl s

theorem LineMoves.lost (s : State) : LineMoves s (lost s) := by
  unfold Machine.lost
  split
  · exact .of_lif rfl rfl rfl rfl
  · exact .refl s

theorem LineMoves.chooseAgain (s : State) : LineMoves s (chooseAgain s) := by
  unfold Machine.chooseAgain
  split <;> exact .withTx _ s

theorem LineMoves.sent (s : State) : LineMoves s (sent s) := by
  unfold Machine.sent
  split
  · split
    · unfold replySent
      split
      next r rest hq =>
        split
        · exact (LineMoves.seeInputs s).trans (.move (.restart _))
        · refine LineMoves.trans (.move (.line (t := withLif _ s) rfl fun ⟨hb, hr, hread⟩ => ⟨hb, ?_, fun hc => ?_⟩)) (.chooseAgain _)
          · rw [hq, List.length_cons] at hr
            exact Nat.le_of_succ_le hr
          · rw [hq, List.length_cons] at hread
            exact Nat.le_of_succ_le (hread hc)
      · exact .chooseAgain s
    · exact LineMoves.trans (.withPeer _ s (by rfl)) (.chooseAgain _)
    · exact LineMoves.trans (.withPeer _ s (by rfl)) (.chooseAgain _)
    · exact .chooseAgain s
  · exact .refl s

end Sys2Proof.Machine
end

section
/-! SUPPORT. The laws of the line's queues (O53) and of the peer table (O55), kept by every move and so by every step. -/
namespace Sys2Proof.Machine

/-! ## Every command as moves -/

/-- A command that a running station takes; one held in reset sees the input levels alone. -/
theorem LineMoves.ofReleased {f : State → State} {s t : State} {p : Pins}
    (h : whenReleased f { s with pins := p } = .next t) (hf : ∀ u, u.boot ≠ .held → LineMoves u (f u)) : LineMoves s t := by
  have hp : LineMoves s { s with pins := p } := .of_frame ⟨rfl, rfl, rfl, rfl, rfl⟩
  rcases whenReleased_cases f { s with pins := p } with ⟨_, hs⟩ | ⟨hb, hs⟩
  · obtain rfl := Host.Outcome.next.inj (hs.symm.trans h)
    exact hp
  · obtain rfl := Host.Outcome.next.inj (hs.symm.trans h)
    exact (hp.trans (hf _ hb)).trans (.leaveIdle _)

@[simp] theorem lsnExpiry_contamination (s : State) : (lsnExpiry s).lsn.contamination = s.lsn.contamination := by
  unfold lsnExpiry
  split
  · rfl
  · dsimp only
    split
    · split <;> simp
    · unfold settleStep
      dsimp only
      split <;> simp
    · simp
    · simp

@[simp] theorem forceListening_contamination (s : State) : (forceListening s).lsn.contamination = s.lsn.contamination := by
  unfold forceListening
  split <;> simp

theorem LineMoves.periodExpiry (a b : Bool) (s : State) : LineMoves s (periodExpiry a b s) := by
  have hdue : LineMoves s (clearDuplicate (periodDue s)) := .of_frame (by simp)
  have hlsn (u : State) : LineMoves u (lsnExpiry u) := .of_frame (by simp)
  have hleak (u : State) : LineMoves u (leakExpiry u) := .of_frame (by simp [leakExpiry])
  have hage (u : State) : LineMoves u (agePeers u) := .move (.aged u)
  unfold Machine.periodExpiry expiryReaders
  split
  · exact ((hdue.trans (hage _)).trans (hlsn _)).trans (hleak _)
  · exact ((hdue.trans (hleak _)).trans (hage _)).trans (hlsn _)
  · exact ((hdue.trans (hlsn _)).trans (hage _)).trans (hleak _)
  · exact ((hdue.trans (hlsn _)).trans (hleak _)).trans (hage _)

theorem exec_lineMoves {c : Instr} {s t : State} (hc : ∀ k, c ≠ .reset k) (h : exec c s = .next t) : LineMoves s t := by
  cases c with
  | abort dest body => exact .ofReleased (p := s.pins) h fun u hb => .receive _ _ hb
  | find dest body => exact .ofReleased (p := s.pins) h fun u hb => .receive _ _ hb
  | item dest body => exact .ofReleased (p := s.pins) h fun u hb => .receive _ _ hb
  | phases dest body => exact .ofReleased (p := s.pins) h fun u hb => .receive _ _ hb
  | rdnew dest body => exact .ofReleased (p := s.pins) h fun u hb => .receive _ _ hb
  | rdseq dest body => exact .ofReleased (p := s.pins) h fun u hb => .receive _ _ hb
  | restart straps dest body => exact .ofReleased h fun u hb => .receive _ _ hb
  | start lines dest body => exact .ofReleased h fun u hb => .receive _ _ hb
  | storeReadServed => exact .ofReleased (p := s.pins) h fun u hb => .serveRead hb
  | fullPostingReceived event own source payload => exact .ofReleased (p := s.pins) h fun u hb => .receive _ _ hb
  | repeatPostingReceived own station => exact .ofReleased (p := s.pins) h fun u hb => .receive _ _ hb
  | frameEnd => exact .ofReleased (p := s.pins) h fun u hb => .frameEnded hb
  | pulseError ns => exact .ofReleased (p := s.pins) h fun u _ => .takePulse _ u
  | lineStuck =>
    unfold exec execLineStuck at h
    refine .ofReleased (p := s.pins) h fun u _ => ?_
    split
    · exact .refl u
    · exact .of_lif rfl rfl rfl rfl
  | transmitAttempt => exact .ofReleased (p := s.pins) h fun u _ => .attempt u
  | arbitrationWon => exact .ofReleased (p := s.pins) h fun u _ => .won u
  | arbitrationLost => exact .ofReleased (p := s.pins) h fun u _ => .lost u
  | frameSent => exact .ofReleased (p := s.pins) h fun u _ => .sent u
  | restartTimeout =>
    unfold exec execRestartTimeout at h
    refine .ofReleased (p := s.pins) h fun u _ => ?_
    split
    · exact (LineMoves.seeInputs u).trans (.move (.restart _))
    · exact .refl u
  | postingPeriodExpiry a b => exact .ofReleased (p := s.pins) h fun u _ => .periodExpiry a b u
  | rampStep => exact .ofReleased (p := s.pins) h fun u _ => .of_kept (.rampStep u)
  | indexPulse us =>
    unfold exec execIndexPulse at h
    exact .ofReleased (p := s.pins) h fun u _ => .of_frame ⟨rfl, rfl, rfl, rfl, rfl⟩
  | indexTimeout =>
    unfold exec execIndexTimeout at h
    exact .ofReleased (p := s.pins) h fun u _ => .of_frame ⟨rfl, rfl, rfl, rfl, rfl⟩
  | countingPulse =>
    unfold exec execCountingPulse at h
    refine .ofReleased (p := s.pins) h fun u _ => ?_
    split <;> exact .of_frame ⟨rfl, rfl, rfl, rfl, rfl⟩
  | conversionComplete code =>
    unfold exec execConversionComplete at h
    refine .ofReleased (p := s.pins) h fun u _ => ?_
    split <;> exact .of_frame ⟨rfl, rfl, rfl, rfl, rfl⟩
  | phaseBoundary => exact .ofReleased (p := s.pins) h fun u _ => .of_frame (by simp)
  | slowConversionComplete code => exact .ofReleased (p := s.pins) h fun u _ => .of_frame (by simp)
  | oilHistoryAppend =>
    unfold exec execOilHistoryAppend at h
    refine .ofReleased (p := s.pins) h fun u _ => .of_frame ?_
    split <;> simp
  | deferralLimit => exact .ofReleased (p := s.pins) h fun u _ => .of_frame (by simp)
  | airWaitLimit c => exact .ofReleased (p := s.pins) h fun u _ => .of_frame (by simp)
  | fillTimerExpiry c => exact .ofReleased (p := s.pins) h fun u _ => .of_frame (by simp)
  | stabiliseTimerExpiry c => exact .ofReleased (p := s.pins) h fun u _ => .of_frame (by simp)
  | measureTimerExpiry c => exact .ofReleased (p := s.pins) h fun u _ => .of_frame (by simp)
  | ventTimerExpiry c => exact .ofReleased (p := s.pins) h fun u _ => .of_kept (.ventExpired c u)
  | swapStepDone verified =>
    unfold exec execSwapStepDone at h
    refine .ofReleased (p := s.pins) h fun u _ => .of_kept ?_
    split
    · split
      · split
        · exact .of_frame (by simp)
        · exact .refl u
      · exact .verifyFailure _ u
    · exact .refl u
  | swapEnd =>
    unfold exec execSwapEnd at h
    refine .ofReleased (p := s.pins) h fun u _ => .of_kept ?_
    split
    · split
      · exact .endSwap _ u
      · exact .refl u
    · exact .refl u
  | driveReadyFall => exact .ofReleased h fun u _ => .of_frame (by simp)
  | standStopOpen => exact .ofReleased h fun u _ => .of_kept (.standAbort 1 u)
  | axleInputFall which => exact .ofReleased h fun u _ => .of_kept (.axleFall which u)
  | supplyWarningRaised => exact .ofReleased h fun u _ => .of_kept (.setWarning true u)
  | supplyWarningCleared =>
    unfold exec execSupplyWarningCleared at h
    exact .ofReleased h fun u _ => .of_kept ((LineKept.setWarning false u).trans (.heldSwap _))
  | reset kind => exact absurd rfl (hc kind)
  | resetRelease straps supplyLow =>
    unfold exec execResetRelease at h
    dsimp only at h
    split at h
    next hb =>
      obtain rfl := Host.Outcome.next.inj h
      exact (LineMoves.move (.release s straps supplyLow hb)).trans (.leaveIdle _)
    · obtain rfl := Host.Outcome.next.inj h
      exact .refl s
  | imageReadDone image =>
    unfold exec execImageReadDone at h
    refine .ofReleased (p := s.pins) h fun u _ => ?_
    split
    · exact .move (.image u image)
    · exact .refl u
  | storeScanDone =>
    unfold exec execStoreScanDone at h
    refine .ofReleased (p := s.pins) h fun u _ => .of_kept ?_
    split
    · exact .scanDone u
    · exact .refl u
  | busIdle => exact .ofReleased (p := s.pins) h fun u _ => .busIdle u
  | startPulse ns => exact .ofReleased (p := s.pins) h fun u _ => .takePulse _ u
  | bitPulse ns => exact .ofReleased (p := s.pins) h fun u _ => .takePulse _ u

/-! ## The queues and the transmitter (R25, R179, R181) -/

/-- A transmitter in IDLE has nothing to send. -/
def idleEmpty (s : State) : Prop :=
  s.lif.tx.state = .idle → s.lif.replies = [] ∧ s.peer.latch = false ∧ s.peer.due = false

theorem lineLaw_iff (s : State) : lineLaw s ↔ queuesKept s.lif ∧ idleEmpty s := by
  simp [queuesKept, idleEmpty, and_assoc]

theorem chooseTx_eq_none (s : State) :
    chooseTx s = none ↔ s.lif.replies = [] ∧ s.peer.latch = false ∧ s.peer.due = false := by
  unfold chooseTx
  split
  next h => simp [h]
  next h =>
    split
    next hl => simp [hl]
    next hl =>
      split
      next hd => simp [hd]
      next hd => simp_all

/-- However an event ends, an idle transmitter with something to send has left IDLE. -/
theorem idleEmpty_leaveIdle (s : State) : idleEmpty (leaveIdle s) := by
  intro h
  rcases leaveIdle_cases s with hs | ⟨c, -, -, hs⟩
  · rw [hs] at h ⊢
    refine (chooseTx_eq_none s).mp ?_
    by_contra hc
    obtain ⟨c, hc⟩ := Option.ne_none_iff_exists'.mp hc
    have htx := congrArg (fun u => u.lif.tx.state) hs
    simp [leaveIdle, h, hc] at htx
  · rw [hs] at h
    cases h

/-- Every command but the two of the reset logic is taken by a running station alone, which may see input levels first. -/
theorem exec_released (c : Instr) (s : State) : (∃ f p, exec c s = whenReleased f { s with pins := p })
    ∨ (∃ k, c = .reset k) ∨ ∃ straps low, c = .resetRelease straps low := by
  cases c with
  | reset kind => exact .inr (.inl ⟨kind, rfl⟩)
  | resetRelease straps low => exact .inr (.inr ⟨straps, low, rfl⟩)
  | lineStuck => exact .inl ⟨_, s.pins, by unfold exec execLineStuck; rfl⟩
  | indexPulse us => exact .inl ⟨_, s.pins, by unfold exec execIndexPulse; rfl⟩
  | indexTimeout => exact .inl ⟨_, s.pins, by unfold exec execIndexTimeout; rfl⟩
  | countingPulse => exact .inl ⟨_, s.pins, by unfold exec execCountingPulse; rfl⟩
  | conversionComplete code => exact .inl ⟨_, s.pins, by unfold exec execConversionComplete; rfl⟩
  | swapStepDone verified => exact .inl ⟨_, s.pins, by unfold exec execSwapStepDone; rfl⟩
  | swapEnd => exact .inl ⟨_, s.pins, by unfold exec execSwapEnd; rfl⟩
  | supplyWarningCleared => exact .inl ⟨_, _, by unfold exec execSupplyWarningCleared; rfl⟩
  | _ => exact .inl ⟨_, _, rfl⟩

/-- What every command ends with: the input levels seen, the choice of an idle transmitter, or a reset held. -/
theorem exec_ends {c : Instr} {s t : State} (h : exec c s = .next t) :
    (∃ p, t = { s with pins := p }) ∨ (∃ u, t = leaveIdle u) ∨ ∃ k, t = holdReset k s := by
  rcases exec_released c s with ⟨f, p, he⟩ | ⟨k, rfl⟩ | ⟨straps, low, rfl⟩
  · rcases whenReleased_cases f { s with pins := p } with ⟨_, hs⟩ | ⟨_, hs⟩
    · exact .inl ⟨p, Host.Outcome.next.inj (h.symm.trans (he.trans hs))⟩
    · exact .inr (.inl ⟨_, Host.Outcome.next.inj (h.symm.trans (he.trans hs))⟩)
  · exact .inr (.inr ⟨k, (Host.Outcome.next.inj h).symm⟩)
  · unfold exec execResetRelease at h
    dsimp only at h
    split at h
    · exact .inr (.inl ⟨_, (Host.Outcome.next.inj h).symm⟩)
    · exact .inl ⟨s.pins, (Host.Outcome.next.inj h).symm⟩

theorem idleEmpty_exec {c : Instr} {s t : State} (h : exec c s = .next t) (hs : idleEmpty s) : idleEmpty t := by
  rcases exec_ends h with ⟨p, rfl⟩ | ⟨u, rfl⟩ | ⟨k, rfl⟩
  · exact hs
  · exact idleEmpty_leaveIdle u
  · unfold holdReset
    split
    · exact hs
    · exact fun _ => ⟨rfl, rfl, rfl⟩

theorem queuesKept_lifReset (c : Classifier) : queuesKept { lifReset with classifier := c } :=
  ⟨Nat.zero_le _, Nat.zero_le _, fun _ => Nat.zero_le _⟩

theorem beginStarting_lif (s : State) : (beginStarting s).lif = { s.lif with classifier := .waitIdle false } := by
  unfold beginStarting
  dsimp only
  split <;> rfl

theorem queuesKept_of_move {s t : State} (h : LineMove s t) (hs : queuesKept s.lif) : queuesKept t.lif := by
  cases h with
  | jobs h => rwa [h.lif]
  | line h hq => rw [h]; exact hq hs
  | entered station p hb => exact hs
  | refreshed station => exact hs
  | aged => exact hs
  | restart =>
    show queuesKept (beginStarting _).lif
    rw [beginStarting_lif]
    exact queuesKept_lifReset _
  | image bytes => exact hs
  | release straps low =>
    show queuesKept (beginStarting _).lif
    rw [beginStarting_lif]
    exact hs

theorem queuesKept_of_moves {s t : State} (h : LineMoves s t) (hs : queuesKept s.lif) : queuesKept t.lif := by
  induction h with
  | refl => exact hs
  | tail _ hm ih => exact queuesKept_of_move hm ih

theorem queuesKept_holdReset (k : HardReset) {s : State} (hs : queuesKept s.lif) : queuesKept (holdReset k s).lif := by
  unfold holdReset
  split
  · exact hs
  · exact queuesKept_lifReset .stopped

/-- What every command but a reset keeps, and a reset too, every command keeps. -/
theorem exec_keeps {P : State → Prop} {c : Instr} {s t : State} (h : exec c s = .next t)
    (hmoves : LineMoves s t → P t) (hhold : ∀ k, P (holdReset k s)) : P t := by
  by_cases hc : ∃ k, c = .reset k
  · obtain ⟨k, rfl⟩ := hc
    obtain rfl := Host.Outcome.next.inj h
    exact hhold k
  · exact hmoves (exec_lineMoves (fun k hk => hc ⟨k, hk⟩) h)

theorem lineLaw_exec {c : Instr} {s t : State} (h : exec c s = .next t) (hs : lineLaw s) : lineLaw t := by
  rw [lineLaw_iff] at hs ⊢
  refine ⟨?_, idleEmpty_exec h hs.2⟩
  exact exec_keeps (P := fun u => queuesKept u.lif) h (queuesKept_of_moves · hs.1) fun k => queuesKept_holdReset k hs.1

theorem lineLaw_tick {s : State} (hs : lineLaw s) : lineLaw (tick s) := by
  unfold tick
  (repeat' split) <;> exact hs

/-- All that a step can do: the command at the front is run, or a quarter of a millisecond passes. -/
theorem step_cases {s t : State} (h : step s = .next t) :
    (∃ c rest, s.pending = c :: rest ∧ exec c { s with pending := rest } = .next t) ∨ t = tick s := by
  unfold step at h
  split at h
  next c rest hq => exact .inl ⟨c, rest, hq, h⟩
  · exact .inr (Host.Outcome.next.inj h).symm

/-- Settles O53: the bounds move by move, and the idle transmitter by how every command ends. -/
theorem stepsKeepTheQueuesBounded : Obligations.StepsKeepTheQueuesBounded := by
  intro s t hs h
  rcases step_cases h with ⟨c, rest, -, hc⟩ | rfl
  · exact lineLaw_exec hc hs
  · exact lineLaw_tick hs

/-! ## The peer table (R29 to R31) -/

theorem mem_putEntry {e x : PeerEntry} {l : List PeerEntry} (h : x ∈ putEntry e l) : x = e ∨ x ∈ l := by
  induction l with
  | nil => simpa [putEntry] using h
  | cons y l ih =>
    unfold putEntry at h
    split at h
    · rcases List.mem_cons.mp h with rfl | h
      · simp
      · rcases ih h with rfl | h <;> simp [*]
    · split at h
      · rcases List.mem_cons.mp h with rfl | h <;> simp [*]
      · exact List.mem_cons.mp h

theorem pairwise_putEntry (e : PeerEntry) {l : List PeerEntry} (h : l.Pairwise (fun x y => x.station < y.station)) :
    (putEntry e l).Pairwise (fun x y => x.station < y.station) := by
  induction l with
  | nil => simp [putEntry]
  | cons y l ih =>
    obtain ⟨hy, hl⟩ := List.pairwise_cons.mp h
    unfold putEntry
    split
    next hlt =>
      refine List.pairwise_cons.mpr ⟨fun x hx => ?_, ih hl⟩
      rcases mem_putEntry hx with rfl | hx
      · exact hlt
      · exact hy x hx
    next hge =>
      split
      next heq => exact List.pairwise_cons.mpr ⟨fun x hx => heq ▸ hy x hx, hl⟩
      next hne =>
        refine List.pairwise_cons.mpr ⟨fun x hx => ?_, h⟩
        rcases List.mem_cons.mp hx with rfl | hx
        · omega
        · have := hy x hx
          omega

/-- Of the stations 1 to 16 but the own, a table in order of station number holds each once at most. -/
theorem length_le_of_stations {n : Nat} {l : List PeerEntry} (h1 : 1 ≤ n) (h16 : n ≤ 16)
    (h : l.Pairwise (fun x y => x.station < y.station))
    (hl : ∀ e ∈ l, 1 ≤ e.station ∧ e.station ≤ 16 ∧ e.station ≠ n ∧ e.age ≤ 7) : l.length ≤ 15 := by
  have hnodup : (l.map PeerEntry.station).Nodup :=
    List.pairwise_map.mpr (h.imp fun hlt => Nat.ne_of_lt hlt)
  have hsub : (l.map PeerEntry.station).toFinset ⊆ (Finset.Icc 1 16).erase n := by
    intro m hm
    obtain ⟨e, he, rfl⟩ := List.mem_map.mp (List.mem_toFinset.mp hm)
    obtain ⟨hlow, hhigh, hne, -⟩ := hl e he
    exact Finset.mem_erase.mpr ⟨hne, Finset.mem_Icc.mpr ⟨hlow, hhigh⟩⟩
  have hcard := Finset.card_le_card hsub
  rw [List.toFinset_card_of_nodup hnodup, List.length_map,
    Finset.card_erase_of_mem (Finset.mem_Icc.mpr ⟨h1, h16⟩)] at hcard
  simpa using hcard

/-- The table's law, but for what holds it empty in reset. -/
structure tableSound (number : Nat) (l : List PeerEntry) : Prop where
  ordered : l.Pairwise (fun e f => e.station < f.station)
  ranged : ∀ e ∈ l, 1 ≤ e.station ∧ e.station ≤ 16 ∧ e.station ≠ number ∧ e.age ≤ 7

theorem tableSound_putEntry {number : Nat} {e : PeerEntry} {l : List PeerEntry} (h : tableSound number l)
    (he : 1 ≤ e.station ∧ e.station ≤ 16 ∧ e.station ≠ number ∧ e.age ≤ 7) : tableSound number (putEntry e l) := by
  refine ⟨pairwise_putEntry e h.ordered, fun x hx => ?_⟩
  rcases mem_putEntry hx with rfl | hx
  · exact he
  · exact h.ranged x hx

theorem refreshEntry_station (station ms : Nat) (e : PeerEntry) : (refreshEntry station ms e).station = e.station := by
  unfold refreshEntry
  split <;> rfl

theorem refreshEntry_post (station ms : Nat) (e : PeerEntry) : (refreshEntry station ms e).post = e.post := by
  unfold refreshEntry
  split <;> rfl

theorem tableSound_refreshed {number : Nat} {l : List PeerEntry} (station ms : Nat) (h : tableSound number l) :
    tableSound number (l.map (refreshEntry station ms)) := by
  refine ⟨List.pairwise_map.mpr (h.ordered.imp fun hlt => ?_), fun x hx => ?_⟩
  · rwa [refreshEntry_station, refreshEntry_station]
  · obtain ⟨e, he, rfl⟩ := List.mem_map.mp hx
    obtain ⟨h1, h16, hn, hage⟩ := h.ranged e he
    rw [refreshEntry_station]
    refine ⟨h1, h16, hn, ?_⟩
    unfold refreshEntry
    split
    · exact Nat.zero_le _
    · exact hage

theorem tableSound_ageTable {number : Nat} {l : List PeerEntry} (h : tableSound number l) : tableSound number (ageTable l) := by
  have hmap : (l.map (fun e => { e with age := e.age + 1 })).Pairwise (fun e f => e.station < f.station) :=
    List.pairwise_map.mpr h.ordered
  refine ⟨hmap.filter _, fun x hx => ?_⟩
  obtain ⟨hm, hage⟩ := List.mem_filter.mp hx
  obtain ⟨e, he, rfl⟩ := List.mem_map.mp hm
  obtain ⟨h1, h16, hn, -⟩ := h.ranged e he
  exact ⟨h1, h16, hn, Nat.le_of_lt_succ (of_decide_eq_true hage)⟩

theorem peerLaw_iff (s : State) : peerLaw s ↔
    1 ≤ s.cfg.number ∧ s.cfg.number ≤ 16 ∧ tableSound s.cfg.number s.peer.table ∧ (s.boot = .held → s.peer.table = []) := by
  constructor
  · rintro ⟨h1, h16, hord, hrange, -, hheld⟩
    exact ⟨h1, h16, ⟨hord, hrange⟩, hheld⟩
  · rintro ⟨h1, h16, ⟨hord, hrange⟩, hheld⟩
    exact ⟨h1, h16, hord, hrange, length_le_of_stations h1 h16 hord hrange, hheld⟩

/-! ## The contamination condition (R64) -/

theorem contaminationOf_congr {s t : State} (hc : t.cfg = s.cfg) (ht : t.peer.table = s.peer.table) :
    contaminationOf t = contaminationOf s := by
  rw [contaminationOf, contaminationOf, acousticPeers, acousticPeers, hc, ht]

theorem contaminationOf_empty {s : State} (h : s.peer.table = []) : contaminationOf s = false := by
  simp [contaminationOf, acousticPeers, h]

theorem contaminationLaw_derived (s : State) : contaminationLaw (deriveContamination s) := rfl

/-- Whom an entry is of and what it posts stands in a refresh, and with it the condition. -/
theorem contaminationOf_repeatPosting (station : Nat) (s : State) :
    contaminationOf (repeatPosting station s) = contaminationOf s := by
  simp [contaminationOf, acousticPeers, repeatPosting, withPeer, List.filter_map, Function.comp_def, refreshEntry_station,
    refreshEntry_post]

/-! ## Kept by every move -/

theorem beginStarting_peers (s : State) : (beginStarting s).peer.table = s.peer.table
    ∧ (beginStarting s).cfg = { s.cfg with number := s.pins.straps.toNat + 1 } ∧ (beginStarting s).lsn = s.lsn := by
  unfold beginStarting
  dsimp only
  split <;> exact ⟨rfl, rfl, rfl⟩

/-- With an empty table the straps may name any station. -/
theorem peers_of_empty {s : State} (ht : s.peer.table = []) (h1 : 1 ≤ s.cfg.number) (h16 : s.cfg.number ≤ 16)
    (hl : s.lsn.contamination = false) : peerLaw s ∧ contaminationLaw s := by
  refine ⟨(peerLaw_iff s).mpr ⟨h1, h16, ?_, fun _ => ht⟩, hl.trans (contaminationOf_empty ht).symm⟩
  rw [ht]
  exact ⟨List.Pairwise.nil, fun _ h => by cases h⟩

theorem peers_beginStarting {s : State} (boot : Boot) (ht : s.peer.table = []) (hl : s.lsn.contamination = false) :
    peerLaw { beginStarting s with boot := boot } ∧ contaminationLaw { beginStarting s with boot := boot } := by
  obtain ⟨htable, hcfg, hlsn⟩ := beginStarting_peers s
  have hstraps := s.pins.straps.isLt
  refine peers_of_empty (htable.trans ht) ?_ ?_ ?_
  · simp [hcfg]
  · simp [hcfg]
    omega
  · exact (congrArg Lsn.contamination hlsn).trans hl

theorem peers_of_move {s t : State} (h : LineMove s t) (hp : peerLaw s) (hc : contaminationLaw s) :
    peerLaw t ∧ contaminationLaw t := by
  obtain ⟨h1, h16, hsound, hheld⟩ := (peerLaw_iff s).mp hp
  cases h with
  | jobs h =>
    refine ⟨(peerLaw_iff t).mpr ?_, ?_⟩
    · rw [h.cfg, h.table]
      exact ⟨h1, h16, hsound, fun hb => hheld (h.held hb)⟩
    · rw [contaminationLaw, h.contamination, contaminationOf_congr h.cfg h.table]
      exact hc
  | line h hq => subst h; exact ⟨hp, hc⟩
  | entered station p hb hlow hhigh hn =>
    have hput := tableSound_putEntry hsound (e := ⟨station, p, 0, s.clock.ms⟩) ⟨hlow, hhigh, hn, Nat.zero_le _⟩
    refine ⟨(peerLaw_iff _).mpr ⟨h1, h16, hput, fun ht => absurd ht hb⟩, contaminationLaw_derived _⟩
  | refreshed station =>
    refine ⟨(peerLaw_iff _).mpr ⟨h1, h16, tableSound_refreshed station s.clock.ms hsound, fun hb => ?_⟩, ?_⟩
    · exact List.map_eq_nil_iff.mpr (hheld hb)
    · rw [contaminationLaw, contaminationOf_repeatPosting]
      exact hc
  | aged =>
    refine ⟨(peerLaw_iff _).mpr ⟨h1, h16, tableSound_ageTable hsound, fun hb => ?_⟩, contaminationLaw_derived _⟩
    show ageTable s.peer.table = []
    rw [hheld hb]
    rfl
  | restart => exact peers_beginStarting .scan rfl rfl
  | image bytes =>
    have hnumber : (imageRead bytes s).cfg.number = s.cfg.number := by
      show (cfgOfImage s.cfg.number bytes).number = s.cfg.number
      unfold cfgOfImage
      split <;> rfl
    refine ⟨(peerLaw_iff _).mpr ?_, rfl⟩
    rw [hnumber]
    exact ⟨h1, h16, hsound, fun hb => by cases hb⟩
  | release straps low hb =>
    refine peers_beginStarting .readImage (hheld hb) ?_
    rw [show s.lsn.contamination = contaminationOf s from hc, contaminationOf_empty (hheld hb)]

theorem peers_of_moves {s t : State} (h : LineMoves s t) (hp : peerLaw s) (hc : contaminationLaw s) :
    peerLaw t ∧ contaminationLaw t := by
  induction h with
  | refl => exact ⟨hp, hc⟩
  | tail _ hm ih => exact peers_of_move hm ih.1 ih.2

theorem peers_holdReset (k : HardReset) {s : State} (hp : peerLaw s) (hc : contaminationLaw s) :
    peerLaw (holdReset k s) ∧ contaminationLaw (holdReset k s) := by
  unfold holdReset
  split
  · exact ⟨hp, hc⟩
  · exact peers_of_empty rfl hp.1 hp.2.1 rfl

theorem tickLsn_contamination (limit : Nat) (l : Lsn) : (tickLsn limit l).contamination = l.contamination := by
  unfold tickLsn
  split <;> rfl

theorem peers_tick {s : State} (hp : peerLaw s) (hc : contaminationLaw s) : peerLaw (tick s) ∧ contaminationLaw (tick s) := by
  unfold tick
  split
  · exact ⟨hp, hc⟩
  · split
    · exact ⟨hp, hc⟩
    · exact ⟨hp, (tickLsn_contamination _ s.lsn).trans hc⟩

/-- Settles O55: the table and the condition move by move. -/
theorem stepsKeepThePeerTable : Obligations.StepsKeepThePeerTable := by
  intro s t hp hc h
  rcases step_cases h with ⟨c, rest, -, he⟩ | rfl
  · exact exec_keeps (P := fun u => peerLaw u ∧ contaminationLaw u) he (peers_of_moves · hp hc) fun k => peers_holdReset k hp hc
  · exact peers_tick hp hc

end Sys2Proof.Machine
end

section
/-! SUPPORT. A posting's bytes read back (O34), and the own transmitter (O32). -/
namespace Sys2Proof.Machine

/-! ## The posting payload (R20, R28, Layouts: Posting payload) -/

/-- The ten bytes of a posting payload that follow the open sequence. -/
def postingTail (p : Posting) : List Byte :=
  [BitVec.ofNat 8 p.lastVerdict.code, BitVec.ofNat 8 p.acoustic.code, BitVec.ofNat 8 p.listen.code,
    BitVec.ofNat 8 p.listenAge, BitVec.ofNat 8 p.air1.code, BitVec.ofNat 8 p.air2.code, BitVec.ofNat 8 p.airAge,
    BitVec.ofNat 8 p.demand, BitVec.ofNat 8 (postingFlags p), BitVec.ofNat 8 p.resetCause.code]

theorem postingBytes_eq (p : Posting) : postingBytes p
    = [BitVec.ofNat 8 p.cycleState.code, BitVec.ofNat 8 p.programme] ++ (be 4 p.openSeq ++ postingTail p) := by
  simp [postingBytes, postingTail, be_one]

theorem length_postingBytes (p : Posting) : (postingBytes p).length = 16 := by
  simp [postingBytes_eq, postingTail]

theorem field_one {l : List Byte} {off : Nat} (h : off < l.length) : field l off 1 = (byteAt l off).toNat := by
  rw [field, byteAt, List.drop_eq_getElem_cons h, List.getD_eq_getElem l 0 h, List.take_succ_cons, List.take_zero, fromBe]
  simp

theorem byteAt_tail (p : Posting) (i : Nat) : byteAt (postingBytes p) (6 + i) = byteAt (postingTail p) i := by
  rw [postingBytes_eq, byteAt, byteAt, List.getD_append_right _ _ _ _ (by simp; omega),
    List.getD_append_right _ _ _ _ (by simp; omega)]
  congr 1
  simp
  omega

theorem openSeq_postingBytes {p : Posting} (h : p.openSeq < 2 ^ 32) : field (postingBytes p) 2 4 = p.openSeq := by
  have htake : ((postingBytes p).drop 2).take 4 = be 4 p.openSeq := by
    rw [postingBytes_eq]
    simp
  rw [field, htake, fromBe_be, Nat.mod_eq_of_lt (by omega)]

/-- A quantity of one byte stands in its place. -/
theorem toNat_byte {n : Nat} (h : n < 256) : (BitVec.ofNat 8 n : Byte).toNat = n := by
  rw [BitVec.toNat_ofNat]
  exact Nat.mod_eq_of_lt h

theorem stationOfCode_code (st : StationState) : stationOfCode st.code = some st := by cases st <;> rfl
theorem listenOfCode_code (l : Listen) : listenOfCode l.code = some l := by cases l <;> rfl
theorem airOfCode_code (a : AirState) : airOfCode a.code = some a := by cases a <;> rfl
theorem resetCauseOfCode_code (k : ResetCause) : resetCauseOfCode k.code = some k := by cases k <;> rfl

theorem postedVerdictOfCode_code {v : Verdict} (h : v.code ≤ 4) : postedVerdictOfCode v.code = some v := by
  cases v with
  | opened | incomplete => simp [Verdict.code] at h
  | unset | pass | passNoted | retest | reject => rfl

theorem acousticOfByte_code {a : Acoustic} (h : ∀ b : Byte, a = .other b → 2 ≤ b.toNat) :
    acousticOfByte (BitVec.ofNat 8 a.code) = a := by
  cases a with
  | quiet => rfl
  | loud => rfl
  | other b =>
    have hb := h b rfl
    have hcode : BitVec.ofNat 8 (Acoustic.other b).code = b := BitVec.ofNat_toNat 8 b |>.trans (BitVec.setWidth_eq b)
    rw [hcode, acousticOfByte, if_neg (by omega), if_neg (by omega)]

/-- Five flags packed in a byte, as bits 0 to 4. -/
def flagsPacked (b0 b1 b2 b3 b4 : Bool) : Byte :=
  BitVec.ofNat 8 (bitAt 0 b0 + bitAt 1 b1 + bitAt 2 b2 + bitAt 3 b3 + bitAt 4 b4)

theorem flagsPacked_bits : ∀ b0 b1 b2 b3 b4 : Bool,
    (flagsPacked b0 b1 b2 b3 b4).getLsbD 0 = b0 ∧ (flagsPacked b0 b1 b2 b3 b4).getLsbD 1 = b1
      ∧ (flagsPacked b0 b1 b2 b3 b4).getLsbD 2 = b2 ∧ (flagsPacked b0 b1 b2 b3 b4).getLsbD 3 = b3
      ∧ (flagsPacked b0 b1 b2 b3 b4).getLsbD 4 = b4 := by decide

/-- Each flag of a posting's flag byte in its own bit. -/
theorem postingFlags_bits (p : Posting) :
    (BitVec.ofNat 8 (postingFlags p)).getLsbD 0 = p.yielding ∧ (BitVec.ofNat 8 (postingFlags p)).getLsbD 1 = p.unconfigured
      ∧ (BitVec.ofNat 8 (postingFlags p)).getLsbD 2 = p.dupStation
      ∧ (BitVec.ofNat 8 (postingFlags p)).getLsbD 3 = p.storeFault
      ∧ (BitVec.ofNat 8 (postingFlags p)).getLsbD 4 = p.supplyWarning := flagsPacked_bits _ _ _ _ _

/-- The codes of the named values are bytes. -/
theorem posting_codes (p : Posting) : p.cycleState.code < 256 ∧ p.listen.code < 256 ∧ p.air1.code < 256
    ∧ p.air2.code < 256 ∧ p.resetCause.code < 256 :=
  ⟨by cases p.cycleState <;> decide, by cases p.listen <;> decide, by cases p.air1 <;> decide,
    by cases p.air2 <;> decide, by cases p.resetCause <;> decide⟩

/-- A field of one byte that follows the open sequence. -/
theorem field_tail {p : Posting} {i n : Nat} (hi : i < 10) (hb : byteAt (postingTail p) i = BitVec.ofNat 8 n) (hn : n < 256) :
    field (postingBytes p) (6 + i) 1 = n := by
  rw [field_one (by rw [length_postingBytes]; omega), byteAt_tail, hb, toNat_byte hn]

/-- A field of one byte before the open sequence. -/
theorem field_head {p : Posting} {i n : Nat} (hi : i < 2)
    (hb : byteAt [BitVec.ofNat 8 p.cycleState.code, BitVec.ofNat 8 p.programme] i = BitVec.ofNat 8 n) (hn : n < 256) :
    field (postingBytes p) i 1 = n := by
  have hbyte : byteAt (postingBytes p) i = BitVec.ofNat 8 n := by
    rw [postingBytes_eq, byteAt, List.getD_append _ _ _ _ (by simpa using hi)]
    exact hb
  rw [field_one (by rw [length_postingBytes]; omega), hbyte, toNat_byte hn]

/-- Settles O34: field by field. -/
theorem postingIsReadAsWritten : Obligations.PostingIsReadAsWritten := by
  intro p hprog hseq hverdict hacoustic hlisten hair hdemand
  refine ⟨length_postingBytes p, ?_⟩
  obtain ⟨hcs, hls, ha1, ha2, hrc⟩ := posting_codes p
  obtain ⟨hf0, hf1, hf2, hf3, hf4⟩ := postingFlags_bits p
  have h0 : field (postingBytes p) 0 1 = p.cycleState.code := field_head (by omega) rfl hcs
  have h1 : field (postingBytes p) 1 1 = p.programme := field_head (by omega) rfl (by omega)
  have h6 : field (postingBytes p) 6 1 = p.lastVerdict.code := field_tail (i := 0) (by omega) rfl (by omega)
  have h8 : field (postingBytes p) 8 1 = p.listen.code := field_tail (i := 2) (by omega) rfl hls
  have h9 : field (postingBytes p) 9 1 = p.listenAge := field_tail (i := 3) (by omega) rfl (by omega)
  have h10 : field (postingBytes p) 10 1 = p.air1.code := field_tail (i := 4) (by omega) rfl ha1
  have h11 : field (postingBytes p) 11 1 = p.air2.code := field_tail (i := 5) (by omega) rfl ha2
  have h12 : field (postingBytes p) 12 1 = p.airAge := field_tail (i := 6) (by omega) rfl (by omega)
  have h13 : field (postingBytes p) 13 1 = p.demand := field_tail (i := 7) (by omega) rfl (by omega)
  have h15 : field (postingBytes p) 15 1 = p.resetCause.code := field_tail (i := 9) (by omega) rfl hrc
  have hclass : acousticOfByte (byteAt (postingBytes p) 7) = p.acoustic := by
    rw [byteAt_tail p 1]
    exact acousticOfByte_code hacoustic
  have hflags : byteAt (postingBytes p) 14 = BitVec.ofNat 8 (postingFlags p) := byteAt_tail p 8
  simp only [postingOf, h0, h1, h6, h8, h9, h10, h11, h12, h13, h15, openSeq_postingBytes hseq, hclass, hflags, hf0, hf1, hf2,
    hf3, hf4, stationOfCode_code, postedVerdictOfCode_code hverdict, listenOfCode_code, airOfCode_code, resetCauseOfCode_code,
    if_pos hprog]

end Sys2Proof.Machine
end

section
/-! SUPPORT. The own transmitter: its choice, attempts, losses and wins, and a frame sent (O32). -/
namespace Sys2Proof.Machine

/-! ## The choice (R24, R25) -/

/-- R25's order of precedence: what the transmit arbiter has to choose from, and what it chooses. -/
def choiceCalledFor (s : State) (c : TxChoice) : Prop :=
  s.lif.replies ≠ [] ∧ c = .reply
    ∨ s.lif.replies = [] ∧ s.peer.latch = true ∧ c = .full true
    ∨ s.lif.replies = [] ∧ s.peer.latch = false ∧ s.peer.due = true
      ∧ c = (if s.peer.lastFull ≠ some s.peer.posting ∨ 9 ≤ s.peer.repeats then .full false else .short)

theorem periodic_choice (s : State) : (if periodicFull s then TxChoice.full false else .short)
    = if s.peer.lastFull ≠ some s.peer.posting ∨ 9 ≤ s.peer.repeats then .full false else .short := by
  simp [periodicFull]

theorem chooseTx_of_calledFor {s : State} {c : TxChoice} (h : choiceCalledFor s c) : chooseTx s = some c := by
  unfold chooseTx
  rcases h with ⟨hr, rfl⟩ | ⟨hr, hl, rfl⟩ | ⟨hr, hl, hd, rfl⟩
  · rw [if_pos hr]
  · rw [if_neg (not_not.mpr hr), if_pos hl]
  · rw [if_neg (not_not.mpr hr), if_neg (by simp [hl]), if_pos hd, periodic_choice]

/-! ## Leaving IDLE (R25) -/

theorem leaveIdle_idle {s : State} {c : TxChoice} (h : s.lif.tx.state = .idle) (hc : chooseTx s = some c) :
    leaveIdle s = withTx ⟨.waiting, some c, false, s.lif.tx.frame⟩ s := by
  rw [leaveIdle, if_pos h, hc]

theorem leaveIdle_busy {s : State} (h : s.lif.tx.state ≠ .idle) : leaveIdle s = s := if_neg h

theorem leaveIdle_quiet {s : State} (h : chooseTx s = none) : leaveIdle s = s := by
  rw [leaveIdle, h]
  split <;> rfl

/-- A command after which the transmitter is not in IDLE. -/
theorem whenReleased_busy {f : State → State} {s t : State} (hb : s.boot ≠ .held) (hf : f s = t)
    (ht : t.lif.tx.state ≠ .idle) : whenReleased f s = .next t := by
  rw [whenReleased_eq hb hf, leaveIdle_busy ht]

/-! ## An attempt, a loss, a win (R25 to R27, R178) -/

theorem attempt_busBusy {s : State} (h : s.lif.busIdle = false) : attempt s = s := if_neg (by simp [h])

theorem attempt_begins {s : State} {c : TxChoice} (hw : s.lif.tx.state = .waiting) (hi : s.lif.busIdle = true)
    (hc : s.lif.tx.choice = some c ∨ s.lif.tx.choice = none ∧ chooseTx s = some c) :
    attempt s = setBusIdle false (withTx ⟨.waiting, some c, true, none⟩ s) := by
  rw [attempt, if_pos ⟨hw, hi⟩]
  rcases hc with hc | ⟨hn, hc⟩
  · rw [hc]
  · rw [hn, hc]

theorem lost_waiting {s : State} (hw : s.lif.tx.state = .waiting) (ha : s.lif.tx.attempting = true) :
    lost s = withCounters (fun c => { c with arbLosses := bump 65535 c.arbLosses })
      (withTx ⟨.waiting, none, false, none⟩ s) := if_pos ⟨hw, ha⟩

theorem won_full {s : State} {event : Bool} (hw : s.lif.tx.state = .waiting) (ha : s.lif.tx.attempting = true)
    (hc : s.lif.tx.choice = some (.full event)) : won s = sendFrame (.full event)
      (.full (if event then kindEvent else kindPeriodic) (numberByte s) destAll (postingBytes s.peer.posting))
      (composeFull s) := by
  rw [won, if_pos ⟨hw, ha⟩, hc]

theorem won_short {s : State} (hw : s.lif.tx.state = .waiting) (ha : s.lif.tx.attempting = true)
    (hc : s.lif.tx.choice = some .short) :
    won s = sendFrame .short (.short (numberByte s)) (withPeer (fun x => { x with due := false }) s) := by
  rw [won, if_pos ⟨hw, ha⟩, hc]

theorem won_reply {s : State} {r : Reply} {rest : List Reply} (hw : s.lif.tx.state = .waiting)
    (ha : s.lif.tx.attempting = true) (hc : s.lif.tx.choice = some .reply) (hr : s.lif.replies = r :: rest) :
    won s = sendFrame .reply (.full kindReply (numberByte s) 0 (replyPayload r)) s := by
  rw [won, if_pos ⟨hw, ha⟩, hc, hr]

/-! ## A frame sent (R26) -/

/-- Choosing again rests on the queue and PEER alone, and so a transmitter that returns to IDLE stays there. -/
theorem leaveIdle_chooseAgain (s : State) : leaveIdle (chooseAgain s) = chooseAgain s := by
  unfold chooseAgain
  split
  · exact leaveIdle_busy (fun h => by cases h)
  next hn => exact leaveIdle_quiet hn

/-- The transmitter as its next choice leaves it. -/
theorem chooseAgain_some {s : State} {c : TxChoice} (h : choiceCalledFor s c) :
    chooseAgain s = withTx ⟨.waiting, some c, false, none⟩ s := by
  rw [chooseAgain, chooseTx_of_calledFor h]

theorem chooseAgain_none {s : State} (hr : s.lif.replies = []) (hl : s.peer.latch = false) (hd : s.peer.due = false) :
    chooseAgain s = withTx ⟨.idle, none, false, none⟩ s := by
  rw [chooseAgain, (chooseTx_eq_none s).mpr ⟨hr, hl, hd⟩]

theorem chooseAgain_eq (s : State) : ∃ tx, chooseAgain s = withTx tx s := by
  unfold chooseAgain
  split <;> exact ⟨_, rfl⟩

/-- What a frame sent leaves before the next choice: the repeat counter or the reply queue moved. -/
def frameDone (s : State) : State :=
  match s.lif.tx.choice with
  | some .reply => withLif (fun l => { l with replies := l.replies.tail }) s
  | some (.full _) => withPeer (fun x => { x with repeats := 0 }) s
  | some .short => withPeer (fun x => { x with repeats := bump 9 x.repeats }) s
  | none => s

theorem frameDone_eq (s : State) : ∃ peer replies,
    frameDone s = { s with peer := peer, lif := { s.lif with replies := replies } } := by
  unfold frameDone
  split <;> exact ⟨_, _, rfl⟩

theorem replySent_eq {s : State} (hd : s.lif.decoder ≠ .restarting) :
    replySent s = chooseAgain (withLif (fun l => { l with replies := l.replies.tail }) s) := by
  unfold replySent
  split
  next r rest hr =>
    have hnot : isRestartReply s r = false := by simp [isRestartReply, hd]
    rw [if_neg (by simp [hnot]), withLif, withLif, hr]
    rfl
  next hr =>
    have hsame : withLif (fun l => { l with replies := l.replies.tail }) s = s := by
      rw [withLif, hr, List.tail_nil, ← hr]
    rw [hsame]

/-- Sent, but for the ACCEPTED of a RESTART, the frame is followed by the next choice. -/
theorem sent_eq {s : State} (h : s.lif.tx.state = .sending)
    (hd : s.lif.tx.choice = some .reply → s.lif.decoder ≠ .restarting) : sent s = chooseAgain (frameDone s) := by
  rw [sent, if_pos h, frameDone]
  cases hc : s.lif.tx.choice with
  | none => rfl
  | some c =>
    cases c with
    | reply => exact replySent_eq (hd hc)
    | full event => rfl
    | short => rfl

/-- Settles O32: leaving IDLE, the attempt, the loss and the win by the state's equations, and the frame sent by the choice. -/
theorem transmitterSendsAndCounts : Obligations.TransmitterSendsAndCounts := by
  refine ⟨fun s c hidle h => ?_, fun s h => ?_, fun s hb => ⟨fun hw hi => ?_, fun c hw hi hc => ?_, fun hw hi hn c h => ?_,
    fun hw ha => ?_, fun event hw ha hc => ?_, fun hw ha hc => ?_, fun r rest hw ha hc hr => ?_, fun hs hd => ?_⟩⟩
  · exact leaveIdle_idle hidle (chooseTx_of_calledFor h)
  · rcases h with h | ⟨hr, hl, hd⟩
    · exact leaveIdle_busy h
    · exact leaveIdle_quiet ((chooseTx_eq_none s).mpr ⟨hr, hl, hd⟩)
  · exact whenReleased_busy hb (attempt_busBusy hi) (by rw [hw]; decide)
  · exact whenReleased_busy hb (attempt_begins hw hi (.inl hc)) (fun h => by cases h)
  · exact whenReleased_busy hb (attempt_begins hw hi (.inr ⟨hn, chooseTx_of_calledFor h⟩)) (fun h => by cases h)
  · exact whenReleased_busy hb (lost_waiting hw ha) (fun h => by cases h)
  · exact whenReleased_busy hb (won_full hw ha hc) (fun h => by cases h)
  · exact whenReleased_busy hb (won_short hw ha hc) (fun h => by cases h)
  · exact whenReleased_busy hb (won_reply hw ha hc hr) (fun h => by cases h)
  · obtain ⟨tx, htx⟩ := chooseAgain_eq (frameDone s)
    obtain ⟨peer, replies, hdone⟩ := frameDone_eq s
    refine ⟨chooseAgain (frameDone s), ?_, ?_, fun event hc => ?_, fun hc => ?_, fun r rest hc hr => ?_, fun hr => ?_,
      fun hr hl => ?_, fun hr hl hdue => ?_, fun hr hl hdue => ?_⟩
    · refine (whenReleased_eq hb (sent_eq hs hd)).trans ?_
      rw [leaveIdle_chooseAgain]
    · rw [htx, hdone]
      rfl
    · rw [htx]
      simp [frameDone, hc]
    · rw [htx]
      simp [frameDone, hc, bump]
    · rw [htx]
      simp [frameDone, hc, hr]
    · rw [chooseAgain_some (.inl ⟨by simpa using hr, rfl⟩)]
      rfl
    · rw [chooseAgain_some (.inr (.inl ⟨by simpa using hr, by simpa using hl, rfl⟩))]
      rfl
    · rw [chooseAgain_some (.inr (.inr ⟨by simpa using hr, by simpa using hl, by simpa using hdue, rfl⟩))]
      rfl
    · rw [chooseAgain_none (by simpa using hr) (by simpa using hl) (by simpa using hdue)]
      rfl

end Sys2Proof.Machine
end

section
/-! SUPPORT. Postings taken by PEER, full and repeat (O21, O22). -/
namespace Sys2Proof.Machine

/-! ## A posting taken at once (R28, R179) -/

/-- A frame put into an empty buffer and taken from it again leaves the line as it was. -/
theorem popBuffer_pushed {s : State} (f : RxFrame) (h : s.lif.buffer = []) :
    popBuffer (withLif (fun l => { l with buffer := l.buffer ++ [f] }) s) = s := by
  have hlif : { s.lif with buffer := [] } = s.lif := by rw [← h]
  simp [popBuffer, withLif, h, hlif]

theorem drain_full {kind src dst : Byte} {p : List Byte} {own : Bool} {s : State}
    (hb : s.lif.buffer = [⟨.full kind src dst p, own⟩]) (hk : kind ≠ kindOrder) :
    drain 1 s = takeFullPosting own src.toNat p (popBuffer s) := by
  unfold drain
  simp [hb, hk, drain]

theorem drain_short {b : Byte} {own : Bool} {s : State} (hb : s.lif.buffer = [⟨.short b, own⟩]) :
    drain 1 s = takeRepeatPosting own b.toNat (popBuffer s) := by
  unfold drain
  simp [hb, drain]

/-- A routed frame that finds the buffer empty is the only one to take. -/
theorem receive_first {f : Frame} {own : Bool} {s : State} (hf : isRouted s.cfg.number f = true) (hb : s.lif.buffer = []) :
    receive f own s = drain 1 (withLif (fun l => { l with buffer := l.buffer ++ [⟨f, own⟩] }) s) := by
  rw [receive, if_pos hf, if_neg (by simp [hb])]
  simp [hb]

theorem receive_fullPosting {event own : Bool} {src : Byte} {payload : List Byte} {s : State} (hb : s.lif.buffer = [])
    (hp : payload.length = 16) :
    receive (.full (if event then kindEvent else kindPeriodic) src destAll payload) own s
      = takeFullPosting own src.toNat payload s := by
  have hkind : ((if event then kindEvent else kindPeriodic) == kindPeriodic
      || (if event then kindEvent else kindPeriodic) == kindEvent) = true := by cases event <;> rfl
  have horder : (if event then kindEvent else kindPeriodic) ≠ kindOrder := by cases event <;> decide
  rw [receive_first (by simp [isRouted, isPosting, hkind, hp]) hb,
    drain_full (src := src) (dst := destAll) (p := payload) (own := own) (by simp [hb]) horder, popBuffer_pushed _ hb]

theorem receive_repeatPosting {own : Bool} {src : Byte} {s : State} (hb : s.lif.buffer = []) :
    receive (.short src) own s = takeRepeatPosting own src.toNat s := by
  rw [receive_first rfl hb, drain_short (b := src) (own := own) (by simp [hb]), popBuffer_pushed _ hb]

theorem exec_fullPosting {event own : Bool} {src : Byte} {payload : List Byte} {s t : State} (hr : s.boot ≠ .held)
    (hb : s.lif.buffer = []) (hp : payload.length = 16) (ht : takeFullPosting own src.toNat payload s = t) :
    exec (.fullPostingReceived event own src payload) s = .next (leaveIdle t) :=
  whenReleased_eq hr ((receive_fullPosting hb hp).trans ht)

theorem exec_repeatPosting {own : Bool} {src : Byte} {s t : State} (hr : s.boot ≠ .held) (hb : s.lif.buffer = [])
    (ht : takeRepeatPosting own src.toNat s = t) : exec (.repeatPostingReceived own src) s = .next (leaveIdle t) :=
  whenReleased_eq hr ((receive_repeatPosting hb).trans ht)

/-! ## By the posting's source (R28, R35) -/

section
variable {own : Bool} {n : Nat} {payload : List Byte} {s : State}

theorem takeFullPosting_foreign (h : n = 0 ∨ 16 < n) : takeFullPosting own n payload s = s := if_pos h

theorem takeRepeatPosting_foreign (h : n = 0 ∨ 16 < n) : takeRepeatPosting own n s = s := if_pos h

theorem takeFullPosting_own (hr : ¬ (n = 0 ∨ 16 < n)) (h : n = s.cfg.number) :
    takeFullPosting own n payload s = if own then s else duplicateHeard s := by
  rw [takeFullPosting, if_neg hr, if_pos h]

theorem takeRepeatPosting_own (hr : ¬ (n = 0 ∨ 16 < n)) (h : n = s.cfg.number) :
    takeRepeatPosting own n s = if own then s else duplicateHeard s := by
  rw [takeRepeatPosting, if_neg hr, if_pos h]

theorem takeFullPosting_read {p : Posting} (hr : ¬ (n = 0 ∨ 16 < n)) (h : n ≠ s.cfg.number)
    (hp : postingOf payload = some p) : takeFullPosting own n payload s = enterPosting n p s := by
  rw [takeFullPosting, if_neg hr, if_neg h, hp]

theorem takeFullPosting_unread (hr : ¬ (n = 0 ∨ 16 < n)) (h : n ≠ s.cfg.number) (hp : postingOf payload = none) :
    takeFullPosting own n payload s = s := by
  rw [takeFullPosting, if_neg hr, if_neg h, hp]

theorem takeRepeatPosting_other (hr : ¬ (n = 0 ∨ 16 < n)) (h : n ≠ s.cfg.number) :
    takeRepeatPosting own n s = repeatPosting n s := by
  rw [takeRepeatPosting, if_neg hr, if_neg h]

end

/-- The duplicate-station condition is not among the fields whose change requests an event posting (R20, R35). -/
theorem duplicateHeard_eq (s : State) : duplicateHeard s = { s with
    peer := { s.peer with dupCount := 8, posting := { s.peer.posting with dupStation := true } } } := by
  simp [duplicateHeard, writePosting, withPeer, eventChange]

/-! ## Entries found again (R29, R30) -/

theorem find?_putEntry_same (e : PeerEntry) (l : List PeerEntry) :
    (putEntry e l).find? (fun x => x.station == e.station) = some e := by
  induction l with
  | nil => simp [putEntry]
  | cons x l ih =>
    unfold putEntry
    split
    next hlt =>
      rw [List.find?_cons_of_neg (by simp; omega)]
      exact ih
    · split <;> simp

theorem find?_putEntry_other {e : PeerEntry} {n : Nat} (h : n ≠ e.station) (l : List PeerEntry) :
    (putEntry e l).find? (fun x => x.station == n) = l.find? (fun x => x.station == n) := by
  have he : ¬ (e.station == n) = true := by simpa using h.symm
  induction l with
  | nil => simp [putEntry, h.symm]
  | cons x l ih =>
    unfold putEntry
    split
    · rw [List.find?_cons, List.find?_cons, ih]
    · split
      next heq =>
        have hx : ¬ (x.station == n) = true := by rwa [heq]
        rw [List.find?_cons_of_neg (p := fun y : PeerEntry => y.station == n) he,
          List.find?_cons_of_neg (p := fun y : PeerEntry => y.station == n) hx]
      · rw [List.find?_cons_of_neg (p := fun y : PeerEntry => y.station == n) he]

theorem find?_refreshed (station ms n : Nat) (l : List PeerEntry) :
    (l.map (refreshEntry station ms)).find? (fun e => e.station == n)
      = (l.find? (fun e => e.station == n)).map (refreshEntry station ms) := by
  rw [List.find?_map]
  simp only [Function.comp_def, refreshEntry_station]

theorem contaminationDerived_enterPosting (n : Nat) (p : Posting) (s : State) :
    contaminationDerived s (enterPosting n p s) := by
  have hcond : contaminationOf (enterPosting n p s)
      = contaminationOf (withPeer (fun x => { x with table := putEntry ⟨n, p, 0, s.clock.ms⟩ x.table }) s) := rfl
  have hvib : (enterPosting n p s).vib
      = if contaminationOf (enterPosting n p s) && !s.lsn.contamination then vibContaminated s.vib else s.vib := rfl
  refine ⟨rfl, fun r hs hr hl hc => ?_, fun h => ?_⟩
  · rw [hvib, hc, hl, Bool.not_false, Bool.and_true, if_pos rfl, vibContaminated, if_pos hs, hr]
    rfl
  · rw [hvib]
    split
    next hcl =>
      simp only [Bool.and_eq_true, Bool.not_eq_true'] at hcl
      obtain ⟨hc, hl⟩ := hcl
      rcases h with hs | hr | h | h
      · exact if_neg hs
      · unfold vibContaminated
        split
        · rw [hr, Option.map_none, ← hr]
        · rfl
      · rw [hl] at h
        cases h
      · rw [hc] at h
        cases h
    · rfl

/-- Settles O21, by the posting's source and form. -/
theorem fullPostingIsEntered : Obligations.FullPostingIsEntered := by
  refine ⟨fun event own src payload p s hb hbuf hlen hp h1 h16 hn => ?_, fun event own src payload s hb hbuf hlen =>
    ⟨fun hr => ?_, fun h1 h16 hn => ?_, fun h1 h16 hn hp => ?_⟩⟩
  · refine ⟨enterPosting src.toNat p s, exec_fullPosting hb hbuf hlen ?_, rfl, ?_, fun n hne => ?_, ?_⟩
    · exact takeFullPosting_read (by omega) hn hp
    · exact find?_putEntry_same ⟨src.toNat, p, 0, s.clock.ms⟩ s.peer.table
    · exact find?_putEntry_other (e := ⟨src.toNat, p, 0, s.clock.ms⟩) hne s.peer.table
    · exact contaminationDerived_enterPosting _ p s
  · exact ⟨exec_fullPosting hb hbuf hlen (takeFullPosting_foreign hr),
      exec_repeatPosting hb hbuf (takeRepeatPosting_foreign hr)⟩
  · have hrange : ¬ (src.toNat = 0 ∨ 16 < src.toNat) := by omega
    rw [← duplicateHeard_eq]
    have hfull (own : Bool) := exec_fullPosting (event := event) hb hbuf hlen (takeFullPosting_own (own := own) hrange hn)
    have hrepeat (own : Bool) := exec_repeatPosting hb hbuf (takeRepeatPosting_own (own := own) hrange hn)
    exact ⟨hfull true, hrepeat true, hfull false, hrepeat false⟩
  · exact exec_fullPosting hb hbuf hlen (takeFullPosting_unread (by omega) hn hp)

/-- Settles O22: the refresh touches the entries of its station alone. -/
theorem repeatPostingRefreshesTheEntry : Obligations.RepeatPostingRefreshesTheEntry := by
  intro own src s hb hbuf h1 h16 hn
  have hrange : ¬ (src.toNat = 0 ∨ 16 < src.toNat) := by omega
  refine ⟨s.peer.table.map (refreshEntry src.toNat s.clock.ms),
    exec_repeatPosting hb hbuf (takeRepeatPosting_other hrange hn), ?_, fun n hne => ?_, fun hnone => ?_⟩
  · rw [find?_refreshed, entryOf]
    cases he : s.peer.table.find? (fun e => e.station == src.toNat) with
    | none => rfl
    | some e =>
      have hst : e.station = src.toNat := by simpa using List.find?_some he
      simp [refreshEntry, hst]
  · rw [find?_refreshed, entryOf]
    cases he : s.peer.table.find? (fun e => e.station == n) with
    | none => rfl
    | some e =>
      have hst : e.station = n := by simpa using List.find?_some he
      simp [refreshEntry, hst, hne]
  · refine (List.map_congr_left fun e he => ?_).trans (List.map_id _)
    have hst : e.station ≠ src.toNat := by simpa using List.find?_eq_none.mp hnone e he
    exact if_neg hst

end Sys2Proof.Machine
end

section
/-! SUPPORT. The expiry of the posting period at PEER and at LSN (O24, O25). -/
namespace Sys2Proof.Machine

/-! ## PEER (R22, R23, R31, R36) -/

/-- The state as PEER's own part of an expiry leaves it for its readers. -/
def periodTaken (s : State) : State := clearDuplicate (periodDue s)

theorem periodExpiry_eq (a b : Bool) (s : State) : periodExpiry a b s = expiryReaders a b (periodTaken s) := rfl

/-- Whatever the order of the readers, they age the table once and leave the rest of PEER's own state. -/
theorem expiryReaders_peer (a b : Bool) (s : State) : (expiryReaders a b s).peer.table = ageTable s.peer.table
    ∧ (expiryReaders a b s).peer.due = s.peer.due ∧ (expiryReaders a b s).peer.period = s.peer.period
    ∧ (expiryReaders a b s).peer.periodLeft = s.peer.periodLeft ∧ (expiryReaders a b s).peer.repeats = s.peer.repeats
    ∧ (expiryReaders a b s).peer.lastFull = s.peer.lastFull ∧ (expiryReaders a b s).peer.dupCount = s.peer.dupCount
    ∧ (expiryReaders a b s).peer.posting.dupStation = s.peer.posting.dupStation := by
  have hage (u : State) : (agePeers u).peer.table = ageTable u.peer.table := rfl
  cases a <;> cases b <;> simp [expiryReaders, leakExpiry, hage]

theorem expiryReaders_frame (a b : Bool) (s : State) : (expiryReaders a b s).cyc = s.cyc
    ∧ (expiryReaders a b s).dev = s.dev ∧ (expiryReaders a b s).sca = s.sca ∧ (expiryReaders a b s).store = s.store
    ∧ (expiryReaders a b s).cfg = s.cfg := by
  cases a <;> cases b <;> simp [expiryReaders, leakExpiry]

/-- The clearance count falls while the condition stands, and clears it at 0 (R36). -/
theorem clearDuplicate_counts (s : State) :
    (s.peer.posting.dupStation = false →
      (clearDuplicate s).peer.posting.dupStation = false ∧ (clearDuplicate s).peer.dupCount = s.peer.dupCount)
    ∧ (s.peer.posting.dupStation = true → (clearDuplicate s).peer.dupCount = s.peer.dupCount - 1
      ∧ (clearDuplicate s).peer.posting.dupStation = decide (1 < s.peer.dupCount)) := by
  unfold clearDuplicate
  refine ⟨fun h => ?_, fun h => ?_⟩
  · rw [if_neg (by simp [h])]
    exact ⟨h, rfl⟩
  · rw [if_pos h]
    dsimp only [withPeer]
    split
    next h0 => exact ⟨rfl, (decide_eq_false (by omega)).symm⟩
    next h0 => exact ⟨rfl, h.trans (decide_eq_true (by omega)).symm⟩

/-- Settles O24: the readers age the table once, whatever their order. -/
theorem periodExpiryAgesThePeerTable : Obligations.PeriodExpiryAgesThePeerTable := by
  intro a b s hb
  obtain ⟨htable, hdue, hperiod, hleft, hrepeats, hfull, hcount, hdup⟩ := expiryReaders_peer a b (periodTaken s)
  obtain ⟨hcyc, hdev, hsca, hstore, hcfg⟩ := expiryReaders_frame a b (periodTaken s)
  obtain ⟨hclear, hset⟩ := clearDuplicate_counts (periodDue s)
  refine ⟨_, whenReleased_running hb, ?_⟩
  simp only [leaveIdle_frame, periodExpiry_eq, htable, hdue, hperiod, hleft, hrepeats, hfull, hcount, hdup, hcyc, hdev, hsca,
    hstore, hcfg]
  refine ⟨by simp [periodTaken, periodDue], by simp [periodTaken, periodDue], by simp [periodTaken, periodDue],
    by simp [periodTaken, ageTable], hclear, hset, ?_⟩
  simp [periodTaken]

/-! ## LSN's part (R66, R68 to R71) -/

/-- LSN's claim age one period on, and posted (R66). -/
def listenAged (s : State) : State :=
  postListenAge (withLsn (fun l => { l with claimAge := bump 255 l.claimAge }) s)

/-- The settle count of a claim one period on (R69). -/
def listenSettled (s : State) : State := withLsn (fun l => { l with settle := l.settle - 1 }) (listenAged s)

/-- Whether a neighbour withdraws the claim of a station at its new age (R70). -/
def claimWithdrawn (s : State) : Bool :=
  (acousticPeers s).any (hasPrecedence (min (s.lsn.claimAge + 1) 255) s.cfg.number)

section
variable {s : State}

theorem lsnExpiry_inactive (h : s.lsn.state = .inactive) : lsnExpiry s = s := if_pos h

theorem lsnExpiry_listening (h : s.lsn.state = .listening) : lsnExpiry s = listenAged s := by
  simp [lsnExpiry, h, listenAged]

/-- DEFERRING claims where no neighbour claims or listens (R68). -/
theorem lsnExpiry_deferring (h : s.lsn.state = .deferring) :
    lsnExpiry s = if neighbourClaims s then listenAged s else enterClaiming (listenAged s) := by
  have hsees : neighbourClaims (listenAged s) = neighbourClaims s := neighbourClaims_congr rfl rfl
  have hst : (listenAged s).lsn.state = .deferring := h
  rw [lsnExpiry, if_neg (by simp [h]), ← hsees]
  dsimp only
  rw [show (postListenAge (withLsn (fun l => { l with claimAge := bump 255 l.claimAge }) s)) = listenAged s from rfl, hst]

/-- A claim settles, and at 0 the precedence test takes it to DEFERRING or LISTENING (R69, R70). -/
theorem lsnExpiry_claiming (h : s.lsn.state = .claiming) :
    lsnExpiry s = if s.lsn.settle - 1 = 0 then
      (if claimWithdrawn s then enterDeferring (listenSettled s) else enterListening (listenSettled s))
      else listenSettled s := by
  have hst : (listenAged s).lsn.state = .claiming := h
  rw [lsnExpiry, if_neg (by simp [h])]
  dsimp only
  rw [show (postListenAge (withLsn (fun l => { l with claimAge := bump 255 l.claimAge }) s)) = listenAged s from rfl, hst]
  rfl

/-- What LSN's part of an expiry leaves RUN with (R67). -/
theorem lsnExpiry_run (s : State) : (lsnExpiry s).run = s.run ∨ (s.lsn.state = .claiming
    ∧ (lsnExpiry s).lsn.state = .listening ∧ (lsnExpiry s).run = runListening (segKind s) s.run) := by
  cases hst : s.lsn.state with
  | inactive => exact .inl (by rw [lsnExpiry_inactive hst])
  | deferring =>
    rw [lsnExpiry_deferring hst]
    split <;> exact .inl rfl
  | claiming =>
    rw [lsnExpiry_claiming hst]
    split
    · split
      · exact .inl rfl
      · exact .inr ⟨rfl, rfl, rfl⟩
    · exact .inl rfl
  | listening => exact .inl (by rw [lsnExpiry_listening hst]; rfl)

/-- The claim age rises by one in every state but NONE, and is posted (R66). -/
theorem lsnExpiry_age (h : s.lsn.state ≠ .inactive) : (lsnExpiry s).lsn.claimAge = min (s.lsn.claimAge + 1) 255
    ∧ (lsnExpiry s).peer.posting.listenAge = min (s.lsn.claimAge + 1) 255 := by
  cases hst : s.lsn.state with
  | inactive => exact absurd hst h
  | deferring =>
    rw [lsnExpiry_deferring hst]
    split <;> exact ⟨rfl, rfl⟩
  | claiming =>
    rw [lsnExpiry_claiming hst]
    split
    · split <;> exact ⟨rfl, rfl⟩
    · exact ⟨rfl, rfl⟩
  | listening =>
    rw [lsnExpiry_listening hst]
    exact ⟨rfl, rfl⟩

end

/-- A deferred SWEEP goes to APPROACH at the report of LISTENING (R67). -/
theorem runListening_deferred {k : SegKind} {r : Run} (hin : inSegment r.state = true) (hk : k = .sweep)
    (hg : r.stage = .deferred) : runListening k r = { r with
      stage := .approach
      holds := { r.holds with defer := false }
      state := if r.holds.power || r.holds.yields || r.holds.reversal then .held else .segment } := by
  rw [runListening, if_pos ⟨hin, hk, hg⟩, settleHolds, if_pos hin]
  cases hp : r.holds.power <;> cases hy : r.holds.yields <;> cases hr : r.holds.reversal <;>
    simp [Holds.isEmpty, hp, hy, hr]

theorem runListening_else {k : SegKind} {r : Run} (h : inSegment r.state = false ∨ k ≠ .sweep ∨ r.stage ≠ .deferred) :
    runListening k r = r := by
  refine if_neg ?_
  rintro ⟨hin, hk, hg⟩
  rcases h with h | h | h
  · simp [hin] at h
  · exact h hk
  · exact h hg

/-! ## The latch through an expiry (R20, R21) -/

theorem Latches.enterClaiming (s : State) : Latches s (enterClaiming s) := (Latches.withLsn _ s).trans (.postListen _ _)

theorem Latches.enterDeferring (s : State) : Latches s (enterDeferring s) := (Latches.withLsn _ s).trans (.postListen _ _)

theorem Latches.enterListening (s : State) : Latches s (enterListening s) :=
  ((Latches.withLsn _ s).trans (.postListen .listen _)).trans (.of_peer rfl)

theorem Latches.listenAged (s : State) : Latches s (listenAged s) := (Latches.withLsn _ s).trans (.postListenAge _)

theorem Latches.lsnExpiry (s : State) : Latches s (lsnExpiry s) := by
  have haged := Latches.listenAged s
  cases hst : s.lsn.state with
  | inactive =>
    rw [lsnExpiry_inactive hst]
    exact .refl s
  | deferring =>
    rw [lsnExpiry_deferring hst]
    split
    · exact haged
    · exact haged.trans (.enterClaiming _)
  | claiming =>
    have hsettled : Latches s (listenSettled s) := haged.trans (.withLsn _ _)
    rw [lsnExpiry_claiming hst]
    split
    · split
      · exact hsettled.trans (.enterDeferring _)
      · exact hsettled.trans (.enterListening _)
    · exact hsettled
  | listening =>
    rw [lsnExpiry_listening hst]
    exact haged

theorem Latches.airSettleStep (c : CircuitId) (s : State) : Latches s (airSettleStep c s) := by
  unfold Machine.airSettleStep Machine.airSettleExpiry
  dsimp only
  (repeat' split) <;> first | exact .refl s | exact .withCircuit c _ s | exact (Latches.withCircuit c _ s).trans (.withCircuit c _ _)

theorem Latches.circuitExpiry (c : CircuitId) (s : State) : Latches s (circuitExpiry c s) := by
  have hsettled := (Latches.withCircuit c (fun k => stepBackoff (ageClaim k)) s).trans (.airSettleStep c _)
  unfold Machine.circuitExpiry intentStep
  split
  · exact hsettled.trans (.intentTest c _)
  · exact hsettled

theorem Latches.leakExpiry (s : State) : Latches s (leakExpiry s) :=
  (Latches.circuitExpiry .one s).trans (.circuitExpiry .two _)

theorem Latches.agePeers (s : State) : Latches s (agePeers s) := ⟨id, fun h => absurd rfl h⟩

theorem Latches.periodTaken (s : State) : Latches s (periodTaken s) := by
  have hdue : Latches s (Machine.periodDue s) := ⟨id, fun h => absurd rfl h⟩
  unfold Machine.periodTaken clearDuplicate
  dsimp only
  split
  · have hfall (u : State) : Latches u (withPeer (fun x => { x with dupCount := x.dupCount - 1 }) u) :=
      ⟨id, fun h => absurd rfl h⟩
    split
    · exact (hdue.trans (hfall _)).trans (.writePosting _ _)
    · exact hdue.trans (hfall _)
  · exact hdue

theorem Latches.periodExpiry (a b : Bool) (s : State) : Latches s (periodExpiry a b s) := by
  rw [periodExpiry_eq]
  refine (Latches.periodTaken s).trans ?_
  cases a <;> cases b
  · exact ((Latches.lsnExpiry _).trans (.leakExpiry _)).trans (.agePeers _)
  · exact ((Latches.lsnExpiry _).trans (.agePeers _)).trans (.leakExpiry _)
  · exact ((Latches.leakExpiry _).trans (.agePeers _)).trans (.lsnExpiry _)
  · exact ((Latches.agePeers _).trans (.lsnExpiry _)).trans (.leakExpiry _)

/-! ## LSN among the readers of an expiry -/

/-- What LSN's part of an expiry meets: PEER's own part, and what the order puts before it. -/
def listenMet (a b : Bool) (s : State) : State :=
  if a then agePeers (if b then periodTaken s else leakExpiry (periodTaken s)) else periodTaken s

theorem listenMet_frame (a b : Bool) (s : State) : (listenMet a b s).lsn.state = s.lsn.state
    ∧ (listenMet a b s).lsn.claimAge = s.lsn.claimAge ∧ (listenMet a b s).lsn.settle = s.lsn.settle
    ∧ (listenMet a b s).lsn.deferralMs = s.lsn.deferralMs ∧ (listenMet a b s).run = s.run ∧ (listenMet a b s).cyc = s.cyc
    ∧ (listenMet a b s).cfg = s.cfg ∧ (listenMet a b s).peer.table = (tableSeen a s).peer.table := by
  have hdefer (u : State) : (agePeers u).lsn.deferralMs = u.lsn.deferralMs := rfl
  have hage (u : State) : (agePeers u).peer.table = ageTable u.peer.table := rfl
  cases a <;> cases b <;> simp [listenMet, periodTaken, leakExpiry, tableSeen, hdefer, hage]

/-- After LSN's part the other readers leave its state, what it posts, and what it gives RUN and VIB. -/
theorem periodExpiry_listen (a b : Bool) (s : State) :
    (periodExpiry a b s).lsn.state = (lsnExpiry (listenMet a b s)).lsn.state
    ∧ (periodExpiry a b s).lsn.claimAge = (lsnExpiry (listenMet a b s)).lsn.claimAge
    ∧ (periodExpiry a b s).lsn.settle = (lsnExpiry (listenMet a b s)).lsn.settle
    ∧ (periodExpiry a b s).lsn.deferralMs = (lsnExpiry (listenMet a b s)).lsn.deferralMs
    ∧ (periodExpiry a b s).run = (lsnExpiry (listenMet a b s)).run
    ∧ (periodExpiry a b s).peer.posting.listen = (lsnExpiry (listenMet a b s)).peer.posting.listen
    ∧ (periodExpiry a b s).peer.posting.listenAge = (lsnExpiry (listenMet a b s)).peer.posting.listenAge
    ∧ (periodExpiry a b s).vib.state = (lsnExpiry (listenMet a b s)).vib.state
    ∧ (periodExpiry a b s).vib.pass = (lsnExpiry (listenMet a b s)).vib.pass := by
  have hdefer (u : State) : (agePeers u).lsn.deferralMs = u.lsn.deferralMs := rfl
  have hvib (u : State) : (agePeers u).vib.state = u.vib.state ∧ (agePeers u).vib.pass = u.vib.pass := by
    unfold agePeers deriveContamination vibContaminated
    dsimp only
    (repeat' split) <;> exact ⟨rfl, rfl⟩
  rw [periodExpiry_eq]
  cases a <;> cases b <;> simp [expiryReaders, listenMet, leakExpiry, hdefer, hvib]

theorem segKind_congr {s t : State} (hcfg : t.cfg = s.cfg) (hcyc : t.cyc = s.cyc) (hrun : t.run = s.run) :
    segKind t = segKind s := by
  rw [segKind, segKind, segOf, segOf, progOf_congr hcfg (by rw [hcyc]), hrun]

/-- Settles O25: LSN's part of the expiry, on what the order of the readers lets it meet. -/
theorem periodExpiryMovesTheListenState : Obligations.PeriodExpiryMovesTheListenState := by
  intro a b s hb
  refine ⟨_, whenReleased_running hb, ?_⟩
  obtain ⟨hstate, hage, hsettle, hdefer, hrun, hcyc, hcfg, htable⟩ := listenMet_frame a b s
  obtain ⟨tstate, tage, tsettle, tdefer, trun, tlisten, tlistenAge, tvib, tpass⟩ := periodExpiry_listen a b s
  have hkind : segKind (listenMet a b s) = segKind s := segKind_congr hcfg hcyc hrun
  have hseenCfg : (tableSeen a s).cfg = s.cfg := by cases a <;> rfl
  have hclaims : neighbourClaims (listenMet a b s) = neighbourClaims (tableSeen a s) :=
    neighbourClaims_congr htable (hcfg.trans hseenCfg.symm)
  have hwithdrawn : claimWithdrawn (listenMet a b s)
      = (acousticPeers (tableSeen a s)).any (hasPrecedence (min (s.lsn.claimAge + 1) 255) s.cfg.number) := by
    rw [claimWithdrawn, acousticPeers, acousticPeers, htable, hcfg, hage, hseenCfg]
  have hlatch : latchedOn s (leaveIdle (periodExpiry a b s)) :=
    latchedOn_of_latches ((Latches.periodExpiry a b s).trans (.leaveIdle _))
  simp only [leaveIdle_frame, tstate, tage, tsettle, tdefer, trun, tlisten, tlistenAge, tvib, tpass]
  generalize listenMet a b s = w at *
  rw [← hwithdrawn, ← hstate, ← hage, ← hsettle, ← hdefer, ← hkind, ← hclaims, ← hrun]
  have hsettling (hst : w.lsn.state = .claiming) (h1 : w.lsn.settle = 1) := (lsnExpiry_claiming hst).trans (if_pos (by omega))
  refine ⟨fun hst => ?_, fun hst => lsnExpiry_age hst, fun hst => ?_, fun hst hn => ?_, fun hst hn => ?_, fun hst h2 => ?_,
    fun hst h1 hwd => ?_, fun hst h1 hwd => ?_, fun hkeep => ?_, hlatch⟩
  · rw [lsnExpiry_inactive hst]
    exact ⟨hst, rfl⟩
  · rw [lsnExpiry_listening hst]
    exact hst
  · rw [lsnExpiry_deferring hst, if_pos hn]
    exact hst
  · rw [lsnExpiry_deferring hst, if_neg (by simp [hn])]
    exact ⟨rfl, rfl, rfl, rfl⟩
  · rw [lsnExpiry_claiming hst, if_neg (by omega)]
    exact ⟨hst, rfl⟩
  · rw [hsettling hst h1, if_pos hwd]
    exact ⟨rfl, rfl⟩
  · rw [hsettling hst h1, if_neg (by simp [hwd])]
    exact ⟨rfl, rfl, rfl, rfl, fun hin hk hg => runListening_deferred hin hk hg⟩
  · rcases lsnExpiry_run w with h | ⟨hst, hlisten, h⟩
    · exact h
    · rw [h]
      refine runListening_else ?_
      rcases hkeep with h' | h' | h'
      · exact absurd hlisten h'
      · simp [hst] at h'
      · exact h'

end Sys2Proof.Machine
end

section
/-! SUPPORT. The expiry of the posting period at the two circuits, and the fill and stabilise timers (O27, O28). -/
namespace Sys2Proof.Machine

/-! ## The counts of the admission tests (R117, R118) -/

/-- Two states that the admission tests of the circuits do not tell apart. -/
structure AirAlike (s t : State) : Prop where
  table : t.peer.table = s.peer.table
  cfg : t.cfg = s.cfg
  circuits : ∀ c, circuitOf t c = circuitOf s c

/-- One circuit changed, and posted or not. -/
theorem AirAlike.changed {s t u : State} (h : AirAlike s t) (c : CircuitId) (htable : u.peer.table = t.peer.table)
    (hcfg : u.cfg = t.cfg) (hother : ∀ d, d ≠ c → circuitOf u d = circuitOf t d) :
    AirAlike { s with leak := s.leak.set c (circuitOf u c) } u := by
  refine ⟨htable.trans h.table, hcfg.trans h.cfg, fun d => ?_⟩
  by_cases hd : d = c
  · rw [hd]
    exact (leak_set_same s.leak c _).symm
  · rw [hother d hd, h.circuits]
    exact (leak_set_other s.leak c d _ hd).symm

section
variable {s t : State}

theorem AirAlike.airPeers (h : AirAlike s t) : airPeers t = airPeers s := by
  rw [Machine.airPeers, Machine.airPeers, h.table, h.cfg]

theorem AirAlike.fills (h : AirAlike s t) : peerFills t + ownFills t = peerFills s + ownFills s := by
  have h1 : t.leak.c1 = s.leak.c1 := h.circuits .one
  have h2 : t.leak.c2 = s.leak.c2 := h.circuits .two
  rw [peerFills, peerFills, ownFills, ownFills, h.airPeers, h1, h2]

theorem AirAlike.precedingIntents (h : AirAlike s t) (c : CircuitId) :
    precedingIntents c t = precedingIntents c s := by
  have h1 : t.leak.c1 = s.leak.c1 := h.circuits .one
  rw [Machine.precedingIntents, Machine.precedingIntents, h.airPeers, h.circuits, h.cfg, h1]

end

/-- A change of a circuit outside FILL that keeps it there leaves the own fills. -/
theorem fills_withCircuit {c : CircuitId} {f : Circuit → Circuit} {s : State} (hs : (circuitOf s c).state ≠ .fill)
    (ht : (f (circuitOf s c)).state ≠ .fill) :
    peerFills (withCircuit c f s) + ownFills (withCircuit c f s) = peerFills s + ownFills s := by
  have hpeer : peerFills (withCircuit c f s) = peerFills s := rfl
  have hown : ownFills (withCircuit c f s) = ownFills s := by
    cases c
    · simp only [ownFills, if_neg (show ¬ s.leak.c1.state = .fill from hs),
        if_neg (show ¬ (withCircuit .one f s).leak.c1.state = .fill from ht)]
      rfl
    · simp only [ownFills, if_neg (show ¬ s.leak.c2.state = .fill from hs),
        if_neg (show ¬ (withCircuit .two f s).leak.c2.state = .fill from ht)]
      rfl
  rw [hpeer, hown]

/-- The preceding intents, with the own age in R118's words. -/
theorem precedingIntents_eq (c : CircuitId) (s : State) : precedingIntents c s
    = (((airPeers s).filter (fun e => decide ((circuitOf s c).claimAge < effAirAge e)
        || decide (effAirAge e = (circuitOf s c).claimAge) && decide (e.station < s.cfg.number))).map (entryAir .intent)).sum
      + (if c = .two ∧ s.leak.c1.state = .intent then 1 else 0) := by
  have hbeq (x y : Nat) : (x == y) = decide (x = y) := rfl
  simp only [precedingIntents, ← hbeq]
  rfl

/-! ## A circuit's expiry, by its state (R116 to R119) -/

section
variable {c : CircuitId} {s : State}

theorem circuitOf_intentStep_other {d : CircuitId} (s : State) (h : d ≠ c) :
    circuitOf (intentStep c s) d = circuitOf s d := by
  unfold intentStep
  split
  · exact circuitOf_intentTest_other s h
  · rfl

theorem circuitOf_airSettleStep_other {d : CircuitId} (s : State) (h : d ≠ c) :
    circuitOf (airSettleStep c s) d = circuitOf s d := by
  unfold airSettleStep airSettleExpiry
  dsimp only
  (repeat' split) <;> simp [h]

theorem circuitOf_circuitExpiry_other {d : CircuitId} (s : State) (h : d ≠ c) :
    circuitOf (circuitExpiry c s) d = circuitOf s d := by
  rw [circuitExpiry, circuitOf_intentStep_other _ h, circuitOf_airSettleStep_other _ h, withCircuit_other c d _ _ h]

/-- A circuit in a state other than WAIT makes no intent test. -/
theorem intentStep_other (h : (circuitOf s c).state ≠ .wait) : intentStep c s = s := by
  unfold intentStep intentTest
  split
  · exact if_neg fun hw => h hw.1
  · rfl

/-- A circuit that neither waits nor claims stays as it is (R119). -/
theorem circuitExpiry_quiet (h : seeksAir (circuitOf s c).state = false) :
    circuitOf (circuitExpiry c s) c = circuitOf s c := by
  have hw : (circuitOf s c).state ≠ .wait := fun e => by simp [e, seeksAir] at h
  have hi : (circuitOf s c).state ≠ .intent := fun e => by simp [e, seeksAir] at h
  have haged : circuitOf (withCircuit c (fun k => stepBackoff (ageClaim k)) s) c = circuitOf s c := by
    simp [ageClaim, h, stepBackoff, hw]
  rw [circuitExpiry, airSettleStep, if_neg (by rw [haged]; exact hi), intentStep_other (by rw [haged]; exact hw), haged]

/-- A circuit in WAIT one period on (R116, R119). -/
def waitAged (k : Circuit) : Circuit := { k with claimAge := min (k.claimAge + 1) 255, backoff := k.backoff - 1 }

/-- A waiting circuit ages, and with no backoff left makes the intent test (R117, R119). -/
theorem circuitExpiry_wait (h : (circuitOf s c).state = .wait) : circuitOf (circuitExpiry c s) c =
    if (circuitOf s c).backoff - 1 = 0 ∧ peerFills s + ownFills s < s.cfg.station.headerLimit then
      enterIntent (waitAged (circuitOf s c))
    else waitAged (circuitOf s c) := by
  have hf : stepBackoff (ageClaim (circuitOf s c)) = waitAged (circuitOf s c) := by
    simp [ageClaim, h, seeksAir, stepBackoff, waitAged, bump]
  have haged : circuitOf (withCircuit c (fun k => stepBackoff (ageClaim k)) s) c = waitAged (circuitOf s c) :=
    (withCircuit_same c _ s).trans hf
  have hst : (waitAged (circuitOf s c)).state = .wait := h
  have hfills := fills_withCircuit (c := c) (f := fun k => stepBackoff (ageClaim k)) (s := s) (by simp [h]) (by simp [hf, hst])
  rw [circuitExpiry, airSettleStep, if_neg (by simp [haged, hst]), intentStep, haged]
  by_cases h0 : (circuitOf s c).backoff - 1 = 0
  · rw [if_pos (show (waitAged (circuitOf s c)).backoff = 0 from h0), intentTest, haged, hfills]
    simp only [withCircuit_frame, hst, true_and, h0]
    split
    · rw [withCircuit_same, haged]
    · exact haged
  · rw [if_neg (show ¬ (waitAged (circuitOf s c)).backoff = 0 from h0), if_neg fun hx => h0 hx.1, haged]

/-- A circuit in INTENT one period on (R116, R119). -/
def intentAged (k : Circuit) : Circuit := { k with claimAge := min (k.claimAge + 1) 255, settle := k.settle - 1 }

theorem intentAged_settled {k : Circuit} (h : k.settle = 1) :
    intentAged k = { k with claimAge := min (k.claimAge + 1) 255, settle := 0 } := by
  rw [intentAged, h]

/-- The state at the settle expiry: the own claim aged, and its settle count lowered. -/
def claimSettled (c : CircuitId) (s : State) : State :=
  withCircuit c (fun k => { k with settle := k.settle - 1 }) (withCircuit c (fun k => stepBackoff (ageClaim k)) s)

theorem claimSettled_circuit (h : (circuitOf s c).state = .intent) :
    circuitOf (claimSettled c s) c = intentAged (circuitOf s c) := by
  simp [claimSettled, ageClaim, h, seeksAir, stepBackoff, intentAged, bump]

/-- The settle expiry admits the circuit or withdraws it; the intent test that follows leaves either (R118). -/
theorem intentStep_settled (s : State) : circuitOf (intentStep c (airSettleExpiry c s)) c =
    if peerFills s + ownFills s + precedingIntents c s < s.cfg.station.headerLimit then enterFill (paramsOf s c) (circuitOf s c)
    else withdraw (circuitOf s c) := by
  unfold airSettleExpiry
  split
  · have hfill := withCircuit_same c (enterFill (paramsOf s c)) s
    rw [intentStep_other (by rw [hfill]; exact nofun), hfill]
  · have hwait := withCircuit_same c withdraw s
    rw [intentStep, hwait, if_neg (show ¬ (withdraw (circuitOf s c)).backoff = 0 from nofun), hwait]

/-- An own claim ages, and at a settle count of 0 the circuit is admitted or withdrawn (R118, R119). -/
theorem circuitExpiry_intent (h : (circuitOf s c).state = .intent) : circuitOf (circuitExpiry c s) c =
    if (circuitOf s c).settle - 1 = 0 then
      (if peerFills (claimSettled c s) + ownFills (claimSettled c s) + precedingIntents c (claimSettled c s)
          < s.cfg.station.headerLimit
        then enterFill (paramsOf s c) (intentAged (circuitOf s c)) else withdraw (intentAged (circuitOf s c)))
    else intentAged (circuitOf s c) := by
  have haged : (circuitOf (withCircuit c (fun k => stepBackoff (ageClaim k)) s) c).state = .intent := by
    simp [ageClaim, h, seeksAir, stepBackoff]
  have hsettled := claimSettled_circuit h
  have hparams : paramsOf (claimSettled c s) c = paramsOf s c := by cases c <;> rfl
  have hcfg : (claimSettled c s).cfg = s.cfg := rfl
  rw [circuitExpiry, airSettleStep, if_pos haged]
  dsimp only
  rw [← claimSettled, hsettled]
  by_cases h1 : (circuitOf s c).settle - 1 = 0
  · rw [if_pos (show (intentAged (circuitOf s c)).settle = 0 from h1), if_pos h1, intentStep_settled, hsettled, hparams, hcfg]
  · rw [if_neg (show ¬ (intentAged (circuitOf s c)).settle = 0 from h1), if_neg h1,
      intentStep_other (by rw [hsettled]; simp [intentAged, h]), hsettled]

end

/-- The admission counts at the settle expiry, as another state that is alike shows them. -/
theorem AirAlike.claimSettled {s t : State} {c : CircuitId} (h : AirAlike s t) (hst : (circuitOf t c).state = .intent) :
    AirAlike { s with leak := s.leak.set c (intentAged (circuitOf t c)) } (claimSettled c t) := by
  rw [← claimSettled_circuit hst]
  exact h.changed c rfl rfl fun d hd => by simp [Machine.claimSettled, hd]

/-! ## What a circuit posts (R113) -/

/-- The posting shows the state of each circuit. -/
def airShown (s : State) : Prop := ∀ c, airPosted s c = airOf (circuitOf s c).state

theorem airShown_postAir (s : State) : airShown (postAir s) := fun c => by cases c <;> rfl

theorem airShown_withCircuit (c : CircuitId) (f : Circuit → Circuit) (s : State) : airShown (withCircuit c f s) :=
  airShown_postAir _

theorem airShown_intentTest {c : CircuitId} {s : State} (h : airShown s) : airShown (intentTest c s) := by
  unfold intentTest
  split
  · exact airShown_withCircuit c _ s
  · exact h

theorem airShown_circuitExpiry (c : CircuitId) (s : State) : airShown (circuitExpiry c s) := by
  have hsettled (u : State) (h : airShown u) : airShown (airSettleStep c u) := by
    unfold airSettleStep airSettleExpiry
    dsimp only
    (repeat' split) <;> first | exact h | exact airShown_withCircuit c _ _
  have hstep := hsettled _ (airShown_withCircuit c (fun k => stepBackoff (ageClaim k)) s)
  unfold circuitExpiry intentStep
  split
  · exact airShown_intentTest hstep
  · exact hstep

theorem airShown_leakExpiry (s : State) : airShown (leakExpiry s) := airShown_circuitExpiry .two _

theorem airShown_congr {s t : State} (h : airShown s) (hleak : t.leak = s.leak)
    (h1 : t.peer.posting.air1 = s.peer.posting.air1) (h2 : t.peer.posting.air2 = s.peer.posting.air2) : airShown t := by
  intro c
  rw [circuitOf_congr hleak]
  cases c
  · exact h1.trans (h .one)
  · exact h2.trans (h .two)

/-! ## The circuits among the readers of an expiry -/

/-- What the circuits' part of an expiry meets: PEER's own part, and what the order puts before it. -/
def leakMet (a b : Bool) (s : State) : State :=
  if b then (if a then lsnExpiry (agePeers (periodTaken s)) else agePeers (lsnExpiry (periodTaken s)))
  else (if a then periodTaken s else lsnExpiry (periodTaken s))

theorem leakMet_frame (a b : Bool) (s : State) : (leakMet a b s).leak = s.leak ∧ (leakMet a b s).cfg = s.cfg
    ∧ (leakMet a b s).cyc = s.cyc ∧ (leakMet a b s).peer.table = (tableSeen b s).peer.table := by
  have hage (u : State) : (agePeers u).peer.table = ageTable u.peer.table := rfl
  cases a <;> cases b <;> simp [leakMet, periodTaken, tableSeen, hage]

theorem periodExpiry_leak (a b : Bool) (s : State) : (periodExpiry a b s).leak = (leakExpiry (leakMet a b s)).leak
    ∧ (periodExpiry a b s).peer.posting.air1 = (leakExpiry (leakMet a b s)).peer.posting.air1
    ∧ (periodExpiry a b s).peer.posting.air2 = (leakExpiry (leakMet a b s)).peer.posting.air2 := by
  rw [periodExpiry_eq]
  cases a <;> cases b <;> simp [expiryReaders, leakMet]

/-- What the readers of an expiry show a circuit, circuit 2 with circuit 1 as its own steps left it (R119). -/
def airMet (b : Bool) (s t : State) : CircuitId → State
  | .one => tableSeen b s
  | .two => { tableSeen b s with leak := { s.leak with c1 := t.leak.c1 } }

/-- Each circuit takes its own steps, on what the order of the readers lets it meet. -/
theorem periodExpiry_circuit (a b : Bool) (s : State) (c : CircuitId) : ∃ w, AirAlike (airMet b s (periodExpiry a b s) c) w
    ∧ circuitOf w c = circuitOf s c ∧ paramsOf w c = paramsOf s c ∧ w.cfg = s.cfg
    ∧ circuitOf (periodExpiry a b s) c = circuitOf (circuitExpiry c w) c := by
  obtain ⟨hleak, hcfg, hcyc, htable⟩ := leakMet_frame a b s
  have hseen : (tableSeen b s).leak = s.leak ∧ (tableSeen b s).cfg = s.cfg := by cases b <;> exact ⟨rfl, rfl⟩
  have hend (d : CircuitId) : circuitOf (periodExpiry a b s) d = circuitOf (leakExpiry (leakMet a b s)) d :=
    circuitOf_congr (periodExpiry_leak a b s).1 d
  have hone : circuitOf (periodExpiry a b s) .one = circuitOf (circuitExpiry .one (leakMet a b s)) .one :=
    (hend .one).trans (circuitOf_circuitExpiry_other _ (by decide))
  have hprog (u : State) (h1 : u.cfg = s.cfg) (h2 : u.cyc = s.cyc) : paramsOf u c = paramsOf s c := by
    cases c <;> rw [paramsOf, paramsOf, progOf_congr h1 (by rw [h2])]
  cases c with
  | one =>
    exact ⟨leakMet a b s, ⟨htable, hcfg.trans hseen.2.symm, circuitOf_congr (hleak.trans hseen.1.symm)⟩,
      circuitOf_congr hleak _, hprog _ hcfg hcyc, hcfg, hone⟩
  | two =>
    have htwo : circuitOf (circuitExpiry .one (leakMet a b s)) .two = circuitOf s .two :=
      (circuitOf_circuitExpiry_other _ (by decide)).trans (circuitOf_congr hleak .two)
    refine ⟨circuitExpiry .one (leakMet a b s), ⟨by simp [htable, airMet], by simp [hcfg, airMet, hseen], fun d => ?_⟩,
      htwo, hprog _ (by simp [hcfg]) (by simp [hcyc]), by simp [hcfg], hend .two⟩
    cases d with
    | one => exact hone.symm
    | two => exact htwo

/-- Settles O27: each circuit's own steps, on what the order of the readers lets it meet. -/
theorem periodExpiryDecidesAirAdmission : Obligations.PeriodExpiryDecidesAirAdmission := by
  intro a b s hb
  refine ⟨_, whenReleased_running hb, latchedOn_of_latches ((Latches.periodExpiry a b s).trans (.leaveIdle _)), fun c => ?_⟩
  obtain ⟨w, hlike, hcircuit, hparams, hcfg, hend⟩ := periodExpiry_circuit a b s c
  have hshown : airShown (leaveIdle (periodExpiry a b s)) := by
    obtain ⟨hleak, h1, h2⟩ := periodExpiry_leak a b s
    exact airShown_congr (airShown_leakExpiry (leakMet a b s)) (by simp [hleak]) (by simp [h1]) (by simp [h2])
  have hair := hshown c
  have hleak : (leaveIdle (periodExpiry a b s)).leak = (periodExpiry a b s).leak := by simp
  rw [circuitOf_congr hleak] at hair ⊢
  rw [hleak, hair]
  refine ⟨airMet b s (periodExpiry a b s) c, _, by cases c <;> rfl, rfl, ?_⟩
  rw [hend, ← hcircuit, ← hparams, ← hcfg]
  refine ⟨fun hst h1 => ?_, fun hst h2 => ?_, fun hst => ?_, fun hst h1 => ?_,
    fun hst h2 => ?_, fun hst => circuitExpiry_quiet hst⟩
  · have hsettled := intentAged_settled h1
    have hu := hlike.claimSettled hst
    have hexpiry := (circuitExpiry_intent hst).trans (if_pos (by omega))
    rw [hu.fills, hu.precedingIntents] at hexpiry
    rw [hsettled] at hu hexpiry
    refine ⟨_, rfl, ?_, fun hadmit => ?_, fun hfull => ?_⟩
    · rw [precedingIntents_eq, hlike.cfg]
      cases c <;> rfl
    · rw [hexpiry, if_pos hadmit]
      exact ⟨rfl, rfl, rfl, rfl, rfl, rfl, rfl, rfl⟩
    · rw [hexpiry, if_neg (Nat.not_lt.mpr hfull)]
      exact ⟨rfl, rfl, rfl, rfl⟩
  · rw [circuitExpiry_intent hst, if_neg (by omega)]
    exact ⟨hst, rfl, rfl⟩
  · rw [circuitExpiry_wait hst]
    split <;> rfl
  · rw [circuitExpiry_wait hst, hlike.fills]
    refine ⟨fun hfree => ?_, fun hfull => ?_⟩
    · rw [if_pos ⟨by omega, hfree⟩]
      exact ⟨rfl, rfl, rfl⟩
    · rw [if_neg (by omega)]
      exact ⟨hst, show (circuitOf w c).backoff - 1 = 0 by omega⟩
  · rw [circuitExpiry_wait hst, if_neg (by omega)]
    exact ⟨hst, rfl⟩

/-! ## The fill and stabilise timers (R122, R123) -/

theorem airPosted_withCircuit (c : CircuitId) (f : Circuit → Circuit) (s : State) :
    airPosted (withCircuit c f s) c = airOf (f (circuitOf s c)).state := by
  rw [airShown_withCircuit c f s c, withCircuit_same]

theorem airPosted_leaveIdle (s : State) (c : CircuitId) : airPosted (leaveIdle s) c = airPosted s c := by
  cases c <;> simp [airPosted]

theorem circuitOf_leaveIdle (s : State) (c : CircuitId) : circuitOf (leaveIdle s) c = circuitOf s c :=
  circuitOf_congr (by simp) c

/-- A deviation told to DEV leaves the circuits, and the programme that they run under. -/
theorem takeDev_circuits (e : DevEvent) (s : State) (c : CircuitId) :
    circuitOf (takeDev e s) c = circuitOf s c ∧ paramsOf (takeDev e s) c = paramsOf s c := by
  have hprog : progOf (takeDev e s) = progOf s := progOf_congr (by simp) (by simp)
  refine ⟨circuitOf_congr (by simp) c, ?_⟩
  cases c <;> rw [paramsOf, paramsOf, hprog]

theorem fillExpired_fill {c : CircuitId} {s : State} (h : (circuitOf s c).state = .fill) : fillExpired c s
    = withCircuit c (fun k => endWith .gross (paramsOf s c) { k with fillTime := (paramsOf s c).fillMs })
        (takeDev ⟨.grossLeak, circuitNum c, latest s (prsOf c), (paramsOf s c).testPressure⟩ s) := if_pos h

/-- The stabilise timer extends once on a drift, and else leads to MEASURE (R123). -/
def stabilised (p : CircuitParams) (airt : Nat) (k : Circuit) : Circuit :=
  if driftHigh p airt k then { k with extended := true, timer := p.stabiliseMs } else enterMeasure p k

theorem stabiliseExpired_stabilise {c : CircuitId} {s : State} (h : (circuitOf s c).state = .stabilise) :
    circuitOf (stabiliseExpired c s) c = stabilised (paramsOf s c) (latest s (airtOf c)) (circuitOf s c)
    ∧ (∀ d, d ≠ c → circuitOf (stabiliseExpired c s) d = circuitOf s d) ∧ Latches s (stabiliseExpired c s) := by
  unfold stabiliseExpired stabilised
  rw [if_pos h]
  split <;> exact ⟨withCircuit_same c _ s, fun d hd => withCircuit_other c d _ s hd, .withCircuit c _ s⟩

/-- Settles O28: the two timers, by the circuit's state and the drift. -/
theorem fillAndStabiliseTimersExpire : Obligations.FillAndStabiliseTimersExpire := by
  intro c s hb
  refine ⟨fun hst => ⟨_, whenReleased_running hb, ?_⟩, fun hst => ?_, fun hst => ⟨_, whenReleased_running hb, ?_⟩, fun hst => ?_⟩
  · rw [fillExpired_fill hst, circuitOf_leaveIdle, withCircuit_same, (takeDev_circuits _ s c).1, airPosted_leaveIdle,
      airPosted_withCircuit]
    refine ⟨by simp, rfl, rfl, rfl, rfl, rfl, rfl, rfl,
      latchedOn_of_latches (((Latches.takeDev _ s).trans (.withCircuit c _ _)).trans (.leaveIdle _)), fun d hd => ?_, by simp, by simp⟩
    rw [circuitOf_leaveIdle, withCircuit_other c d _ _ hd, (takeDev_circuits _ s d).1]
  · exact whenReleased_eq hb (if_neg hst)
  · obtain ⟨hsame, hother, hlatch⟩ := stabiliseExpired_stabilise hst
    rw [circuitOf_leaveIdle, hsame, stabilised]
    refine ⟨fun hd => if_pos hd, fun hd => ?_, latchedOn_of_latches (hlatch.trans (.leaveIdle _)),
      fun d hd => (circuitOf_leaveIdle _ d).trans (hother d hd), by simp, by simp, by simp⟩
    rw [if_neg (by simp [hd])]
    exact ⟨rfl, rfl, rfl, rfl, rfl, rfl⟩
  · exact whenReleased_eq hb (if_neg hst)

end Sys2Proof.Machine
end

section
/-! SUPPORT. Deviations that stop the run-in, the drive-ready input and the slow samples (O39, O45). -/
namespace Sys2Proof.Machine

/-! ## A deviation told to DEV (R144) -/

/-- What DEV makes of a deviation follows its own state, the configuration and CYC. -/
theorem takeDev_congr {s t : State} (e : DevEvent) (hdev : t.dev = s.dev) (hcfg : t.cfg = s.cfg) (hcyc : t.cyc = s.cyc) :
    (takeDev e t).dev = (takeDev e s).dev := by
  have hmasked : maskedClass t e.cls = maskedClass s e.cls := by rw [maskedClass, maskedClass, hcfg]
  have hsev : severityOf t e.cls = severityOf s e.cls := by rw [severityOf, severityOf, hcfg]
  have htime : cycleTime t = cycleTime s := by rw [cycleTime, cycleTime, hcyc]
  rw [takeDev, takeDev, apply_ite State.dev, apply_ite State.dev, hmasked, hsev, htime, hdev, hcyc]

/-! ## RUN stopped by a deviation (R59, R76, R96) -/

/-- RUN stopped with an end reason, or left where no reason is given. -/
def stoppedRun : Option EndReason → Run → Run
  | some why, r => { r with state := .stopping, holds := noHolds, endReason := why }
  | none, r => r

section
variable {s : State} {why : EndReason}

theorem toStopping_run (h : inSegment s.run.state = true) : (toStopping why s).run = stoppedRun (some why) s.run := by
  rw [toStopping, if_pos h]
  simp [stoppedRun]

theorem toStopping_other (h : inSegment s.run.state = false) : toStopping why s = s := if_neg (by simp [h])

/-- A stop abandons a sweep, and the station yields to no peer. -/
theorem toStopping_told (h : inSegment s.run.state = true) : (toStopping why s).lsn.state = .inactive
    ∧ (toStopping why s).vib.state = .idle ∧ (toStopping why s).peer.posting.yielding = false := by
  rw [toStopping, if_pos h]
  refine ⟨(abandonSweep_idle _).2, (abandonSweep_idle _).1, ?_⟩
  simp [postYielding]

end

section
variable (c : DevClass) (measured limit : Nat) (s : State)

theorem runDeviation_dev :
    (runDeviation c measured limit s).dev = (takeDev ⟨c, s.run.seg, measured, limit⟩ s).dev := by
  unfold runDeviation
  dsimp only
  split <;> simp

/-- A deviation of RUN's own stops a run-in that executes a segment, where its class calls for it (R59). -/
theorem runDeviation_run : (runDeviation c measured limit s).run
    = stoppedRun (if inSegment s.run.state then stopReason s c else none) s.run := by
  unfold runDeviation
  dsimp only
  split
  next why hwhy =>
    cases hin : inSegment s.run.state with
    | true =>
      rw [toStopping_run (by simpa using hin)]
      simp [hwhy]
    | false =>
      rw [toStopping_other (by simpa using hin)]
      simp [stoppedRun]
  next hnone => simp [hnone, stoppedRun]

end

/-! ## The drive-ready input (R58, R59) -/

theorem driveLost_other {s : State} (h : inSegment s.run.state = false) : driveLost s = s := if_neg (by simp [h])

/-- The loss told, before its class is looked at. -/
def driveLossTold (s : State) : State :=
  takeDev ⟨.speedTrack, s.run.seg, s.run.measured, 0⟩ (withRun (fun r => { r with driveLost := true }) s)

theorem driveLost_segment {s : State} (h : inSegment s.run.state = true) : driveLost s =
    if maskedClass s .speedTrack then driveLossTold s else toStopping .trackStop (setSpeed 0 (driveLossTold s)) := if_pos h

theorem driveLossTold_dev (s : State) :
    (driveLossTold s).dev = (takeDev ⟨.speedTrack, s.run.seg, s.run.measured, 0⟩ s).dev := takeDev_congr _ rfl rfl rfl

theorem driveLossTold_run (s : State) : (driveLossTold s).run = { s.run with driveLost := true } := by
  simp [driveLossTold]

theorem setSpeed_zero (s : State) : (setSpeed 0 s).peer.posting.demand = 0 ∧ (setSpeed 0 s).peer.posting.acoustic = .quiet := by
  rw [setSpeed_eq 0 s (acoustic := .quiet) (if_neg (Nat.not_lt_zero _)).symm]
  exact ⟨rfl, rfl⟩

/-- The stop at the loss: the run-in ended with the commanded speed 0, which is posted (R59). -/
theorem driveLost_unmasked {s : State} (h : inSegment s.run.state = true) :
    let t := toStopping .trackStop (setSpeed 0 (driveLossTold s))
    t.run.state = .stopping ∧ t.run.endReason = .trackStop ∧ t.run.cmd = 0 ∧ t.run.holds = noHolds
    ∧ t.run.driveLost = true ∧ t.lsn.state = .inactive ∧ t.vib.state = .idle
    ∧ t.peer.posting.demand = 0 ∧ t.peer.posting.acoustic = .quiet ∧ t.peer.posting.yielding = false := by
  intro t
  have hin : inSegment (setSpeed 0 (driveLossTold s)).run.state = true := by simpa [setSpeed, driveLossTold_run] using h
  obtain ⟨hlsn, hvib, hyields⟩ := toStopping_told (why := .trackStop) hin
  have hrun : t.run = _ := toStopping_run hin
  refine ⟨?_, ?_, ?_, ?_, ?_, hlsn, hvib, ?_, ?_, hyields⟩
  · simp [hrun, stoppedRun]
  · simp [hrun, stoppedRun]
  · simp [hrun, stoppedRun, setSpeed]
  · simp [hrun, stoppedRun]
  · simp [hrun, stoppedRun, setSpeed, driveLossTold_run]
  · simpa [t] using (setSpeed_zero _).1
  · simpa [t] using (setSpeed_zero _).2

theorem driveLossTold_frame (s : State) : (driveLossTold s).cyc = s.cyc ∧ (driveLossTold s).leak = s.leak
    ∧ (driveLossTold s).store = s.store ∧ (driveLossTold s).lsn = s.lsn ∧ (driveLossTold s).vib = s.vib := by
  simp [driveLossTold]

/-- Settles O39: outside a segment the level alone, in one the loss told, and unless masked the stop. -/
theorem driveReadyFallStopsTheRunIn : Obligations.DriveReadyFallStopsTheRunIn := by
  intro s hb
  refine ⟨fun hin => whenReleased_eq (s := { s with pins := _ }) hb (driveLost_other hin), fun hin => ?_⟩
  let w : State := { s with pins := { s.pins with driveReady := false } }
  refine ⟨_, whenReleased_eq (s := w) hb (driveLost_segment hin), ?_⟩
  obtain ⟨hcyc, hleak, hstore, hlsn, hvib⟩ := driveLossTold_frame w
  have hdev : (driveLossTold w).dev = (takeDev ⟨.speedTrack, s.run.seg, s.run.measured, 0⟩ s).dev :=
    (driveLossTold_dev w).trans (takeDev_pins _ _ s)
  have hrun : (driveLossTold w).run = { s.run with driveLost := true } := driveLossTold_run w
  cases hm : maskedClass s .speedTrack with
  | true =>
    rw [if_pos (show maskedClass w .speedTrack = true from hm)]
    refine ⟨by simp [hdev], by simp [hrun], by simp [hcyc, w], by simp [hleak, w], by simp [hstore, w],
      fun _ => ⟨by simp [hrun], by simp [hlsn, w], by simp [hvib, w]⟩, nofun⟩
  | false =>
    rw [if_neg (show ¬ maskedClass w .speedTrack = true by simp [show maskedClass w .speedTrack = false from hm])]
    obtain ⟨hstate, hend, hcmd, hholds, hlost, tlsn, tvib, hdemand, hacoustic, hyields⟩ := driveLost_unmasked (s := w) hin
    have htold : Latches s (driveLossTold w) := (Latches.takeDev _ (withRun _ w)).after rfl
    refine ⟨by simp [hdev], by simpa using hlost, by simp [hcyc, w], by simp [hleak, w], by simp [hstore, w], nofun, fun _ => ?_⟩
    simp only [leaveIdle_frame]
    exact ⟨hstate, hend, hcmd, hholds, tlsn, tvib, hdemand, hacoustic, hyields,
      latchedOn_of_latches (((htold.trans (.setSpeed 0 _)).trans (.toStopping _ _)).trans (.leaveIdle _))⟩

end Sys2Proof.Machine
end

section
/-! SUPPORT. A slow sample delivered to RUN and to the circuits (O45). -/
namespace Sys2Proof.Machine

/-! ## The channel written (R103) -/

theorem slowOf_setSlow_same (ch : Slow) (x : SlowValue) (k : Sca) : slowOf (setSlow ch x k) ch = x := by cases ch <;> rfl

theorem slowOf_setSlow_other {ch d : Slow} (x : SlowValue) (k : Sca) (h : d ≠ ch) : slowOf (setSlow ch x k) d = slowOf k d := by
  cases ch <;> cases d <;> first | rfl | exact absurd rfl h

/-- The sample written, before its consumer has it. -/
def slowWritten (ch : Slow) (code : Nat) (s : State) : State :=
  withSca (fun c => { setSlow ch ⟨code, true, 0⟩ c with inFlight := none }) s

theorem slowDone_eq {ch : Slow} {s : State} (code : Nat) (h : s.sca.inFlight = some ch) :
    slowDone code s = deliverSample ch code (slowWritten ch code s) := by
  rw [slowDone, h]
  rfl

theorem slowDone_idle {s : State} (code : Nat) (h : s.sca.inFlight = none) : slowDone code s = s := by rw [slowDone, h]

theorem slowWritten_sca (ch : Slow) (code : Nat) (s : State) : slowOf (slowWritten ch code s).sca ch = ⟨code, true, 0⟩
    ∧ (slowWritten ch code s).sca.inFlight = none
    ∧ (∀ d, d ≠ ch → slowOf (slowWritten ch code s).sca d = slowOf s.sca d)
    ∧ (slowWritten ch code s).sca.active = s.sca.active ∧ (slowWritten ch code s).sca.pointer = s.sca.pointer := by
  have hslow (k : Sca) (d : Slow) : slowOf { k with inFlight := none } d = slowOf k d := by cases d <;> rfl
  refine ⟨(hslow _ _).trans (slowOf_setSlow_same ch _ _), rfl, fun d hd => (hslow _ _).trans (slowOf_setSlow_other _ _ hd), ?_, ?_⟩
  · cases ch <;> rfl
  · cases ch <;> rfl

/-! ## Torque and oil (R56, R57) -/

/-- A torque sample: kept, and above the limit a deviation once in the segment. -/
theorem takeTorq_eq (code : Nat) (s : State) : takeTorq code s =
    if inRunIn s.run.state = true ∧ (segOf s).torqueLimit < (torqueOf code).natAbs ∧ inSet s.run.torqueMarks s.run.seg = false then
      runDeviation .torqueHigh (torqueOf code).natAbs (segOf s).torqueLimit (withRun (fun r => { r with
        torque := torqueOf code
        maxTorque := max r.maxTorque (torqueOf code).natAbs
        torqueMarks := addTo r.torqueMarks r.seg }) s)
    else withRun (fun r => { r with
        torque := torqueOf code
        maxTorque := if inRunIn r.state then max r.maxTorque (torqueOf code).natAbs else r.maxTorque }) s := by
  unfold takeTorq
  dsimp only
  by_cases hin : inRunIn s.run.state = true
  · refine (if_pos hin).trans ?_
    by_cases hhigh : (segOf s).torqueLimit < (torqueOf code).natAbs ∧ inSet s.run.torqueMarks s.run.seg = false
    · exact (if_pos hhigh).trans (if_pos ⟨hin, hhigh⟩).symm
    · refine (if_neg hhigh).trans (Eq.trans ?_ (if_neg fun h => hhigh h.2).symm)
      simp only [withRun, hin, if_true]
  · refine (if_neg hin).trans (Eq.trans ?_ (if_neg fun h => hin h.1).symm)
    simp only [withRun, if_neg hin]

/-- An oil sample: kept, and above the limit a deviation once in the cycle. -/
theorem takeOilt_eq (code : Nat) (s : State) : takeOilt code s =
    if inRunIn s.run.state = true ∧ (progOf s).oilLimit < code ∧ s.run.oilTempMark = false then
      runDeviation .oilTempHigh code (progOf s).oilLimit (withRun (fun r => { r with
        oilCode := some code, maxOil := max r.maxOil code, oilTempMark := true }) s)
    else withRun (fun r => { r with
        oilCode := some code, maxOil := if inRunIn r.state then max r.maxOil code else r.maxOil }) s := by
  unfold takeOilt
  dsimp only
  by_cases hin : inRunIn s.run.state = true
  · refine (if_pos hin).trans ?_
    by_cases hhigh : (progOf s).oilLimit < code ∧ s.run.oilTempMark = false
    · exact (if_pos hhigh).trans (if_pos ⟨hin, hhigh⟩).symm
    · refine (if_neg hhigh).trans (Eq.trans ?_ (if_neg fun h => hhigh h.2).symm)
      simp only [withRun, hin, if_true]
  · refine (if_neg hin).trans (Eq.trans ?_ (if_neg fun h => hin h.1).symm)
    simp only [withRun, if_neg hin]

/-- The torque and the temperature stop the run-in where their class is unmasked and FATAL (R59). -/
theorem runDeviation_limit {c : DevClass} (measured limit : Nat) (s : State) (hc : c = .torqueHigh ∨ c = .oilTempHigh) :
    (inSegment s.run.state = true → maskedClass s c = false → severityOf s c = .fatal →
      (runDeviation c measured limit s).run = stoppedRun (some .fatalStop) s.run)
    ∧ (s.run.state = .stopping ∨ maskedClass s c = true ∨ severityOf s c ≠ .fatal →
      (runDeviation c measured limit s).run = s.run) := by
  have hreason : stopReason s c = if maskedClass s c = false ∧ severityOf s c = .fatal then some .fatalStop else none := by
    rcases hc with rfl | rfl <;> (unfold stopReason; cases maskedClass s _ <;> simp)
  refine ⟨fun hin hm hf => ?_, fun h => ?_⟩
  · rw [runDeviation_run, if_pos hin, hreason, if_pos ⟨hm, hf⟩]
  · rw [runDeviation_run, hreason]
    rcases h with h | h | h
    · simp [h, inSegment, stoppedRun]
    · simp [h, stoppedRun]
    · simp [h, stoppedRun]

theorem stoppedRun_keeps (o : Option EndReason) (r : Run) : (stoppedRun o r).torque = r.torque
    ∧ (stoppedRun o r).maxTorque = r.maxTorque ∧ (stoppedRun o r).torqueMarks = r.torqueMarks
    ∧ (stoppedRun o r).oilCode = r.oilCode ∧ (stoppedRun o r).maxOil = r.maxOil
    ∧ (stoppedRun o r).oilTempMark = r.oilTempMark := by
  cases o <;> exact ⟨rfl, rfl, rfl, rfl, rfl, rfl⟩

section
variable {code : Nat} {s : State}

/-- RUN with a torque sample that raises its deviation. -/
def torqueMarked (code : Nat) (s : State) : State := withRun (fun r => { r with
  torque := torqueOf code
  maxTorque := max r.maxTorque (torqueOf code).natAbs
  torqueMarks := addTo r.torqueMarks r.seg }) s

theorem takeTorq_raises (hin : inRunIn s.run.state = true) (hhigh : (segOf s).torqueLimit < (torqueOf code).natAbs)
    (hmark : inSet s.run.torqueMarks s.run.seg = false) : takeTorq code s
      = runDeviation .torqueHigh (torqueOf code).natAbs (segOf s).torqueLimit (torqueMarked code s) :=
  (takeTorq_eq code s).trans (if_pos ⟨hin, hhigh, hmark⟩)

theorem takeTorq_kept (code : Nat) (s : State) : (takeTorq code s).run.torque = torqueOf code
    ∧ (takeTorq code s).run.maxTorque
      = if inRunIn s.run.state then max s.run.maxTorque (torqueOf code).natAbs else s.run.maxTorque := by
  rw [takeTorq_eq]
  split
  next h =>
    simp only [runDeviation_run, stoppedRun_keeps, if_pos h.1]
    exact ⟨rfl, rfl⟩
  next => exact ⟨rfl, rfl⟩

theorem takeTorq_silent (h : inRunIn s.run.state = false ∨ (torqueOf code).natAbs ≤ (segOf s).torqueLimit
    ∨ inSet s.run.torqueMarks s.run.seg = true) : (takeTorq code s).dev = s.dev
      ∧ (takeTorq code s).run.torqueMarks = s.run.torqueMarks ∧ (takeTorq code s).run.state = s.run.state := by
  rw [takeTorq_eq, if_neg]
  · exact ⟨rfl, rfl, rfl⟩
  · rintro ⟨hin, hhigh, hmark⟩
    rcases h with h | h | h
    · simp [hin] at h
    · omega
    · simp [hmark] at h

/-- RUN with an oil sample that raises its deviation. -/
def oilMarked (code : Nat) (s : State) : State := withRun (fun r => { r with
  oilCode := some code, maxOil := max r.maxOil code, oilTempMark := true }) s

theorem takeOilt_raises (hin : inRunIn s.run.state = true) (hhigh : (progOf s).oilLimit < code)
    (hmark : s.run.oilTempMark = false) :
    takeOilt code s = runDeviation .oilTempHigh code (progOf s).oilLimit (oilMarked code s) :=
  (takeOilt_eq code s).trans (if_pos ⟨hin, hhigh, hmark⟩)

theorem takeOilt_kept (code : Nat) (s : State) : (takeOilt code s).run.oilCode = some code
    ∧ (takeOilt code s).run.maxOil = if inRunIn s.run.state then max s.run.maxOil code else s.run.maxOil := by
  rw [takeOilt_eq]
  split
  next h =>
    simp only [runDeviation_run, stoppedRun_keeps, if_pos h.1]
    exact ⟨rfl, rfl⟩
  next => exact ⟨rfl, rfl⟩

theorem takeOilt_silent (h : inRunIn s.run.state = false ∨ code ≤ (progOf s).oilLimit ∨ s.run.oilTempMark = true) :
    (takeOilt code s).dev = s.dev ∧ (takeOilt code s).run.oilTempMark = s.run.oilTempMark
      ∧ (takeOilt code s).run.state = s.run.state := by
  rw [takeOilt_eq, if_neg]
  · exact ⟨rfl, rfl, rfl⟩
  · rintro ⟨hin, hhigh, hmark⟩
    rcases h with h | h | h
    · simp [hin] at h
    · omega
    · simp [hmark] at h

end

/-! ## Pressure and air temperature at a circuit (R104, R122, R124, R125) -/

section
variable {c : CircuitId} {s : State}

theorem takePrs_other {d : CircuitId} (code : Nat) (h : d ≠ c) : circuitOf (takePrs c code s) d = circuitOf s d := by
  have hfloor (u : State) : circuitOf (floorTest c code u) d = circuitOf u d := by
    unfold floorTest
    split
    · rw [withCircuit_other c d _ _ h, (takeDev_circuits _ _ _).1]
    · rfl
  unfold takePrs
  (repeat' split) <;> simp [hfloor, h]

theorem takeAirt_other {d : CircuitId} (code : Nat) (h : d ≠ c) : circuitOf (takeAirt c code s) d = circuitOf s d := by
  unfold takeAirt
  split
  · exact withCircuit_other c d _ _ h
  · rfl

end

section
variable {c : CircuitId} {s : State} (code : Nat)

theorem takePrs_fill (h : (circuitOf s c).state = .fill) : takePrs c code s = if (paramsOf s c).testPressure ≤ code then
    withCircuit c (enterStabilise (paramsOf s c) (latest s (airtOf c))) s else s := by
  rw [takePrs, h]

theorem takePrs_stabilise (h : (circuitOf s c).state = .stabilise) : takePrs c code s = floorTest c code s := by
  rw [takePrs, h]

theorem takePrs_measure (h : (circuitOf s c).state = .measure) :
    takePrs c code s = floorTest c code (withCircuit c (windowPrs code) s) := by
  rw [takePrs, h]

theorem floorTest_above (h : (paramsOf s c).grossFloor ≤ code) : floorTest c code s = s := if_neg (Nat.not_lt.mpr h)

/-- A sample below the floor is a gross leak, of which the circuit vents (R124). -/
theorem floorTest_below (h : code < (paramsOf s c).grossFloor) :
    circuitOf (floorTest c code s) c = endWith .gross (paramsOf s c) (circuitOf s c)
    ∧ (floorTest c code s).dev = (takeDev ⟨.grossLeak, circuitNum c, code, (paramsOf s c).grossFloor⟩ s).dev := by
  rw [floorTest, if_pos h, withCircuit_same, (takeDev_circuits _ s c).1]
  exact ⟨rfl, rfl⟩

theorem takePrs_below (h : (circuitOf s c).state = .stabilise ∨ (circuitOf s c).state = .measure)
    (hlow : code < (paramsOf s c).grossFloor) : (circuitOf (takePrs c code s) c).state = .vent
    ∧ (circuitOf (takePrs c code s) c).outcome = .gross
    ∧ (circuitOf (takePrs c code s) c).leakRate = (circuitOf s c).leakRate
    ∧ (circuitOf (takePrs c code s) c).timer = (paramsOf s c).ventMs
    ∧ (takePrs c code s).dev = (takeDev ⟨.grossLeak, circuitNum c, code, (paramsOf s c).grossFloor⟩ s).dev := by
  rcases h with h | h
  · obtain ⟨hc, hd⟩ := floorTest_below code hlow
    rw [takePrs_stabilise code h, hc, hd]
    exact ⟨rfl, rfl, rfl, rfl, rfl⟩
  · have hparams : paramsOf (withCircuit c (windowPrs code) s) c = paramsOf s c := by cases c <;> rfl
    obtain ⟨hc, hd⟩ := floorTest_below code (s := withCircuit c (windowPrs code) s) (hparams.symm ▸ hlow)
    rw [takePrs_measure code h, hc, hd, hparams, withCircuit_same]
    exact ⟨rfl, rfl, rfl, rfl, takeDev_congr _ rfl rfl rfl⟩

end

/-- The start window takes samples until it holds 8. -/
theorem pushStart_eq (w : List Nat) (x : Nat) : pushStart w x = (w ++ [x]).take (max 8 w.length) := by
  unfold pushStart
  split
  next h => rw [List.take_of_length_le (by simp; omega)]
  next h => rw [Nat.max_eq_right (by omega), List.take_left]

theorem pushStart_full {w : List Nat} (x : Nat) (h : 8 ≤ w.length) : pushStart w x = w := if_neg (by omega)

theorem pushStart_short {w : List Nat} (x : Nat) (h : w.length < 8) : pushStart w x = w ++ [x] := if_pos h

theorem pushEnd_full {w : List Nat} (x : Nat) (h : w.length = 8) : pushEnd w x = w.tail ++ [x] := if_neg (by omega)

theorem pushEnd_short {w : List Nat} (x : Nat) (h : w.length < 8) : pushEnd w x = w ++ [x] := if_pos h

/-! ## The latch (R20, R21) -/

theorem Latches.floorTest (c : CircuitId) (code : Nat) (s : State) : Latches s (floorTest c code s) := by
  unfold Machine.floorTest
  split
  · exact (Latches.takeDev _ s).trans (.withCircuit c _ _)
  · exact .refl s

theorem Latches.takePrs (c : CircuitId) (code : Nat) (s : State) : Latches s (takePrs c code s) := by
  unfold Machine.takePrs
  split
  · split
    · exact .withCircuit c _ s
    · exact .refl s
  · exact .floorTest c code s
  · exact (Latches.withCircuit c _ s).trans (.floorTest c code _)
  · exact .refl s

theorem Latches.takeAirt (c : CircuitId) (code : Nat) (s : State) : Latches s (takeAirt c code s) := by
  unfold Machine.takeAirt
  split
  · exact .withCircuit c _ s
  · exact .refl s

theorem Latches.deliverSample (ch : Slow) (code : Nat) (s : State) : Latches s (deliverSample ch code s) := by
  cases ch with
  | torq =>
    show Latches s (takeTorq code s)
    rw [takeTorq_eq]
    split
    · exact (Latches.withRun _ s).trans (.runDeviation _ _ _ _)
    · exact .withRun _ s
  | oilt =>
    show Latches s (takeOilt code s)
    rw [takeOilt_eq]
    split
    · exact (Latches.withRun _ s).trans (.runDeviation _ _ _ _)
    · exact .withRun _ s
  | prs1 => exact .takePrs .one code s
  | airt1 => exact .takeAirt .one code s
  | prs2 => exact .takePrs .two code s
  | airt2 => exact .takeAirt .two code s

/-! ## The sample at its consumer (R104) -/

theorem deliverSample_prs (c : CircuitId) (code : Nat) (s : State) : deliverSample (prsOf c) code s = takePrs c code s := by
  cases c <;> rfl

theorem deliverSample_airt (c : CircuitId) (code : Nat) (s : State) : deliverSample (airtOf c) code s = takeAirt c code s := by
  cases c <;> rfl

theorem deliverSample_circuit {ch : Slow} {c : CircuitId} (code : Nat) (s : State) (hp : ch ≠ prsOf c) (ha : ch ≠ airtOf c) :
    circuitOf (deliverSample ch code s) c = circuitOf s c := by
  have hd (d : CircuitId) (x : CircuitId → Slow) (h : x d ≠ x c) : c ≠ d := fun e => h (congrArg x e.symm)
  cases ch with
  | torq => exact circuitOf_congr (by simp [deliverSample]) c
  | oilt => exact circuitOf_congr (by simp [deliverSample]) c
  | prs1 => exact takePrs_other code (hd .one prsOf hp)
  | airt1 => exact takeAirt_other code (hd .one airtOf ha)
  | prs2 => exact takePrs_other code (hd .two prsOf hp)
  | airt2 => exact takeAirt_other code (hd .two airtOf ha)

theorem deliverSample_run {ch : Slow} (code : Nat) (s : State) (ht : ch ≠ .torq) (ho : ch ≠ .oilt) :
    (deliverSample ch code s).run = s.run := by
  cases ch with
  | torq => exact absurd rfl ht
  | oilt => exact absurd rfl ho
  | prs1 => simp [deliverSample]
  | airt1 => simp [deliverSample]
  | prs2 => simp [deliverSample]
  | airt2 => simp [deliverSample]

/-- Settles O45: the channel written, and its sample at RUN or at its circuit. -/
theorem slowSampleIsDelivered : Obligations.SlowSampleIsDelivered := by
  intro code s hb
  refine ⟨fun h => whenReleased_eq hb (slowDone_idle _ h), fun ch hch => ⟨_, whenReleased_eq hb (slowDone_eq _ hch), ?_⟩⟩
  obtain ⟨hwritten, hflight, hothers, hactive, hpointer⟩ := slowWritten_sca ch code.toNat s
  have htaken : Latches s (deliverSample ch code.toNat (slowWritten ch code.toNat s)) :=
    (Latches.deliverSample ch code.toNat (slowWritten ch code.toNat s)).after rfl
  have hdev (e : DevEvent) : (takeDev e (slowWritten ch code.toNat s)).dev = (takeDev e s).dev := takeDev_congr e rfl rfl rfl
  have hparams (c : CircuitId) : paramsOf (slowWritten ch code.toNat s) c = paramsOf s c := by cases c <;> rfl
  have hcircuit (c : CircuitId) : circuitOf (slowWritten ch code.toNat s) c = circuitOf s c := rfl
  have hlatch := latchedOn_of_latches (htaken.trans (.leaveIdle _))
  simp only [leaveIdle_frame, circuitOf_leaveIdle, airPosted_leaveIdle, deliverSample_frame]
  refine ⟨hwritten, hflight, hlatch, hothers, hactive, hpointer, fun c hp ha => deliverSample_circuit _ _ hp ha,
    fun ht ho => deliverSample_run _ _ ht ho, ?_, ?_, ?_, ?_, ?_, ?_, ?_, ?_⟩
  · rintro rfl
    obtain ⟨htorque, hmax⟩ := takeTorq_kept code.toNat (slowWritten .torq code.toNat s)
    refine ⟨torqueOf code.toNat, rfl, htorque, hmax, fun hin hhigh hmark => ?_, fun h => takeTorq_silent h⟩
    obtain ⟨hstop, hkeep⟩ := runDeviation_limit (torqueOf code.toNat).natAbs (segOf s).torqueLimit
      (torqueMarked code.toNat (slowWritten .torq code.toNat s)) (.inl rfl)
    rw [show deliverSample .torq code.toNat (slowWritten .torq code.toNat s) = _ from takeTorq_raises hin hhigh hmark]
    refine ⟨?_, (runDeviation_dev _ _ _ _).trans (takeDev_congr _ rfl rfl rfl), fun h hm hf => ?_, fun h => ?_⟩
    · simp only [runDeviation_run, stoppedRun_keeps]
      rfl
    · rw [show segOf (slowWritten .torq code.toNat s) = segOf s from rfl, hstop h hm hf]
      exact ⟨rfl, rfl, rfl⟩
    · rw [show segOf (slowWritten .torq code.toNat s) = segOf s from rfl, hkeep h]
      exact ⟨rfl, rfl, rfl⟩
  · rintro rfl
    obtain ⟨hcode, hmax⟩ := takeOilt_kept code.toNat (slowWritten .oilt code.toNat s)
    refine ⟨hcode, hmax, fun hin hhigh hmark => ?_, fun h => takeOilt_silent h⟩
    obtain ⟨hstop, hkeep⟩ := runDeviation_limit code.toNat (progOf s).oilLimit
      (oilMarked code.toNat (slowWritten .oilt code.toNat s)) (.inr rfl)
    rw [show deliverSample .oilt code.toNat (slowWritten .oilt code.toNat s) = _ from takeOilt_raises hin hhigh hmark]
    refine ⟨?_, (runDeviation_dev _ _ _ _).trans (takeDev_congr _ rfl rfl rfl), fun h hm hf => ?_, fun h => ?_⟩
    · simp only [runDeviation_run, stoppedRun_keeps]
      rfl
    · rw [show progOf (slowWritten .oilt code.toNat s) = progOf s from rfl, hstop h hm hf]
      exact ⟨rfl, rfl, rfl⟩
    · rw [show progOf (slowWritten .oilt code.toNat s) = progOf s from rfl, hkeep h]
      exact ⟨rfl, rfl, rfl⟩
  · rintro c rfl hst
    rw [← hcircuit] at hst
    rw [deliverSample_prs, takePrs_fill _ hst, hparams]
    refine ⟨fun hp => ?_, fun hp => ?_⟩
    · rw [if_pos hp, withCircuit_same, airPosted_withCircuit]
      exact ⟨rfl, rfl, rfl, congrArg SlowValue.value (hothers (airtOf c) (by cases c <;> decide)), rfl, rfl⟩
    · rw [if_neg (by omega)]
      rfl
  · rintro c rfl hst hlow
    rw [← hcircuit] at hst
    rw [← hparams] at hlow ⊢
    rw [deliverSample_prs, ← hdev, ← hcircuit]
    exact takePrs_below _ hst hlow
  · rintro c rfl hst hhigh
    rw [← hcircuit] at hst
    rw [← hparams] at hhigh
    rw [deliverSample_prs, takePrs_stabilise _ hst, floorTest_above _ hhigh]
    exact ⟨rfl, rfl⟩
  · rintro c rfl hst hhigh
    rw [← hcircuit] at hst
    rw [deliverSample_prs, takePrs_measure _ hst, floorTest_above _ (by cases c <;> exact hhigh), withCircuit_same]
    exact ⟨hst, rfl, pushStart_eq _ _, fun h => pushEnd_full _ h, fun h => pushEnd_short _ h⟩
  · rintro c rfl hst
    rw [← hcircuit] at hst
    rw [deliverSample_airt, takeAirt, if_neg hst]
    rfl
  · rintro c rfl hst
    rw [← hcircuit] at hst
    rw [deliverSample_airt, takeAirt, if_pos hst, withCircuit_same]
    exact ⟨rfl, hst, rfl, fun h => pushStart_short _ h, fun h => pushStart_full _ h, fun h => pushEnd_full _ h,
      fun h => pushEnd_short _ h⟩

end Sys2Proof.Machine
end

section
/-! SUPPORT. The ramp step of a RAMP, a STOP and a DWELL (O36). -/
namespace Sys2Proof.Machine

/-! ## The frame of a ramp step in a segment (R45) -/

theorem rampStep_active {s : State} (h : inSegment s.run.state = true) : rampStep s = stepEnded
    (if (updateHolds (beginStep s)).run.holds.isEmpty then actStep (updateHolds (beginStep s))
      else clearTrack (updateHolds (beginStep s))) := by
  have hstep : rampStep s = activeStep (beginStep s) := by
    unfold rampStep
    cases hst : s.run.state <;> simp [hst, inSegment] at h ⊢
  rw [hstep]
  rfl

/-- What a step that no hold stands against acts on: S and allowed noted, and a POWER of the step before gone. -/
def stepTaken (s : State) : State := { s with run := { s.run with
  rampLeft := 20, lastSum := demandSum s, lastAllowed := allowedPower s, holds := noHolds } }

theorem updateHolds_free {s : State} (h : freeToMove s) : updateHolds (beginStep s) = stepTaken s := by
  obtain ⟨-, hyields, hdefer, hreversal, hcond⟩ := h
  have hrev : updateReversal (clearPower (beginStep s)) = clearPower (beginStep s) :=
    if_neg (show ¬ (s.run.holds.reversal = true ∧ s.run.measured = 0) by simp [hreversal])
  have hyield : updateYield (clearPower (beginStep s)) = clearPower (beginStep s) := by
    rw [updateYield, show yieldCondition (clearPower (beginStep s)) = false from hcond,
      show (clearPower (beginStep s)).run.holds.yields = false from hyields]
    rfl
  have hholds : ({ s.run.holds with power := false } : Holds) = noHolds := by
    cases hh : s.run.holds
    simp_all [noHolds]
  rw [updateHolds, hrev, hyield, stepTaken, ← hholds]
  rfl

theorem rampStep_free {s : State} (h : freeToMove s) : rampStep s = stepEnded (actStep (stepTaken s)) := by
  rw [rampStep_active h.1, updateHolds_free h]
  exact congrArg stepEnded (if_pos rfl)

theorem clearTrack_stepTaken {s : State} (h : freeToMove s) : clearTrack (stepTaken s) = stepBegun s := (stepBegun_eq h).symm

/-- The class and the demand that a step posts are those of the speed it leaves (assumption 38). -/
theorem stepEnded_posted (s : State) : (stepEnded s).peer.posting.acoustic
      = (if (stepEnded s).cfg.station.quietLimit < (stepEnded s).run.cmd then .loud else .quiet)
    ∧ (stepEnded s).peer.posting.demand
      = demandOf (stepEnded s).run.torque (stepEnded s).run.cmd (stepEnded s).cfg.station.stationCap := ⟨rfl, rfl⟩

@[simp] theorem stepEnded_frame (s : State) : (stepEnded s).sca = s.sca ∧ (stepEnded s).store = s.store
    ∧ (stepEnded s).cfg = s.cfg ∧ (stepEnded s).cyc = s.cyc ∧ (stepEnded s).leak = s.leak
    ∧ (stepEnded s).peer.table = s.peer.table := by
  simp [stepEnded]

/-- A step that leaves the hold set empty, or RUN stopping. -/
theorem stepEnded_holdless {s : State} (h : s.run.holds = noHolds) : (stepEnded s).run
      = { s.run with state := if inSegment s.run.state then .segment else s.run.state }
    ∧ (stepEnded s).dev = s.dev ∧ (stepEnded s).lsn = s.lsn ∧ (stepEnded s).vib = s.vib := by
  have hsettled : settleHolds s.run = { s.run with state := if inSegment s.run.state then .segment else s.run.state } := by
    cases hin : inSegment s.run.state with
    | true => simp [settleHolds, hin, h, noHolds, Holds.isEmpty]
    | false => simp [settleHolds, hin]
  rw [stepEnded_free (by rw [h]; rfl) (by rw [h]; rfl), (postSpeed_frame _).2.1, withRun_run, hsettled]
  simp

/-- The power-hold time counted, and POWER_WAIT raised once in the cycle past the limit (R52). -/
theorem countPower_held {s : State} (h : s.run.holds.power = true) : (countPower s).run = { s.run with
      powerMs := s.run.powerMs + 20
      powerWaitMark := s.run.powerWaitMark || decide ((progOf s).powerWaitLimit * 100 < s.run.powerMs + 20) }
    ∧ (countPower s).dev = if (progOf s).powerWaitLimit * 100 < s.run.powerMs + 20 ∧ s.run.powerWaitMark = false then
        (takeDev ⟨.powerWait, s.run.seg, min ((s.run.powerMs + 20) / 100) 65535, (progOf s).powerWaitLimit⟩ s).dev
      else s.dev := by
  have hnone (u : State) : stopReason u .powerWait = none := by
    unfold stopReason
    split <;> rfl
  by_cases hraise : (progOf s).powerWaitLimit * 100 < s.run.powerMs + 20 ∧ s.run.powerWaitMark = false
  · have heq : countPower s = runDeviation .powerWait (min ((s.run.powerMs + 20) / 100) 65535) (progOf s).powerWaitLimit
        (withRun (fun r => { r with powerWaitMark := true }) (withRun (fun r => { r with powerMs := r.powerMs + 20 }) s)) := by
      rw [countPower, if_pos h]
      exact if_pos hraise
    rw [if_pos hraise, heq, runDeviation_run, runDeviation_dev, hnone, ite_self]
    refine ⟨?_, takeDev_congr _ rfl rfl rfl⟩
    simp [stoppedRun, hraise.1]
  · have heq : countPower s = withRun (fun r => { r with powerMs := r.powerMs + 20 }) s := by
      rw [countPower, if_pos h]
      exact if_neg hraise
    have hmark : (s.run.powerWaitMark || decide ((progOf s).powerWaitLimit * 100 < s.run.powerMs + 20))
        = s.run.powerWaitMark := by
      cases hm : s.run.powerWaitMark <;> simp_all
    rw [if_neg hraise, heq, hmark]
    exact ⟨rfl, rfl⟩

/-- A step that withholds an increase. -/
theorem stepEnded_power {s : State} (hin : inSegment s.run.state = true) (h : s.run.holds = ⟨true, false, false, false⟩) :
    (stepEnded s).run = { (countPower s).run with state := .held } ∧ (stepEnded s).dev = (countPower s).dev := by
  obtain ⟨hrun, -⟩ := countPower_held (s := s) (by rw [h])
  have hyield : countYield (countPower s) = countPower s := if_neg (by rw [hrun]; simp [h])
  have hsettled : settleHolds (countPower s).run = { (countPower s).run with state := .held } := by
    simp [settleHolds, hrun, hin, h, Holds.isEmpty]
  rw [stepEnded, hyield, (postSpeed_frame _).2.1, withRun_run, hsettled]
  simp

/-! ## A segment that ends (R46) -/

/-- What the end of a segment keeps of RUN. -/
structure segmentEndKeeps (s t : State) : Prop where
  run : t.run.torque = s.run.torque ∧ t.run.lastSum = s.run.lastSum ∧ t.run.lastAllowed = s.run.lastAllowed
    ∧ t.run.powerMs = s.run.powerMs ∧ t.run.trackMarks = s.run.trackMarks
  others : t.dev = s.dev ∧ t.sca = s.sca ∧ t.store = s.store ∧ t.cfg = s.cfg ∧ t.peer.table = s.peer.table

theorem segmentEnd_keeps {s : State} (hin : inSegment s.run.state = true) : segmentEndKeeps s (segmentEnd s) := by
  rw [segmentEnd_eq]
  split
  · obtain ⟨st, dir, cmd, reversal, defer, told, -, hrun⟩ := enterSegment_run (s.run.seg + 1) (segmentCounted s)
    refine ⟨?_, by simp [segmentCounted]⟩
    rw [hrun]
    exact ⟨rfl, rfl, rfl, rfl, rfl⟩
  · refine ⟨?_, by simp [segmentCounted]⟩
    rw [toStopping_run (s := segmentCounted s) hin]
    exact ⟨rfl, rfl, rfl, rfl, rfl⟩

/-- A segment that ends is counted, and the next is entered or RUN stops, whatever LSN and VIB do. -/
theorem segmentEnded_segmentEnd {s : State} (hin : inSegment s.run.state = true) (hh : s.run.holds = noHolds) :
    segmentEnded s (segmentEnd s) ∧ (segmentEnd s).run.holds.power = false ∧ (segmentEnd s).run.holds.yields = false := by
  rw [segmentEnd_eq]
  split
  next hnext =>
    obtain ⟨st, dir, cmd, reversal, defer, told, hst, hrun⟩ := enterSegment_run (s.run.seg + 1) (segmentCounted s)
    rw [segmentCounted_run, hh] at hrun
    refine ⟨⟨by rw [hrun], fun _ => ?_, fun h => absurd hnext (Nat.not_lt.mpr h)⟩, by rw [hrun]; exact ⟨rfl, rfl⟩⟩
    rw [hrun]
    exact ⟨rfl, hst, rfl, rfl, rfl⟩
  next hnext =>
    have hrun := toStopping_run (why := .profileEnd) (s := segmentCounted s) hin
    refine ⟨⟨by rw [hrun]; rfl, fun h => absurd h hnext, fun _ => ?_⟩, by rw [hrun]; exact ⟨rfl, rfl⟩⟩
    rw [hrun]
    exact ⟨rfl, rfl, rfl, rfl⟩

/-- The segment ended, from the state before the step to the one after it. -/
theorem segmentEnded_stepEnded {s w : State} (hin : inSegment w.run.state = true) (hh : w.run.holds = noHolds)
    (hseg : w.run.seg = s.run.seg) (hdone : w.run.segsDone = s.run.segsDone) (hprog : progOf w = progOf s) :
    segmentEnded s (leaveIdle (stepEnded (segmentEnd w))) ∧ segmentEndKeeps w (leaveIdle (stepEnded (segmentEnd w))) := by
  obtain ⟨⟨hcount, hnext, hlast⟩, hp, hy⟩ := segmentEnded_segmentEnd hin hh
  obtain ⟨hkept, hothers⟩ := segmentEnd_keeps hin
  obtain ⟨st, hset, hst⟩ := settleHolds_eq (segmentEnd w).run
  have hrun : (leaveIdle (stepEnded (segmentEnd w))).run = settleHolds (segmentEnd w).run := by
    rw [stepEnded_free hp hy]
    simp
  refine ⟨⟨?_, fun hlt => ?_, fun hge => ?_⟩, ?_, ?_⟩
  · rw [hrun, hset, ← hdone]
    exact hcount
  · obtain ⟨h1, h2, h3, h4, h5⟩ := hnext (by rw [hseg, hprog]; exact hlt)
    rw [hrun, hset, ← hseg]
    exact ⟨h1, hst h2, h3, h4, h5⟩
  · obtain ⟨h1, h2, h3, h4⟩ := hlast (by rw [hseg, hprog]; exact hge)
    have hstill : settleHolds (segmentEnd w).run = (segmentEnd w).run := if_neg (by rw [h2]; decide)
    rw [hrun, hstill, ← hseg]
    exact ⟨h1, h2, h3, h4⟩
  · rw [hrun, hset]
    exact hkept
  · rw [stepEnded_free hp hy]
    simpa using hothers

/-! ## The latch through a step (R20, R21) -/

theorem Latches.moveStep (target rate : Nat) (s : State) : Latches s (moveStep target rate s) := by
  have hmoved : Latches s (Machine.moveTo target rate (Machine.clearTrack s)) := (Latches.moveTo target rate _).after rfl
  unfold Machine.moveStep
  dsimp only
  split
  · exact hmoved.trans (.segmentEnd _)
  · exact hmoved

theorem Latches.trackDwell (s : State) : Latches s (trackDwell s) := by
  unfold Machine.trackDwell
  dsimp only
  split
  · split
    · exact (Latches.runDeviation _ _ _ _).after rfl
    · exact .withRun _ s
  · exact .withRun _ s

theorem Latches.dwellStep (g : Segment) (s : State) : Latches s (dwellStep g s) := by
  have htracked : Latches s (Machine.trackDwell (Machine.withRun (fun r => { r with dwellMs := r.dwellMs + 20 }) s)) :=
    (Latches.trackDwell _).after rfl
  unfold Machine.dwellStep
  dsimp only
  split
  · exact htracked.trans (.segmentEnd _)
  · exact htracked

theorem Latches.actStep (s : State) : Latches s (actStep s) := by
  unfold Machine.actStep
  split
  · exact .moveStep _ _ s
  · exact .moveStep _ _ s
  · split
    · exact .dwellStep _ s
    · exact (Latches.moveTo _ _ _).after rfl
  · exact (Latches.sweepStep _ (Machine.clearTrack s)).after rfl

theorem Latches.rampStep_free {s : State} (h : freeToMove s) : Latches s (rampStep s) := by
  rw [Machine.rampStep_free h]
  exact Latches.after ((Latches.actStep (stepTaken s)).trans (.stepEnded _)) rfl

/-! ## A move toward a target (R45, R46, R51) -/

/-- A segment that moves toward a target: a RAMP, a STOP, or a DWELL away from its own. -/
abbrev movesToward (s : State) (target : Nat) : Prop :=
  segKind s = .ramp ∧ target = (segOf s).target ∨ segKind s = .stop ∧ target = 0
    ∨ segKind s = .dwell ∧ target = (segOf s).target ∧ s.run.cmd ≠ target

/-- The setpoint moved, before the segment may end. -/
def moved (target : Nat) (s : State) : State := moveTo target (segOf s).rate (stepBegun s)

theorem rampStep_toward {s : State} {target : Nat} (hf : freeToMove s) (h : movesToward s target) : rampStep s =
    stepEnded (if segKind s ≠ .dwell ∧ (moved target s).run.cmd = target then segmentEnd (moved target s)
      else moved target s) := by
  have hbegun := clearTrack_stepTaken hf
  have hkind : segKind (stepTaken s) = segKind s := rfl
  have hseg : segOf (stepTaken s) = segOf s := rfl
  rw [rampStep_free hf, actStep, hkind, hseg]
  rcases h with ⟨hk, rfl⟩ | ⟨hk, rfl⟩ | ⟨hk, rfl, hne⟩
  · rw [hk]
    dsimp only
    rw [moveStep, hbegun]
    simp [moved]
  · rw [hk]
    dsimp only
    rw [moveStep, hbegun]
    simp [moved]
  · rw [hk]
    dsimp only
    rw [if_neg (show ¬ (stepTaken s).run.cmd = (segOf s).target from hne), hbegun]
    simp [moved]

theorem stepBegun_withheld {s : State} (hf : freeToMove s) (next : Nat) : withheld (stepBegun s) next = withheld s next := by
  rw [stepBegun_eq hf]
  rfl

theorem moved_withheld {s : State} {target : Nat} (hf : freeToMove s) (hlt : s.run.cmd < target)
    (hw : withheld s (nextSetpoint s.run.cmd target (segOf s).rate) = true) : moved target s = { s with run := { s.run with
      rampLeft := 20, lastSum := demandSum s, lastAllowed := allowedPower s, trackCount := 0
      holds := ⟨true, false, false, false⟩ } } := by
  rw [moved, moveTo_withheld (s := stepBegun s) hlt (by rw [stepBegun_withheld hf]; exact hw), stepBegun_eq hf]
  rfl

theorem moved_free {s : State} {target : Nat} (hf : freeToMove s)
    (hw : withheld s (nextSetpoint s.run.cmd target (segOf s).rate) = false ∨ target ≤ s.run.cmd) :
    moved target s = { s with run := { s.run with
      rampLeft := 20, lastSum := demandSum s, lastAllowed := allowedPower s, trackCount := 0, holds := noHolds
      cmd := nextSetpoint s.run.cmd target (segOf s).rate } } := by
  rw [moved, moveTo_moves (s := stepBegun s) (by rw [stepBegun_withheld hf]; exact hw), stepBegun_eq hf]
  rfl

/-- A step withholds the increase, or moves the setpoint short of the segment's end, or ends the segment. -/
theorem towardCases (s : State) (target : Nat) :
    (withheld s (nextSetpoint s.run.cmd target (segOf s).rate) = true ∧ s.run.cmd < target)
    ∨ ((withheld s (nextSetpoint s.run.cmd target (segOf s).rate) = false ∨ target ≤ s.run.cmd)
      ∧ ((nextSetpoint s.run.cmd target (segOf s).rate ≠ target ∨ segKind s = .dwell)
        ∨ nextSetpoint s.run.cmd target (segOf s).rate = target ∧ segKind s ≠ .dwell)) := by
  have hends : (nextSetpoint s.run.cmd target (segOf s).rate ≠ target ∨ segKind s = .dwell)
      ∨ nextSetpoint s.run.cmd target (segOf s).rate = target ∧ segKind s ≠ .dwell := by tauto
  cases hw : withheld s (nextSetpoint s.run.cmd target (segOf s).rate) with
  | false => exact .inr ⟨.inl rfl, hends⟩
  | true =>
    rcases Nat.lt_or_ge s.run.cmd target with hlt | hge
    · exact .inl ⟨rfl, hlt⟩
    · exact .inr ⟨.inr hge, hends⟩

/-- What every step notes of the line's power, and what it leaves. -/
structure stepKeeps (s t : State) : Prop where
  run : t.run.torque = s.run.torque ∧ t.run.lastSum = demandSum s ∧ t.run.lastAllowed = allowedPower s
  others : t.sca = s.sca ∧ t.store = s.store ∧ t.cfg = s.cfg ∧ t.peer.table = s.peer.table

section
variable {s : State} {target : Nat} (hf : freeToMove s) (h : movesToward s target)
include hf h

/-- An increase that the power check withholds (R51, R52). -/
theorem rampStep_towardWithheld (hlt : s.run.cmd < target)
    (hw : withheld s (nextSetpoint s.run.cmd target (segOf s).rate) = true) :
    (rampStep s).run = { s.run with
        rampLeft := 20, lastSum := demandSum s, lastAllowed := allowedPower s, trackCount := 0, state := .held
        holds := ⟨true, false, false, false⟩, powerMs := s.run.powerMs + 20
        powerWaitMark := s.run.powerWaitMark || decide ((progOf s).powerWaitLimit * 100 < s.run.powerMs + 20) }
    ∧ (rampStep s).dev = (if (progOf s).powerWaitLimit * 100 < s.run.powerMs + 20 ∧ s.run.powerWaitMark = false then
        (takeDev ⟨.powerWait, s.run.seg, min ((s.run.powerMs + 20) / 100) 65535, (progOf s).powerWaitLimit⟩ s).dev
      else s.dev)
    ∧ stepKeeps s (rampStep s) := by
  have hmoved := moved_withheld hf hlt hw
  have hcmd : ¬ (segKind s ≠ .dwell ∧ (moved target s).run.cmd = target) := fun he => by
    rw [hmoved] at he
    exact absurd he.2 (Nat.ne_of_lt hlt)
  obtain ⟨hrun, hdev⟩ := stepEnded_power (s := moved target s) (by rw [hmoved]; exact hf.1) (by rw [hmoved])
  obtain ⟨hcount, hraised⟩ := countPower_held (s := moved target s) (by rw [hmoved])
  rw [hcount] at hrun
  have hsame (e : DevEvent) : (takeDev e (moved target s)).dev = (takeDev e s).dev := by
    rw [hmoved]
    exact takeDev_congr e rfl rfl rfl
  rw [rampStep_toward hf h, if_neg hcmd]
  refine ⟨?_, ?_, ?_, ?_⟩
  · rw [hrun, hmoved]
    rfl
  · rw [hdev, hraised, hsame, hmoved]
    rfl
  · rw [hrun, hmoved]
    exact ⟨rfl, rfl, rfl⟩
  · simp [hmoved]

/-- A step that moves and does not end the segment. -/
theorem rampStep_towardMoves
    (hw : withheld s (nextSetpoint s.run.cmd target (segOf s).rate) = false ∨ target ≤ s.run.cmd)
    (hn : nextSetpoint s.run.cmd target (segOf s).rate ≠ target ∨ segKind s = .dwell) :
    (rampStep s).run = { s.run with
        rampLeft := 20, lastSum := demandSum s, lastAllowed := allowedPower s, trackCount := 0, state := .segment
        holds := noHolds, cmd := nextSetpoint s.run.cmd target (segOf s).rate }
    ∧ (rampStep s).dev = s.dev ∧ stepKeeps s (rampStep s) := by
  have hmoved := moved_free hf hw
  have hstay : ¬ (segKind s ≠ .dwell ∧ (moved target s).run.cmd = target) := fun he => by
    rw [hmoved] at he
    rcases hn with hn | hn
    · exact hn he.2
    · exact he.1 hn
  obtain ⟨hrun, hdev, -, -⟩ := stepEnded_holdless (s := moved target s) (by rw [hmoved])
  rw [rampStep_toward hf h, if_neg hstay]
  refine ⟨?_, ?_, ?_, ?_⟩
  · rw [hrun, hmoved]
    simp [hf.1]
  · rw [hdev, hmoved]
  · rw [hrun, hmoved]
    exact ⟨rfl, rfl, rfl⟩
  · simp [hmoved]

/-- A step that reaches the target of a RAMP or a STOP (R46). -/
theorem rampStep_towardEnds
    (hw : withheld s (nextSetpoint s.run.cmd target (segOf s).rate) = false ∨ target ≤ s.run.cmd)
    (hn : nextSetpoint s.run.cmd target (segOf s).rate = target) (hk : segKind s ≠ .dwell) :
    segmentEnded s (leaveIdle (rampStep s)) ∧ (rampStep s).run.powerMs = s.run.powerMs ∧ (rampStep s).dev = s.dev
      ∧ stepKeeps s (rampStep s) := by
  have hmoved := moved_free hf hw
  have hend : segKind s ≠ .dwell ∧ (moved target s).run.cmd = target := ⟨hk, by rw [hmoved]; exact hn⟩
  obtain ⟨hended, ⟨htorque, hsum, hallowed, hpower, -⟩, hdev, hsca, hstore, hcfg, htable⟩ :=
    segmentEnded_stepEnded (s := s) (w := moved target s) (by rw [hmoved]; exact hf.1) (by rw [hmoved]) (by rw [hmoved])
      (by rw [hmoved]) (by rw [hmoved]; rfl)
  rw [rampStep_toward hf h, if_pos hend]
  simp only [leaveIdle_frame] at htorque hsum hallowed hpower hdev hsca hstore hcfg htable
  rw [hmoved] at htorque hsum hallowed hpower hdev hsca hstore hcfg htable
  rw [hmoved] at hended ⊢
  exact ⟨hended, hpower, hdev, ⟨htorque, hsum, hallowed⟩, hsca, hstore, hcfg, htable⟩

theorem rampStep_towardKeeps : stepKeeps s (rampStep s) := by
  rcases towardCases s target with ⟨hw, hlt⟩ | ⟨hfree, hn | ⟨hn, hk⟩⟩
  · obtain ⟨-, -, hkept⟩ := rampStep_towardWithheld hf h hlt hw
    exact hkept
  · obtain ⟨-, -, hkept⟩ := rampStep_towardMoves hf h hfree hn
    exact hkept
  · obtain ⟨-, -, -, hkept⟩ := rampStep_towardEnds hf h hfree hn hk
    exact hkept

/-- A step that withholds nothing counts no power hold and raises no deviation. -/
theorem rampStep_towardFree
    (hw : withheld s (nextSetpoint s.run.cmd target (segOf s).rate) = false ∨ target ≤ s.run.cmd) :
    (rampStep s).run.powerMs = s.run.powerMs ∧ (rampStep s).dev = s.dev := by
  by_cases hn : nextSetpoint s.run.cmd target (segOf s).rate ≠ target ∨ segKind s = .dwell
  · obtain ⟨hrun, hdev, -⟩ := rampStep_towardMoves hf h hw hn
    exact ⟨by rw [hrun], hdev⟩
  · obtain ⟨hreached, hk⟩ := not_or.mp hn
    obtain ⟨-, hpower, hdev, -⟩ := rampStep_towardEnds hf h hw (not_not.mp hreached) hk
    exact ⟨hpower, hdev⟩

theorem rampStep_towardPosted : (rampStep s).peer.posting.acoustic
      = (if s.cfg.station.quietLimit < (rampStep s).run.cmd then .loud else .quiet)
    ∧ (rampStep s).peer.posting.demand = demandOf s.run.torque (rampStep s).run.cmd s.cfg.station.stationCap := by
  obtain ⟨⟨htorque, -, -⟩, -, -, hcfg, -⟩ := rampStep_towardKeeps hf h
  rw [← htorque, ← hcfg, rampStep_toward hf h]
  exact stepEnded_posted _

end

/-! ## A DWELL at its target (R46, R58, R59) -/

/-- How far the measured speed is from the commanded one. -/
def speedDiff (s : State) : Nat := ((s.run.measured : Int) - (s.run.cmd : Int)).natAbs

/-- SPEED_TRACK is raised at the hundredth count, once in a segment (R58). -/
abbrev trackTrips (s : State) : Prop :=
  (progOf s).trackTolerance < speedDiff s ∧ 99 ≤ s.run.trackCount ∧ inSet s.run.trackMarks s.run.seg = false

/-- The track count after a check. -/
def trackCounted (s : State) : Nat :=
  if (progOf s).trackTolerance < speedDiff s then min (s.run.trackCount + 1) 100 else 0

theorem trackDwell_trips {s : State} (h : trackTrips s) :
    trackDwell s = runDeviation .speedTrack (speedDiff s) (progOf s).trackTolerance (withRun (fun r => { r with
      trackCount := trackCounted s, trackMarks := addTo r.trackMarks r.seg }) s) := by
  obtain ⟨hoff, hcount, hmark⟩ := h
  have hfull : bump 100 s.run.trackCount = 100 := by
    unfold bump
    omega
  have hcounted : trackCounted s = bump 100 s.run.trackCount := if_pos hoff
  rw [hcounted]
  exact (if_pos hoff).trans (if_pos ⟨hfull, hmark⟩)

theorem trackDwell_still {s : State} (h : ¬ trackTrips s) :
    trackDwell s = withRun (fun r => { r with trackCount := trackCounted s }) s := by
  by_cases hoff : (progOf s).trackTolerance < speedDiff s
  · have hcounted : trackCounted s = bump 100 s.run.trackCount := if_pos hoff
    rw [hcounted]
    refine (if_pos hoff).trans (if_neg fun hraise => h ⟨hoff, ?_, hraise.2⟩)
    have hfull : bump 100 s.run.trackCount = 100 := hraise.1
    unfold bump at hfull
    omega
  · rw [show trackCounted s = 0 from if_neg hoff]
    exact if_neg hoff

/-- The dwell time counted. -/
def dwellCounted (s : State) : State := withRun (fun r => { r with dwellMs := r.dwellMs + 20 }) (stepTaken s)

/-- The tracking checked, before the segment may end. -/
def dwellTracked (s : State) : State := trackDwell (dwellCounted s)

/-- RUN as a check that stops nothing leaves it. -/
def dwellRun (s : State) : Run := { s.run with
  rampLeft := 20, lastSum := demandSum s, lastAllowed := allowedPower s, holds := noHolds
  dwellMs := s.run.dwellMs + 20, trackCount := trackCounted s
  trackMarks := if trackTrips s then addTo s.run.trackMarks s.run.seg else s.run.trackMarks }

theorem rampStep_dwell {s : State} (hf : freeToMove s) (hk : segKind s = .dwell) (hcmd : s.run.cmd = (segOf s).target) :
    rampStep s = stepEnded (if inSegment (dwellTracked s).run.state ∧ (segOf s).duration * 100 ≤ (dwellTracked s).run.dwellMs then
      segmentEnd (dwellTracked s) else dwellTracked s) := by
  rw [rampStep_free hf, actStep, show segKind (stepTaken s) = .dwell from hk]
  dsimp only
  rw [show segOf (stepTaken s) = segOf s from rfl, if_pos (show (stepTaken s).run.cmd = (segOf s).target from hcmd)]
  rfl

/-- The check made: told to DEV where it trips, and RUN stopped where the class is unmasked. -/
theorem dwellTracked_spec {s : State} (hin : inSegment s.run.state = true) : (dwellTracked s).run
      = stoppedRun (if trackTrips s ∧ maskedClass s .speedTrack = false then some .trackStop else none) (dwellRun s)
    ∧ (dwellTracked s).dev = (if trackTrips s then
        (takeDev ⟨.speedTrack, s.run.seg, speedDiff s, (progOf s).trackTolerance⟩ s).dev else s.dev)
    ∧ progOf (dwellTracked s) = progOf s := by
  have hreason (u : State) : stopReason u .speedTrack
      = if maskedClass u .speedTrack = false then some .trackStop else none := by
    unfold stopReason
    cases maskedClass u .speedTrack <;> rfl
  refine ⟨?_, ?_, progOf_congr (by simp [dwellTracked, dwellCounted, stepTaken]) (by simp [dwellTracked, dwellCounted, stepTaken])⟩
  · by_cases h : trackTrips s
    · rw [dwellTracked, trackDwell_trips (s := dwellCounted s) h, runDeviation_run, hreason, dwellRun, if_pos h]
      refine congrArg₂ stoppedRun ((if_pos hin).trans ?_) rfl
      exact if_congr ⟨fun hm => ⟨h, hm⟩, And.right⟩ rfl rfl
    · rw [dwellTracked, trackDwell_still (s := dwellCounted s) h, dwellRun, if_neg h, if_neg fun hs => h hs.1]
      rfl
  · by_cases h : trackTrips s
    · rw [if_pos h, dwellTracked, trackDwell_trips (s := dwellCounted s) h, runDeviation_dev]
      exact takeDev_congr _ rfl rfl rfl
    · rw [if_neg h, dwellTracked, trackDwell_still (s := dwellCounted s) h]
      rfl

/-- A check that does not stop the run-in. -/
theorem dwellTracked_goes {s : State} (hf : freeToMove s) (h : ¬ trackTrips s ∨ maskedClass s .speedTrack = true) :
    (dwellTracked s).run = dwellRun s := by
  rw [(dwellTracked_spec hf.1).1, if_neg]
  · rfl
  · rintro ⟨htrips, hm⟩
    rcases h with h | h
    · exact h htrips
    · simp [h] at hm

section
variable {s : State} (hf : freeToMove s) (hk : segKind s = .dwell) (hcmd : s.run.cmd = (segOf s).target)
include hf hk hcmd

/-- A check that stops the run-in ends the step there (R59). -/
theorem rampStep_dwellStops (h : trackTrips s) (hm : maskedClass s .speedTrack = false) :
    (rampStep s).run = stoppedRun (some .trackStop) (dwellRun s) ∧ (rampStep s).dev = (dwellTracked s).dev := by
  obtain ⟨hrun, -, -⟩ := dwellTracked_spec hf.1
  rw [if_pos ⟨h, hm⟩] at hrun
  obtain ⟨hended, hdev, -, -⟩ := stepEnded_holdless (s := dwellTracked s) (by rw [hrun]; rfl)
  rw [rampStep_dwell hf hk hcmd, if_neg (by rw [hrun]; simp [stoppedRun, inSegment]), hended, hdev, hrun]
  exact ⟨rfl, rfl⟩

section
variable (h : ¬ trackTrips s ∨ maskedClass s .speedTrack = true)
include h

/-- The dwell goes on (R46). -/
theorem rampStep_dwellStays (hd : s.run.dwellMs + 20 < (segOf s).duration * 100) :
    (rampStep s).run = { dwellRun s with state := .segment } ∧ (rampStep s).dev = (dwellTracked s).dev := by
  have hrun := dwellTracked_goes hf h
  obtain ⟨hended, hdev, -, -⟩ := stepEnded_holdless (s := dwellTracked s) (by rw [hrun]; rfl)
  have hstay : ¬ (inSegment (dwellTracked s).run.state = true ∧ (segOf s).duration * 100 ≤ (dwellTracked s).run.dwellMs) := by
    rw [hrun]
    exact fun he => absurd hd (Nat.not_lt.mpr he.2)
  rw [rampStep_dwell hf hk hcmd, if_neg hstay, hended, hdev, hrun]
  exact ⟨by simp [dwellRun, hf.1], rfl⟩

/-- The dwell ends at its duration (R46). -/
theorem rampStep_dwellEnds (hd : (segOf s).duration * 100 ≤ s.run.dwellMs + 20) : segmentEnded s (leaveIdle (rampStep s))
    ∧ segmentEndKeeps (dwellTracked s) (leaveIdle (rampStep s)) := by
  have hrun := dwellTracked_goes hf h
  obtain ⟨-, -, hprog⟩ := dwellTracked_spec hf.1
  rw [rampStep_dwell hf hk hcmd, if_pos (by rw [hrun]; exact ⟨hf.1, hd⟩)]
  exact segmentEnded_stepEnded (by rw [hrun]; exact hf.1) (by rw [hrun]; rfl) (by rw [hrun]; rfl) (by rw [hrun]; rfl) hprog

end

theorem rampStep_dwellKeeps : (rampStep s).dev = (dwellTracked s).dev ∧ (rampStep s).run.lastSum = demandSum s
    ∧ (rampStep s).run.lastAllowed = allowedPower s ∧ (rampStep s).run.trackMarks = (dwellRun s).trackMarks := by
  by_cases h : ¬ trackTrips s ∨ maskedClass s .speedTrack = true
  · rcases Nat.lt_or_ge (s.run.dwellMs + 20) ((segOf s).duration * 100) with hd | hd
    · obtain ⟨hrun, hdev⟩ := rampStep_dwellStays hf hk hcmd h hd
      rw [hrun]
      exact ⟨hdev, rfl, rfl, rfl⟩
    · obtain ⟨-, ⟨-, hsum, hallowed, -, hmarks⟩, hdev, -⟩ := rampStep_dwellEnds hf hk hcmd h hd
      simp only [leaveIdle_frame, dwellTracked_goes hf h] at hsum hallowed hmarks hdev
      exact ⟨hdev, hsum, hallowed, hmarks⟩
  · obtain ⟨htrips, hm⟩ := not_or.mp h
    obtain ⟨hrun, hdev⟩ := rampStep_dwellStops hf hk hcmd (not_not.mp htrips) (by simpa using hm)
    rw [hrun]
    exact ⟨hdev, rfl, rfl, rfl⟩

end

/-- Settles O36: a move toward the target by what the power check says of it, and a DWELL at its target by the check of its
tracking and its duration. -/
theorem rampStepMovesTheSetpoint : Obligations.RampStepMovesTheSetpoint := by
  refine ⟨fun s target hb hf h => ?_, fun s diff hb hf hk hcmd hdiff => ?_⟩
  · refine ⟨_, nextSetpoint s.run.cmd target (segOf s).rate, whenReleased_running hb, rfl, ?_⟩
    have hlatch := latchedOn_of_latches ((Latches.rampStep_free hf).trans (.leaveIdle _))
    obtain ⟨hacoustic, hdemand⟩ := rampStep_towardPosted hf h
    obtain ⟨⟨-, hsum, hallowed⟩, hsca, hstore, hcfg, htable⟩ := rampStep_towardKeeps hf h
    simp only [leaveIdle_frame]
    refine ⟨fun hw hlt => ?_, fun hfree => ?_, hacoustic, hdemand, hsum, hallowed, hlatch, hsca, hstore, hcfg, htable⟩
    · obtain ⟨hrun, hdev, -⟩ := rampStep_towardWithheld hf h hlt hw
      rw [hrun, hdev]
      refine ⟨rfl, rfl, rfl, rfl, rfl, rfl, rfl, fun hlimit hmark => ⟨?_, if_pos ⟨hlimit, hmark⟩⟩, fun hkeep => ⟨?_, ?_⟩⟩
      · simp [hlimit]
      · rcases hkeep with hkeep | hkeep <;> simp [hkeep]
      · refine if_neg fun ⟨hlimit, hmark⟩ => ?_
        rcases hkeep with hkeep | hkeep
        · omega
        · simp [hkeep] at hmark
    · obtain ⟨hpower, hdev⟩ := rampStep_towardFree hf h hfree
      refine ⟨hpower, hdev, fun hn => ?_, fun hn hk => (rampStep_towardEnds hf h hfree hn hk).1⟩
      rw [(rampStep_towardMoves hf h hfree hn).1]
      exact ⟨rfl, rfl, rfl, rfl, rfl, rfl, rfl⟩
  · refine ⟨_, trackTrips s, whenReleased_running hb, by rw [hdiff]; rfl, ?_⟩
    have hlatch := latchedOn_of_latches ((Latches.rampStep_free hf).trans (.leaveIdle _))
    obtain ⟨hdev, hsum, hallowed, hmarks⟩ := rampStep_dwellKeeps hf hk hcmd
    have htold := (dwellTracked_spec hf.1).2.1
    rw [hdiff]
    simp only [leaveIdle_frame, hdev, hmarks, htold]
    refine ⟨hsum, hallowed, hlatch, fun h => ⟨if_pos h, if_pos h, fun hm => ?_⟩, fun h => ⟨if_neg h, if_neg h⟩, fun h => ⟨fun hd => ?_,
      fun hd => ?_⟩⟩
    · rw [(rampStep_dwellStops hf hk hcmd h hm).1]
      exact ⟨rfl, rfl, rfl, rfl, rfl⟩
    · exact (rampStep_dwellEnds hf hk hcmd h hd).1
    · rw [(rampStep_dwellStays hf hk hcmd h hd).1]
      exact ⟨rfl, rfl, rfl, rfl, rfl, rfl, rfl⟩

end Sys2Proof.Machine
end

section
/-! SUPPORT. A segment entered from the end of a RAMP (O7). -/
namespace Sys2Proof.Machine

/-! ## A segment entered with no hold (R44, R49) -/

/-- The pinion and its setpoint both at rest. -/
abbrev atRest (s : State) : Prop := s.run.cmd = 0 ∧ s.run.measured = 0

/-- A segment of the other direction that must wait for the pinion before it turns (R49). -/
abbrev mustWait (s : State) : Prop := segDir s ≠ s.run.dir ∧ ¬ atRest s

/-- What facing a segment's direction makes of RUN. -/
theorem faceDirection_exact (s : State) (h : s.run.holds = noHolds) : (faceDirection s).run = { s.run with
    dir := if atRest s then segDir s else s.run.dir
    cmd := if mustWait s then 0 else s.run.cmd
    holds := ⟨false, false, false, decide (mustWait s)⟩ } := by
  have hno : (⟨false, false, false, false⟩ : Holds) = s.run.holds := h.symm
  unfold faceDirection
  split
  next hd => simp [mustWait, hd, hno]
  next hd =>
    split
    next hr => simp [mustWait, hr, hno]
    next hr => simp [mustWait, hd, hr, h, setSpeed, noHolds]

theorem tellLeak_told (s : State) : (tellLeak s).run = { s.run with leakTold := s.run.leakTold || (segOf s).leakStart } := by
  unfold tellLeak
  split
  next h =>
    obtain ⟨hstart, -⟩ : (segOf s).leakStart = true ∧ s.run.leakTold = false := by simpa using h
    simp [hstart]
  next h =>
    have hsame : (s.run.leakTold || (segOf s).leakStart) = s.run.leakTold := by
      cases ht : s.run.leakTold <;> simp_all
    rw [hsame]

theorem beginSweep_exact (s : State) : (beginSweep s).run = { s.run with
    cmd := if segKind s = .sweep then min s.run.cmd s.cfg.station.quietLimit else s.run.cmd
    holds := { s.run.holds with defer := s.run.holds.defer || decide (segKind s = .sweep) } } := by
  unfold beginSweep
  split
  next h =>
    rw [(lsnBegin_frame _).2.1, cutQuiet_run]
    simp [h]
  next h => simp [h]

/-- LSN told of a SWEEP: the claim age, the deferral time and the forced mark begin anew (R65). -/
theorem beginSweep_lsn {s : State} (hk : segKind s = .sweep) (hl : s.lsn.state = .inactive) :
    (beginSweep s).lsn.state = (if neighbourClaims s then .deferring else .claiming)
    ∧ (beginSweep s).lsn.claimAge = 0 ∧ (beginSweep s).lsn.deferralMs = 0 ∧ (beginSweep s).lsn.forced = false := by
  have hbegun (u : State) (hu : u.lsn.state = .inactive) : (lsnBegin u).lsn.deferralMs = 0 ∧ (lsnBegin u).lsn.forced = false := by
    rw [lsnBegin, if_pos hu]
    dsimp only
    split <;> exact ⟨rfl, rfl⟩
  have hcut : (cutQuiet (withRun (fun r => { r with holds := { r.holds with defer := true } }) s)).lsn.state = .inactive := by
    simp [hl]
  obtain ⟨hstate, hage⟩ := lsnBegin_inactive hcut
  rw [beginSweep, if_pos hk]
  refine ⟨?_, hage, hbegun _ hcut⟩
  rw [hstate, neighbourClaims_congr (s := s) (by simp) (by simp)]

/-- RUN in the segment at `i`, entered with the hold set empty. -/
def enteredRun (i : Nat) (s : State) : Run := { s.run with
  seg := i, dwellMs := 0, trackCount := 0, stage := .deferred
  leakTold := s.run.leakTold || (segAt i s).leakStart
  dir := if atRest s then directionOfCode (segAt i s).dirCode else s.run.dir
  cmd := if kindOfCode (segAt i s).kindCode = .sweep then
      min (if mustWait (atSegment i s) then 0 else s.run.cmd) s.cfg.station.quietLimit
    else if mustWait (atSegment i s) then 0 else s.run.cmd
  holds := ⟨false, false, decide (kindOfCode (segAt i s).kindCode = .sweep), decide (mustWait (atSegment i s))⟩
  state := if kindOfCode (segAt i s).kindCode = .sweep ∨ mustWait (atSegment i s) then .held else .segment }

/-- What a segment's entry passes to LSN and VIB is asked of the segment entered. -/
theorem told_spec (i : Nat) (s : State) : segKind (tellLeak (faceDirection (atSegment i s))) = kindOfCode (segAt i s).kindCode
    ∧ (tellLeak (faceDirection (atSegment i s))).lsn = s.lsn
    ∧ neighbourClaims (tellLeak (faceDirection (atSegment i s))) = neighbourClaims s := by
  obtain ⟨hseg, -⟩ := faced_spec i s
  have htold : segOf (tellLeak (faceDirection (atSegment i s))) = segOf (faceDirection (atSegment i s)) := by
    rw [segOf, segOf, progOf_congr (s := faceDirection (atSegment i s)) (by simp) (by simp), tellLeak_told]
  refine ⟨by rw [segKind, htold, hseg], by simp [atSegment], neighbourClaims_congr (by simp [atSegment]) (by simp [atSegment])⟩

theorem enterSegment_exact (i : Nat) (s : State) (h : s.run.holds = noHolds) : (enterSegment i s).run = enteredRun i s := by
  have hface := faceDirection_exact (atSegment i s) h
  obtain ⟨hseg, -⟩ := faced_spec i s
  obtain ⟨hkind, -⟩ := told_spec i s
  have hcfg : (tellLeak (faceDirection (atSegment i s))).cfg = s.cfg := by simp [atSegment]
  have hstate : (if Holds.isEmpty ⟨false, false, decide (kindOfCode (segAt i s).kindCode = .sweep),
        decide (mustWait (atSegment i s))⟩ then RunState.segment else .held)
      = if kindOfCode (segAt i s).kindCode = .sweep ∨ mustWait (atSegment i s) then .held else .segment := by
    by_cases hk : kindOfCode (segAt i s).kindCode = .sweep <;> by_cases hw : mustWait (atSegment i s) <;>
      simp [Holds.isEmpty, hk, hw]
  rw [enterSegment_eq, withRun_run, beginSweep_exact, hkind, tellLeak_told, hseg, hface, hcfg, enteredRun, ← hstate]
  exact if_pos rfl

theorem enterSegment_lsn (i : Nat) (s : State) :
    (enterSegment i s).lsn = (beginSweep (tellLeak (faceDirection (atSegment i s)))).lsn := by
  rw [enterSegment_eq]
  simp

/-! ## The next segment at the end of a RAMP (R44, R46) -/

/-- The state from which the next segment is entered. -/
def rampReached (s : State) : State := { s with run := { s.run with
  rampLeft := 20, lastSum := demandSum s, lastAllowed := allowedPower s, trackCount := 0, holds := noHolds
  segsDone := s.run.segsDone + 1 } }

theorem settleHolds_idem (r : Run) : settleHolds (settleHolds r) = settleHolds r := by
  unfold settleHolds
  split
  next h => exact if_pos (by dsimp only; split <;> rfl)
  next h => rfl

theorem rampStep_nextSegment {s : State} (hf : freeToMove s) (hk : segKind s = .ramp) (hcmd : s.run.cmd = (segOf s).target)
    (hnext : s.run.seg + 1 < (progOf s).segCount) : rampStep s = stepEnded (enterSegment (s.run.seg + 1) (rampReached s)) := by
  have hstay : nextSetpoint s.run.cmd s.run.cmd (segOf s).rate = s.run.cmd := by
    unfold nextSetpoint
    rw [if_neg (Nat.lt_irrefl _)]
    omega
  have hmoved := moved_free hf (.inr (Nat.le_refl s.run.cmd))
  rw [hstay] at hmoved
  rw [rampStep_toward hf (.inl ⟨hk, hcmd⟩), hmoved, if_pos ⟨by simp [hk], rfl⟩, segmentEnd_eq]
  exact congrArg stepEnded (if_pos hnext)

theorem nextSegment_run (s : State) :
    (stepEnded (enterSegment (s.run.seg + 1) (rampReached s))).run = enteredRun (s.run.seg + 1) (rampReached s) := by
  have hentered := enterSegment_exact (s.run.seg + 1) (rampReached s) rfl
  have hsettled : settleHolds (enterSegment (s.run.seg + 1) (rampReached s)).run = (enterSegment (s.run.seg + 1) (rampReached s)).run := by
    rw [enterSegment_eq, withRun_run]
    exact settleHolds_idem _
  rw [stepEnded_free (by rw [hentered]; rfl) (by rw [hentered]; rfl), (postSpeed_frame _).2.1, withRun_run, hsettled, hentered]

theorem stepEnded_entered_frame (i : Nat) (s : State) (h : s.run.holds = noHolds) :
    (stepEnded (enterSegment i s)).lsn = (enterSegment i s).lsn ∧ (stepEnded (enterSegment i s)).vib = s.vib
      ∧ (stepEnded (enterSegment i s)).dev = s.dev := by
  have hentered := enterSegment_exact i s h
  rw [stepEnded_free (by rw [hentered]; rfl) (by rw [hentered]; rfl)]
  simp

/-- The holds with which a segment is entered: held exactly under REVERSAL or DEFER (R42, R44). -/
theorem enteredRun_holds (i : Nat) (s : State) : ((enteredRun i s).state = .held ↔ (enteredRun i s).holds ≠ noHolds)
    ∧ inSegment (enteredRun i s).state = true
    ∧ ((enteredRun i s).holds.reversal = true ↔ mustWait (atSegment i s))
    ∧ ((enteredRun i s).holds.defer = true ↔ kindOfCode (segAt i s).kindCode = .sweep) := by
  refine ⟨?_, ?_, decide_eq_true_iff, decide_eq_true_iff⟩ <;>
    by_cases hk : kindOfCode (segAt i s).kindCode = .sweep <;> by_cases hw : mustWait (atSegment i s) <;>
    simp [enteredRun, hk, hw, noHolds, inSegment]

/-- What the speed of a segment's entry is: 0 under REVERSAL, and of a SWEEP at Vq at most (R44). -/
theorem enteredRun_cmd (i : Nat) (s : State) : (enteredRun i s).cmd = if (enteredRun i s).holds.reversal then 0
    else if kindOfCode (segAt i s).kindCode = .sweep then min s.run.cmd s.cfg.station.quietLimit else s.run.cmd := by
  by_cases hk : kindOfCode (segAt i s).kindCode = .sweep <;> by_cases hw : mustWait (atSegment i s) <;>
    simp [enteredRun, hk, hw]

end Sys2Proof.Machine
end

section
/-! SUPPORT. The holds of a ramp step, and what keeps YIELD out of the hold set (O7). -/
namespace Sys2Proof.Machine

/-! ## The hold set brought up to date (R45, R48, R49, R54) -/

/-- RUN as the start of a step leaves it: REVERSAL goes once the pinion stands, YIELD is the yield condition's. -/
def holdsTaken (s : State) : Run := { s.run with
  rampLeft := 20, lastSum := demandSum s, lastAllowed := allowedPower s
  dir := if s.run.holds.reversal = true ∧ s.run.measured = 0 then segDir s else s.run.dir
  cmd := if yieldCondition s then min s.run.cmd s.cfg.station.quietLimit else s.run.cmd
  holds := ⟨false, yieldCondition s, s.run.holds.defer, s.run.holds.reversal && decide (s.run.measured ≠ 0)⟩ }

/-- The hold set with POWER and REVERSAL brought up to date, and YIELD as before. -/
def reversalTaken (s : State) : State := { s with run := { s.run with
  rampLeft := 20, lastSum := demandSum s, lastAllowed := allowedPower s
  dir := if s.run.holds.reversal = true ∧ s.run.measured = 0 then segDir s else s.run.dir
  holds := ⟨false, s.run.holds.yields, s.run.holds.defer, s.run.holds.reversal && decide (s.run.measured ≠ 0)⟩ } }

theorem updateReversal_begun (s : State) : updateReversal (clearPower (beginStep s)) = reversalTaken s := by
  by_cases h : s.run.holds.reversal = true ∧ s.run.measured = 0
  · have hnone : (s.run.holds.reversal && decide (s.run.measured ≠ 0)) = false := by simp [h.2]
    rw [reversalTaken, if_pos h, hnone]
    exact if_pos h
  · have hsame : (s.run.holds.reversal && decide (s.run.measured ≠ 0)) = s.run.holds.reversal := by
      cases hr : s.run.holds.reversal <;> simp_all
    rw [reversalTaken, if_neg h, hsame]
    exact if_neg h

theorem yieldCondition_reversalTaken (s : State) : yieldCondition (reversalTaken s) = yieldCondition s := rfl

/-- The start of a step, under the law of the hold set: a speed that YIELD already holds down is not above Vq. -/
theorem updateHolds_begun {s : State} (hl : holdLaw s) : (updateHolds (beginStep s)).run = holdsTaken s
    ∧ (updateHolds (beginStep s)).peer.posting.yielding = yieldCondition s := by
  obtain ⟨-, hposted, -, hquiet⟩ := hl
  have hyields : (reversalTaken s).run.holds.yields = s.run.holds.yields := rfl
  rw [updateHolds, updateReversal_begun, updateYield, yieldCondition_reversalTaken, hyields, holdsTaken]
  cases hc : yieldCondition s <;> cases hy : s.run.holds.yields
  · refine ⟨?_, hposted.trans hy⟩
    rw [reversalTaken, hy]
    rfl
  · exact ⟨rfl, rfl⟩
  · have hcut : (cutQuiet (holdYield true (reversalTaken s))).peer.posting.yielding = true := by simp [holdYield, postYielding]
    refine ⟨?_, hcut⟩
    show (cutQuiet (holdYield true (reversalTaken s))).run = _
    rw [cutQuiet_run]
    rfl
  · refine ⟨?_, hposted.trans hy⟩
    rw [reversalTaken, hy, if_pos rfl, Nat.min_eq_left (hquiet (.inl hy))]
    rfl

/-! ## A step under a hold (R48, R54, R55) -/

/-- RUN with the yield time of a step counted: YIELD goes when the budget is used up (R55). -/
def yieldCounted (s : State) : Run :=
  if s.run.holds.yields = true then { s.run with
    yieldMs := s.run.yieldMs + 20
    yieldExhausted := s.run.yieldExhausted || decide (s.cfg.station.yieldBudget * 100 ≤ s.run.yieldMs + 20)
    holds := { s.run.holds with yields := decide (s.run.yieldMs + 20 < s.cfg.station.yieldBudget * 100) } }
  else s.run

theorem countYield_counted (s : State) : (countYield s).run = yieldCounted s
    ∧ (s.peer.posting.yielding = s.run.holds.yields →
        (countYield s).peer.posting.yielding = (yieldCounted s).holds.yields) := by
  cases hy : s.run.holds.yields with
  | false =>
    rw [countYield, if_neg (by simp [hy]), yieldCounted, if_neg (by simp [hy])]
    exact ⟨rfl, fun h => h.trans hy.symm⟩
  | true =>
    rw [yieldCounted, if_pos hy]
    by_cases hb : s.cfg.station.yieldBudget * 100 ≤ s.run.yieldMs + 20
    · have heq : countYield s = holdYield false (withRun (fun r => { r with yieldExhausted := true })
          (withRun (fun r => { r with yieldMs := r.yieldMs + 20 }) s)) := by
        rw [countYield, if_pos hy]
        exact if_pos hb
      rw [heq, decide_eq_true hb, decide_eq_false (Nat.not_lt.mpr hb), Bool.or_true]
      exact ⟨rfl, fun _ => rfl⟩
    · have heq : countYield s = withRun (fun r => { r with yieldMs := r.yieldMs + 20 }) s := by
        rw [countYield, if_pos hy]
        exact if_neg hb
      have hholds : ({ s.run.holds with yields := true } : Holds) = s.run.holds := by rw [← hy]
      rw [heq, decide_eq_false hb, decide_eq_true (Nat.not_le.mp hb), Bool.or_false, hholds]
      exact ⟨rfl, fun h => h.trans hy.symm⟩

/-- A step that finds no POWER held ends with the yield time alone. -/
theorem stepEnded_unpowered {s : State} (hp : s.run.holds.power = false) :
    (stepEnded s).run = settleHolds (yieldCounted s) ∧ (stepEnded s).dev = s.dev
    ∧ (s.peer.posting.yielding = s.run.holds.yields →
        (stepEnded s).peer.posting.yielding = (yieldCounted s).holds.yields) := by
  have hpower : countPower s = s := if_neg (by simp [hp])
  obtain ⟨hrun, hposted⟩ := countYield_counted s
  rw [stepEnded, hpower, (postSpeed_frame _).2.1, withRun_run, hrun]
  exact ⟨rfl, by simp, fun h => by simpa using hposted h⟩

/-- What a step under a hold acts on: the hold set taken, and the track count cleared (R58). -/
def heldStep (s : State) : State := clearTrack (updateHolds (beginStep s))

section
variable {s : State} (hin : inSegment s.run.state = true) (hl : holdLaw s)
include hin hl

theorem rampStep_held (h : (holdsTaken s).holds.isEmpty = false) : rampStep s = stepEnded (heldStep s) := by
  rw [rampStep_active hin, (updateHolds_begun hl).1, if_neg (by simp [h])]
  rfl

omit hin in
theorem heldStep_run : (heldStep s).run = { holdsTaken s with trackCount := 0 } := by
  rw [← (updateHolds_begun hl).1]
  rfl

/-- A step under a hold moves nothing but what the holds themselves move. -/
theorem rampStep_held_run (h : (holdsTaken s).holds.isEmpty = false) : (rampStep s).run = settleHolds (yieldCounted (heldStep s))
    ∧ (rampStep s).dev = s.dev ∧ (rampStep s).peer.posting.yielding = (yieldCounted (heldStep s)).holds.yields := by
  have hrun := heldStep_run hl
  obtain ⟨hended, hdev, hposted⟩ := stepEnded_unpowered (s := heldStep s) (by rw [hrun]; rfl)
  rw [rampStep_held hin hl h]
  refine ⟨hended, hdev.trans (by simp [heldStep]), hposted ?_⟩
  rw [hrun]
  exact (updateHolds_begun hl).2

end

/-- RUN with the yield time counted, from the state before the step. -/
theorem yieldCounted_heldStep {s : State} (hl : holdLaw s) : yieldCounted (heldStep s) = { holdsTaken s with
    trackCount := 0
    yieldMs := if yieldCondition s then s.run.yieldMs + 20 else s.run.yieldMs
    yieldExhausted := s.run.yieldExhausted
      || (yieldCondition s && decide (s.cfg.station.yieldBudget * 100 ≤ s.run.yieldMs + 20))
    holds := { (holdsTaken s).holds with
      yields := yieldCondition s && decide (s.run.yieldMs + 20 < s.cfg.station.yieldBudget * 100) } } := by
  have hcfg : (heldStep s).cfg = s.cfg := by simp [heldStep]
  rw [yieldCounted, heldStep_run hl, hcfg]
  cases hc : yieldCondition s <;> simp [holdsTaken, hc]

end Sys2Proof.Machine
end

section
/-! SUPPORT. What the step of a segment keeps of YIELD (O7). -/
namespace Sys2Proof.Machine

/-! ## STORE posts nothing of YIELD (R20) -/

theorem commitEnded_yielding (s : State) : (commitEnded s).peer.posting.yielding = s.peer.posting.yielding := by
  rcases commitEnded_cases s with ⟨_, h⟩ | ⟨_, h⟩ <;> rw [h]
  simp

theorem failRequest_yielding (req : Request) (s : State) :
    (failRequest req s).peer.posting.yielding = s.peer.posting.yielding := by
  rcases failRequest_cases req s with ⟨_, h⟩ | ⟨_, h⟩ <;> rw [h]
  exact commitEnded_yielding s

theorem beginSwap_yielding (recovery : Bool) (req : Request) (s : State) :
    (beginSwap recovery req s).peer.posting.yielding = s.peer.posting.yielding := by
  unfold beginSwap
  (repeat' split) <;> simp [failRequest_yielding]

theorem checkpoint_yielding (s : State) : (checkpoint s).peer.posting.yielding = s.peer.posting.yielding := by
  have hcommit (req : Request) (u : State) : (commitRequest req u).peer.posting.yielding = u.peer.posting.yielding := by
    unfold commitRequest
    (repeat' split) <;> simp [failRequest_yielding, beginSwap_yielding]
  unfold checkpoint handOver
  (repeat' split) <;> simp [hcommit]

/-! ## What a segment's step does to YIELD -/

/-- Nothing brings YIELD in: the yield time stays, and a station that does not yield is not made to. -/
structure yieldsKept (s t : State) : Prop where
  time : t.run.yieldMs = s.run.yieldMs
  hold : s.run.holds.yields = false → t.run.holds.yields = false
  posted : s.peer.posting.yielding = false → t.peer.posting.yielding = false

namespace yieldsKept

theorem refl (s : State) : yieldsKept s s := ⟨rfl, id, id⟩

theorem trans {s t u : State} (h : yieldsKept s t) (h' : yieldsKept t u) : yieldsKept s u :=
  ⟨h'.time.trans h.time, fun hs => h'.hold (h.hold hs), fun hs => h'.posted (h.posted hs)⟩

theorem of_eq {s t : State} (hrun : t.run = s.run) (hp : t.peer.posting.yielding = s.peer.posting.yielding) : yieldsKept s t :=
  ⟨by rw [hrun], fun h => by rw [hrun, h], fun h => hp.trans h⟩

theorem withRun (f : Run → Run) (s : State) (hms : (f s.run).yieldMs = s.run.yieldMs)
    (hh : (f s.run).holds.yields = s.run.holds.yields) : yieldsKept s (withRun f s) := ⟨hms, fun h => hh.trans h, id⟩

theorem toStopping (why : EndReason) (s : State) : yieldsKept s (toStopping why s) := by
  cases hin : inSegment s.run.state with
  | true =>
    obtain ⟨-, -, hyields⟩ := toStopping_told (why := why) hin
    have hrun := toStopping_run (why := why) hin
    exact ⟨by rw [hrun]; rfl, fun _ => by rw [hrun]; rfl, fun _ => hyields⟩
  | false =>
    rw [toStopping_other hin]
    exact refl s

theorem runDeviation (c : DevClass) (measured limit : Nat) (s : State) : yieldsKept s (runDeviation c measured limit s) := by
  have htold : yieldsKept s (takeDev ⟨c, s.run.seg, measured, limit⟩ s) := of_eq (by simp) (by simp)
  unfold Machine.runDeviation
  dsimp only
  split
  · exact htold.trans (toStopping _ _)
  · exact htold

theorem enterSegment (i : Nat) (s : State) : yieldsKept s (enterSegment i s) := by
  obtain ⟨st, dir, cmd, reversal, defer, told, -, hrun⟩ := enterSegment_run i s
  exact ⟨by rw [hrun], fun h => by rw [hrun]; exact h, fun h => by simpa [Machine.enterSegment] using h⟩

theorem segmentEnd (s : State) : yieldsKept s (segmentEnd s) := by
  have hcounted : yieldsKept s (segmentCounted s) := withRun _ s rfl rfl
  rw [segmentEnd_eq]
  split
  · exact hcounted.trans (enterSegment _ _)
  · exact hcounted.trans (toStopping _ _)

theorem moveTo (target rate : Nat) (s : State) : yieldsKept s (moveTo target rate s) := by
  unfold Machine.moveTo
  split
  · exact withRun _ s rfl rfl
  · exact withRun _ s rfl rfl

theorem moveStep (target rate : Nat) (s : State) : yieldsKept s (moveStep target rate s) := by
  have hmoved : yieldsKept s (Machine.moveTo target rate (clearTrack s)) :=
    (withRun (fun r => { r with trackCount := 0 }) s rfl rfl).trans (moveTo target rate _)
  unfold Machine.moveStep
  dsimp only
  split
  · exact hmoved.trans (segmentEnd _)
  · exact hmoved

theorem trackDwell (s : State) : yieldsKept s (trackDwell s) := by
  by_cases h : trackTrips s
  · rw [trackDwell_trips h]
    exact (withRun _ s rfl rfl).trans (runDeviation _ _ _ _)
  · rw [trackDwell_still h]
    exact withRun _ s rfl rfl

theorem dwellStep (g : Segment) (s : State) : yieldsKept s (dwellStep g s) := by
  have htracked : yieldsKept s (Machine.trackDwell (Machine.withRun (fun r => { r with dwellMs := r.dwellMs + 20 }) s)) :=
    (withRun _ s rfl rfl).trans (trackDwell _)
  unfold Machine.dwellStep
  dsimp only
  split
  · exact htracked.trans (segmentEnd _)
  · exact htracked

theorem takeOutcome (again : Bool) (s : State) : yieldsKept s (takeOutcome again s) := by
  unfold Machine.takeOutcome
  split
  · exact enterSegment _ s
  · exact segmentEnd s

theorem checkpoint (s : State) : yieldsKept s (checkpoint s) := of_eq (by simp) (checkpoint_yielding s)

theorem sweepEnd (s : State) : yieldsKept s (sweepEnd s) := by
  have htold : yieldsKept s (lsnSweepEnded (setStage .assessing s)) :=
    (withRun (fun r => { r with stage := .assessing }) s rfl rfl).trans (of_eq (by simp [setStage]) (by simp [setStage]))
  unfold Machine.sweepEnd
  by_cases hv : (lsnSweepEnded (setStage .assessing s)).vib.state = .idle
  · rw [assessSweep, if_pos hv]
    exact htold
  · obtain ⟨v, d, -, h⟩ := noiseHanded_eq (lsnSweepEnded (setStage .assessing s))
    have hhanded : yieldsKept (lsnSweepEnded (setStage .assessing s)) (noiseHanded (lsnSweepEnded (setStage .assessing s))) :=
      of_eq (by rw [h]) (by rw [h])
    rw [assessSweep_eq hv]
    exact ((htold.trans hhanded).trans (takeOutcome _ _)).trans (checkpoint _)

theorem sweepStep (g : Segment) (s : State) : yieldsKept s (sweepStep g s) := by
  unfold Machine.sweepStep
  split
  · have hmoved := moveTo g.startSpeed g.rate s
    dsimp only
    split
    · exact hmoved.trans (withRun (fun r => { r with stage := .sweeping }) _ rfl rfl)
    · exact hmoved
  · have hmoved := moveTo g.endSpeed g.rate s
    dsimp only
    split
    · exact hmoved.trans (sweepEnd _)
    · exact hmoved
  · exact refl s
  · exact refl s

theorem actStep (s : State) : yieldsKept s (actStep s) := by
  have hcleared : yieldsKept s (clearTrack s) := withRun (fun r => { r with trackCount := 0 }) s rfl rfl
  unfold Machine.actStep
  split
  · exact moveStep _ _ s
  · exact moveStep _ _ s
  · split
    · exact dwellStep _ s
    · exact hcleared.trans (moveTo _ _ _)
  · exact hcleared.trans (sweepStep _ _)

theorem countPower (s : State) : yieldsKept s (countPower s) := by
  unfold Machine.countPower
  dsimp only
  split
  · split
    · exact (withRun _ s rfl rfl).trans ((withRun _ _ rfl rfl).trans (runDeviation _ _ _ _))
    · exact withRun _ s rfl rfl
  · exact refl s

/-- The end of a step that finds no YIELD held counts no yield time. -/
theorem stepEnded {s : State} (h : s.run.holds.yields = false) : yieldsKept s (stepEnded s) := by
  have hcounted := countPower s
  have hyield : countYield (Machine.countPower s) = Machine.countPower s := if_neg (by simp [hcounted.hold h])
  obtain ⟨st, hset, -⟩ := settleHolds_eq (Machine.countPower s).run
  rw [Machine.stepEnded, hyield]
  have hsettled := withRun settleHolds (Machine.countPower s) (by rw [hset]) (by rw [hset])
  exact hcounted.trans (hsettled.trans (of_eq (by simp) (by simp)))

end yieldsKept

end Sys2Proof.Machine
end

section
/-! SUPPORT. A ramp step by the holds it finds, and the entry of a segment (O7). -/
namespace Sys2Proof.Machine

/-! ## The latch through a step in a segment (R20, R21) -/

theorem Latches.updateHolds (s : State) : Latches s (updateHolds s) := by
  have hhold (b : Bool) (u : State) : Latches u (holdYield b u) := (Latches.withRun _ u).trans (.postYielding b _)
  have hreversal : Latches s (Machine.updateReversal (Machine.clearPower s)) := by
    unfold Machine.updateReversal
    split
    · exact .of_peer rfl
    · exact .of_peer rfl
  unfold Machine.updateHolds Machine.updateYield
  split
  · exact (hreversal.trans (hhold true _)).trans (.cutQuiet _)
  · split
    · exact hreversal.trans (hhold false _)
    · exact hreversal

theorem Latches.rampStep_active {s : State} (h : inSegment s.run.state = true) : Latches s (rampStep s) := by
  have htaken : Latches s (Machine.updateHolds (beginStep s)) := (Latches.updateHolds (beginStep s)).after rfl
  rw [Machine.rampStep_active h]
  split
  · exact (htaken.trans (.actStep _)).trans (.stepEnded _)
  · exact (htaken.trans (.withRun (fun r => { r with trackCount := 0 }) _)).trans (.stepEnded _)

/-- The yield condition in R54's words. -/
theorem yieldCondition_iff (s : State) : yieldCondition s = true ↔
    (segKind s = .ramp ∨ segKind s = .dwell) ∧ (segOf s).yieldable = true ∧ s.cfg.station.quietLimit < (segOf s).target
      ∧ (∃ e ∈ acousticPeers s, e.post.listen = .listen) ∧ s.run.yieldExhausted = false ∧ 0 < s.cfg.station.yieldBudget := by
  simp [yieldCondition, neighbourListens, and_assoc]

section
variable {s : State} (hin : inSegment s.run.state = true) (hl : holdLaw s)
include hin hl

/-- A hold that stands after a step keeps RUN in HELD (R42, R48). -/
theorem rampStep_staysHeld (h : s.run.holds.defer = true ∨ s.run.holds.reversal = true ∧ s.run.measured ≠ 0
    ∨ yieldCondition s = true ∧ s.run.yieldMs + 20 < s.cfg.station.yieldBudget * 100) :
    (rampStep s).run = { yieldCounted (heldStep s) with state := .held } := by
  have hfound : (holdsTaken s).holds.isEmpty = false := by
    rcases h with h | h | h <;> simp [holdsTaken, Holds.isEmpty, h]
  have hleft : (yieldCounted (heldStep s)).holds.isEmpty = false := by
    rw [yieldCounted_heldStep hl]
    rcases h with h | h | h <;> simp [holdsTaken, Holds.isEmpty, h]
  have hstate : inSegment (yieldCounted (heldStep s)).state = true := by
    rw [yieldCounted_heldStep hl]
    exact hin
  rw [(rampStep_held_run hin hl hfound).1, settleHolds, if_pos hstate, if_neg (by simp [hleft])]

/-- A step of a station whose yield condition fails ends with no YIELD, and counts no yield time (R54). -/
theorem rampStep_unyielding (hc : yieldCondition s = false) : (rampStep s).run.holds.yields = false
    ∧ (rampStep s).peer.posting.yielding = false ∧ (rampStep s).run.yieldMs = s.run.yieldMs := by
  obtain ⟨hrun, hposted⟩ := updateHolds_begun hl
  have hyields : (updateHolds (beginStep s)).run.holds.yields = false := by
    rw [hrun]
    exact hc
  have hacted : yieldsKept (updateHolds (beginStep s)) (if (updateHolds (beginStep s)).run.holds.isEmpty then
      actStep (updateHolds (beginStep s)) else clearTrack (updateHolds (beginStep s))) := by
    split
    · exact .actStep _
    · exact .withRun (fun r => { r with trackCount := 0 }) _ rfl rfl
  obtain ⟨htime, hhold, hpost⟩ := hacted.trans (.stepEnded (hacted.hold hyields))
  rw [rampStep_active hin]
  refine ⟨hhold hyields, hpost (hposted.trans hc), htime.trans ?_⟩
  rw [hrun]
  rfl

/-- A yield budget used up ends YIELD at the step that uses it up (R55). -/
theorem rampStep_exhausts (hc : yieldCondition s = true) (hb : s.cfg.station.yieldBudget * 100 ≤ s.run.yieldMs + 20) :
    (rampStep s).run.yieldExhausted = true ∧ (rampStep s).run.holds.yields = false
    ∧ (rampStep s).peer.posting.yielding = false ∧ (rampStep s).run.yieldMs = s.run.yieldMs + 20
    ∧ (rampStep s).run.seg = s.run.seg ∧ (rampStep s).dev = s.dev := by
  have hfound : (holdsTaken s).holds.isEmpty = false := by simp [holdsTaken, Holds.isEmpty, hc]
  obtain ⟨hrun, hdev, hposted⟩ := rampStep_held_run hin hl hfound
  obtain ⟨st, hset, -⟩ := settleHolds_eq (yieldCounted (heldStep s))
  rw [hset] at hrun
  rw [yieldCounted_heldStep hl] at hrun hposted
  rw [hrun, hposted, hdev]
  simp [hc, hb, holdsTaken]

omit hl in
/-- The class posted is that of the speed the step leaves. -/
theorem rampStep_acoustic : (rampStep s).peer.posting.acoustic
    = if (rampStep s).cfg.station.quietLimit < (rampStep s).run.cmd then .loud else .quiet := by
  rw [rampStep_active hin]
  exact (stepEnded_posted _).1

/-- The step that ends a REVERSAL moves a RAMP on from 0 in its own direction (R49). -/
theorem rampStep_turns (hrev : s.run.holds.reversal = true) (hm : s.run.measured = 0) (hdefer : s.run.holds.defer = false)
    (hyields : s.run.holds.yields = false) (hc : yieldCondition s = false) (hk : segKind s = .ramp)
    (hlt : stepSize (segOf s).rate < (segOf s).target) (hw : withheld s (stepSize (segOf s).rate) = false) :
    (rampStep s).run.holds = noHolds ∧ (rampStep s).run.dir = segDir s
      ∧ (rampStep s).run.cmd = stepSize (segOf s).rate ∧ (rampStep s).run.state = .segment := by
  have ⟨_, _, hstill, _⟩ := hl
  have hzero : s.run.cmd = 0 := hstill hrev
  have htaken : updateHolds (beginStep s) = reversalTaken s := by
    rw [updateHolds, updateReversal_begun, updateYield, yieldCondition_reversalTaken, hc,
      show (reversalTaken s).run.holds.yields = false from hyields]
    rfl
  have hholds : (reversalTaken s).run.holds = noHolds := by simp [reversalTaken, hyields, hdefer, hm, noHolds]
  have hnext : nextSetpoint (clearTrack (reversalTaken s)).run.cmd (segOf s).target (segOf s).rate = stepSize (segOf s).rate := by
    rw [show (clearTrack (reversalTaken s)).run.cmd = 0 from hzero, nextSetpoint, if_pos (by omega)]
    omega
  have hmoved : moveTo (segOf s).target (segOf s).rate (clearTrack (reversalTaken s))
      = withRun (fun r => { r with cmd := stepSize (segOf s).rate }) (clearTrack (reversalTaken s)) := by
    rw [moveTo_moves (.inl (by rw [hnext]; exact hw)), withRun, withRun, hnext]
  have hact : actStep (reversalTaken s)
      = withRun (fun r => { r with cmd := stepSize (segOf s).rate }) (clearTrack (reversalTaken s)) := by
    rw [actStep, show segKind (reversalTaken s) = .ramp from hk, show segOf (reversalTaken s) = segOf s from rfl]
    dsimp only
    rw [moveStep, hmoved]
    exact if_neg (Nat.ne_of_lt hlt)
  obtain ⟨hrun, -⟩ := stepEnded_holdless (s := actStep (reversalTaken s)) (by rw [hact]; exact hholds)
  rw [rampStep_active hin, htaken, hholds, if_pos (show noHolds.isEmpty = true from rfl), hrun, hact]
  refine ⟨hholds, if_pos ⟨hrev, hm⟩, rfl, if_pos hin⟩

end

/-- Settles O7: the entry at a RAMP's end, the yield condition, and a step by the holds it finds. -/
theorem segmentsAreEnteredAndHeld : Obligations.SegmentsAreEnteredAndHeld := by
  refine ⟨fun s hb hf hk hcmd hnext => ?_, yieldCondition_iff, fun s hb hin hl => ?_⟩
  · refine ⟨_, _, whenReleased_eq hb (rampStep_nextSegment hf hk hcmd hnext), rfl, ?_⟩
    have hlatch := latchedOn_of_latches ((Latches.rampStep_free hf).trans (.leaveIdle _))
    rw [rampStep_nextSegment hf hk hcmd hnext] at hlatch
    have hrun := nextSegment_run s
    obtain ⟨hlsn, hvib, hdev⟩ := stepEnded_entered_frame (s.run.seg + 1) (rampReached s) rfl
    obtain ⟨hheld, hin, hreversal, hdefer⟩ := enteredRun_holds (s.run.seg + 1) (rampReached s)
    obtain ⟨hkind, htold, hclaims⟩ := told_spec (s.run.seg + 1) (rampReached s)
    simp only [leaveIdle_frame, stepEnded_frame, hrun, hlsn, hvib, hdev, enterSegment_lsn]
    refine ⟨rfl, rfl, rfl, rfl, hheld, hin, rfl, rfl, hreversal, rfl, hdefer, enteredRun_cmd _ _, fun hstart ht => ?_, fun h => ?_,
      fun hsweep hl => ?_, fun hsweep => ?_, by simp [rampReached], rfl, by simp [rampReached], by simp [rampReached], rfl, hlatch⟩
    · obtain ⟨u, hu, hleak, henabled⟩ := enterSegment_arms (i := s.run.seg + 1) (s := rampReached s) hstart ht
      refine ⟨by rw [enteredRun, show (segAt (s.run.seg + 1) (rampReached s)).leakStart = true from hstart, Bool.or_true], ?_⟩
      exact armingTold_of (armingTold_armLeak u) hleak (fun c => (henabled c).trans (by cases c <;> rfl)) (by simp [hu])
    · refine ⟨enterSegment_leak_still (i := s.run.seg + 1) (s := rampReached s) h, ?_⟩
      rcases h with h | h
      · rw [enteredRun, show (segAt (s.run.seg + 1) (rampReached s)).leakStart = false from h, Bool.or_false]
        rfl
      · rw [enteredRun, show (rampReached s).run.leakTold = true from h, h]
        rfl
    · obtain ⟨hstate, hrest⟩ := beginSweep_lsn (hkind.trans hsweep) (by rw [htold]; exact hl)
      rw [hstate, hclaims]
      exact ⟨neighbourClaims_congr rfl rfl ▸ rfl, hrest⟩
    · rw [beginSweep, if_neg fun he => hsweep (hkind.symm.trans he), htold]
      rfl
  · have hlatch := latchedOn_of_latches ((Latches.rampStep_active hin).trans (.leaveIdle _))
    have ⟨_, hposted, hstill, _⟩ := hl
    have hraised (h : (rampStep s).peer.posting.yielding ≠ s.peer.posting.yielding) : (rampStep s).peer.latch = true := by
      simpa using hlatch (.inr (.inr (.inr (.inr (.inr (by simpa using h))))))
    refine ⟨_, whenReleased_running hb, hlatch, fun hrev hm => ?_, fun hrev hm hdefer => ?_,
      fun hrev hm hdefer hyields hc hk hlt hw _ => ?_, fun hdefer hrev hk => ?_, fun hc hbudget => ?_, fun hc hbudget => ?_,
      fun hc => ?_⟩
    · simp only [leaveIdle_frame, rampStep_staysHeld hin hl (.inr (.inl ⟨hrev, hm⟩)), yieldCounted_heldStep hl]
      simp [holdsTaken, hrev, hm, hstill hrev]
    · simp only [leaveIdle_frame, rampStep_staysHeld hin hl (.inl hdefer), yieldCounted_heldStep hl]
      simp [holdsTaken, hrev, hm, hstill hrev]
    · simp only [leaveIdle_frame]
      exact rampStep_turns hin hl hrev hm hdefer hyields hc hk hlt hw
    · have hc : yieldCondition s = false := by
        simp [yieldCondition, hk]
      simp only [leaveIdle_frame, rampStep_staysHeld hin hl (.inl hdefer), yieldCounted_heldStep hl]
      simp [holdsTaken, hrev, hdefer, hc]
    · have hrun := rampStep_staysHeld hin hl (.inr (.inr ⟨hc, hbudget⟩))
      rw [yieldCounted_heldStep hl] at hrun
      have hpost : (rampStep s).peer.posting.yielding = true := by
        obtain ⟨-, -, hpost⟩ := rampStep_held_run hin hl (by simp [holdsTaken, Holds.isEmpty, hc])
        rw [hpost, yieldCounted_heldStep hl]
        simp [hc, hbudget]
      have hcfg : (rampStep s).cfg = s.cfg := by
        rw [rampStep_held hin hl (by simp [holdsTaken, Holds.isEmpty, hc])]
        simp [heldStep]
      refine ⟨by simp [hrun], by simp [hrun, hc, hbudget], by simpa using hpost, by simp [hrun, holdsTaken, hc], ?_,
        by simp [hrun, hc], by simp [hrun, holdsTaken], by simp [hrun, holdsTaken], fun hy => ?_⟩
      · simp only [leaveIdle_frame]
        rw [rampStep_acoustic hin, hcfg, hrun]
        exact if_neg (Nat.not_lt.mpr (by simp [holdsTaken, hc]))
      · simp only [leaveIdle_frame]
        exact hraised (by simp [hpost, hposted, hy])
    · simp only [leaveIdle_frame]
      exact rampStep_exhausts hin hl hc hbudget
    · obtain ⟨hyields, hpost, htime⟩ := rampStep_unyielding hin hl hc
      simp only [leaveIdle_frame]
      exact ⟨hyields, hpost, htime, fun hy => hraised (by simp [hpost, hposted, hy])⟩

end Sys2Proof.Machine
end

section
/-! SUPPORT. The configuration an image puts in force lies in its ranges (O8). -/
namespace Sys2Proof.Machine

/-! ## Fields read and values clamped (R194) -/

theorem fromBe_lt (l : List Byte) : fromBe l < 256 ^ l.length := by
  induction l using List.reverseRecOn with
  | nil => decide
  | append_singleton l b ih =>
    have hb : b.toNat < 256 := b.isLt
    have hcons : fromBe (l ++ [b]) = fromBe l * 256 + b.toNat := by simp [fromBe]
    rw [hcons, List.length_append, List.length_singleton, pow_succ]
    omega

/-- A field of `k` bytes is below 256^k, also one that runs past the end of what was read. -/
theorem field_lt (l : List Byte) (off k : Nat) : field l off k < 256 ^ k :=
  (fromBe_lt _).trans_le (Nat.pow_le_pow_right (by decide) (List.length_take_le _ _))

theorem clampTo_bounds {lo hi : Nat} (h : lo ≤ hi) (x : Nat) : lo ≤ clampTo lo hi x ∧ clampTo lo hi x ≤ hi := by
  unfold clampTo
  omega

/-! ## The station section -/

/-- Every class keeps a severity code that names a severity, the two fixed classes RETEST (R143). -/
theorem clampSeverities_bounds {l : List Nat} (h : l.length = 16) : (clampSeverities l).length = 16
    ∧ (∀ v ∈ clampSeverities l, v ≤ 2) ∧ (clampSeverities l).getD 14 0 = 1 ∧ (clampSeverities l).getD 15 0 = 1 := by
  have hlen : (List.zipWith clampSeverity (l.take 14) (defaultSeverity.take 14)).length = 14 := by
    simp [h, defaultSeverity]
  have hdefault : ∀ d ∈ defaultSeverity.take 14, d ≤ 2 := by decide
  have hclamp : ∀ v ∈ List.zipWith clampSeverity (l.take 14) (defaultSeverity.take 14), v ≤ 2 := by
    intro v hv
    rw [← List.map_uncurry_zip_eq_zipWith] at hv
    obtain ⟨⟨code, d⟩, hm, rfl⟩ := List.mem_map.mp hv
    have hd := hdefault d (List.of_mem_zip hm).2
    simp only [Function.uncurry, clampSeverity]
    split <;> omega
  unfold clampSeverities
  refine ⟨by simp [hlen], fun v hv => ?_, ?_, ?_⟩
  · rcases List.mem_append.mp hv with hv | hv
    · exact hclamp v hv
    · rcases (by simpa using hv : v = 1) with rfl
      decide
  · rw [List.getD_append_right _ _ _ _ (by omega), hlen]
    rfl
  · rw [List.getD_append_right _ _ _ _ (by omega), hlen]
    rfl

theorem clampMask_fixed (m : Set16) : inSet (clampMask m) 14 = false ∧ inSet (clampMask m) 15 = false := by
  constructor <;> simp [inSet, clampMask]

theorem tableKept_clamped {t : List Nat} (h : t.length = 32) : tableKept (t.map clampEntry) := by
  refine ⟨by simpa using h, fun code hc => ?_⟩
  obtain ⟨x, -, rfl⟩ := List.mem_map.mp hc
  unfold clampEntry
  split <;> omega

theorem stationInRange_clampStation {x : StationSection} (hfloor : x.floorShare ≤ 255) (hsev : x.severity.length = 16)
    (htable : x.table.length = 32) : stationInRange (clampStation x) := by
  obtain ⟨h14, h15⟩ := clampMask_fixed x.mask
  obtain ⟨hlen, hcodes, hstop, habort⟩ := clampSeverities_bounds hsev
  have hheader := clampTo_bounds (lo := 1) (hi := 8) (by decide) x.headerLimit
  have hcap := clampTo_bounds (lo := 1) (hi := 255) (by decide) x.stationCap
  have hperiod := clampTo_bounds (lo := 50) (hi := 500) (by decide) x.period
  have hdefer := clampTo_bounds (lo := 10) (hi := 6000) (by decide) x.deferralMax
  exact ⟨hheader.1, hheader.2, hfloor, (clampTo_bounds (by decide) _).2, hcap.1, hcap.2, (clampTo_bounds (by decide) _).2,
    (clampTo_bounds (by decide) _).2, Nat.min_le_right _ _, hperiod.1, hperiod.2, (clampTo_bounds (by decide) _).2,
    hdefer.1, hdefer.2, h14, h15, hlen, hcodes, hstop, habort, tableKept_clamped htable⟩

theorem stationInRange_readStation (l : List Byte) : stationInRange (clampStation (readStation l)) :=
  stationInRange_clampStation (Nat.le_of_lt_succ (field_lt l 5 1)) (by simp [readStation, fields1])
    (by simp [readStation, fields1])

/-! ## The programmes -/

/-- A SWEEP or STOP segment has lost its yieldable flag, and every field is in its range (R40, R194). -/
theorem segmentInRange_clampSegment (top : Nat) (g : Segment) : segmentInRange top (clampSegment top g) := by
  have hrate := clampTo_bounds (lo := 25) (hi := 2000) (by decide) g.rate
  have hduration := clampTo_bounds (lo := 1) (hi := 65535) (by decide) g.duration
  refine ⟨(clampTo_bounds (by decide) _).2, (clampTo_bounds (by decide) _).2, Nat.min_le_right _ _, Nat.min_le_right _ _,
    Nat.min_le_right _ _, hrate.1, hrate.2, hduration.1, hduration.2, (clampTo_bounds (by decide) _).2, fun hkind => ?_⟩
  have hraw : ¬ g.kindCode ≤ 1 := by
    have : 2 ≤ clampTo 0 3 g.kindCode := hkind
    unfold clampTo at this
    omega
  simp [clampSegment, dropYield, hraw]

theorem paramsInRange_clampParams {p : CircuitParams} (hleak : p.leakLimit ≤ 65535) : paramsInRange (clampParams p) := by
  have hvolume := clampTo_bounds (lo := 1) (hi := 65535) (by decide) p.volume
  have htest := clampTo_bounds (lo := 1) (hi := 4095) (by decide) p.testPressure
  have hfill := clampTo_bounds (lo := 100) (hi := 60000) (by decide) p.fillMs
  have hstab := clampTo_bounds (lo := 100) (hi := 60000) (by decide) p.stabiliseMs
  have hmeasure := clampTo_bounds (lo := 10) (hi := 6000) (by decide) p.measureTenths
  have hvent := clampTo_bounds (lo := 100) (hi := 60000) (by decide) p.ventMs
  have hwait := clampTo_bounds (lo := 1) (hi := 65535) (by decide) p.airWaitLimit
  have hgross : min p.grossFloor (clampTo 1 4095 p.testPressure - 1) < clampTo 1 4095 p.testPressure := by omega
  exact ⟨hvolume.1, hvolume.2, htest.1, htest.2, hgross, hfill.1, hfill.2, hstab.1, hstab.2, hmeasure.1, hmeasure.2,
    hvent.1, hvent.2, (clampTo_bounds (by decide) _).2, hleak, (clampTo_bounds (by decide) _).2, hwait.1, hwait.2⟩

/-- What a programme section's layout alone bounds: the lengths of its lists, and the two fields no clamp touches. -/
structure programmeForm (p : Programme) : Prop where
  curve1 : p.curve1.length = 32
  curve2 : p.curve2.length = 32
  segments : p.segments.length = 16
  leak1 : p.params1.leakLimit ≤ 65535
  leak2 : p.params2.leakLimit ≤ 65535

theorem programmeForm_readProgramme (l : List Byte) : programmeForm (readProgramme l) where
  curve1 := by simp [readProgramme, fields2]
  curve2 := by simp [readProgramme, fields2]
  segments := by simp [readProgramme]
  leak1 := Nat.le_of_lt_succ (field_lt _ 16 2)
  leak2 := Nat.le_of_lt_succ (field_lt _ 16 2)

theorem curve_bounded (l : List Nat) : ∀ x ∈ l.map (min 2048), x ≤ 2048 := by
  intro x hx
  obtain ⟨y, -, rfl⟩ := List.mem_map.mp hx
  exact Nat.min_le_left _ _

theorem programmeInRange_clampDefined (limit : Nat) {p : Programme} (h : programmeForm p) :
    programmeInRange limit (clampDefined limit p) := by
  obtain ⟨hcount1, hcount16⟩ := clampTo_bounds (lo := 1) (hi := 16) (by decide) p.segCount
  have hlo := clampTo_bounds (lo := 0) (hi := 31) (by decide) p.lo
  have hhi := clampTo_bounds (lo := 0) (hi := 31) (by decide) p.hi
  have habort := clampTo_bounds (lo := 25) (hi := 2000) (by decide) p.abortRate
  have hpower := clampTo_bounds (lo := 1) (hi := 65535) (by decide) p.powerWaitLimit
  have hband := clampTo_bounds (lo := 1) (hi := 500) (by decide) p.bandWidth
  have hnmin := clampTo_bounds (lo := 1) (hi := 15) (by decide) p.nmin
  have hsegments : (clampDefined limit p).segments.length = 16 := by
    simp [clampDefined, h.segments]
    omega
  have hused : ∀ g ∈ (clampDefined limit p).segments.take (clampDefined limit p).segCount,
      segmentInRange (clampDefined limit p).maxSpeed g := by
    intro g hg
    have hlen : (p.segments.take (clampTo 1 16 p.segCount)).length = clampTo 1 16 p.segCount := by
      simp [h.segments, hcount16]
    have htop : min limit (min p.maxSpeed limit) = min p.maxSpeed limit := Nat.min_eq_right (Nat.min_le_right _ _)
    rw [clampDefined, List.take_left' (by simpa using hlen), htop] at hg
    obtain ⟨raw, -, rfl⟩ := List.mem_map.mp hg
    exact segmentInRange_clampSegment _ raw
  exact ⟨hcount1, hcount16, hsegments, Nat.min_le_right _ _, habort.1, habort.2, (clampTo_bounds (by decide) _).2,
    (clampTo_bounds (by decide) _).2, (clampTo_bounds (by decide) _).2, hpower.1, hpower.2, (clampTo_bounds (by decide) _).2,
    hband.1, hband.2, Nat.le_max_right _ _, Nat.max_le.mpr ⟨hhi.2, hlo.2⟩, hnmin.1, hnmin.2, (clampTo_bounds (by decide) _).2,
    by simp [clampDefined, h.curve1], by simp [clampDefined, h.curve2], curve_bounded _, curve_bounded _, hused,
    paramsInRange_clampParams h.leak1, paramsInRange_clampParams h.leak2⟩

/-- A programme that is not defined is held as read, and promises nothing. -/
theorem programmeInRange_clampProgramme (limit : Nat) {p : Programme} (h : programmeForm p)
    (hd : (clampProgramme limit p).definedFlag = true) : programmeInRange limit (clampProgramme limit p) := by
  unfold clampProgramme at hd ⊢
  split
  · exact programmeInRange_clampDefined limit h
  next hno =>
    rw [if_neg hno] at hd
    exact absurd hd hno

/-- Settles O8: each section as read is clamped into its ranges. -/
theorem loadedImageIsInRange : Obligations.LoadedImageIsInRange := by
  intro number image
  refine ⟨stationInRange_readStation _, by simp [loadImage, imageProgrammes], fun p hp hd => ?_⟩
  obtain ⟨raw, hraw, rfl⟩ := List.mem_map.mp hp
  obtain ⟨i, -, rfl⟩ := List.mem_map.mp hraw
  exact programmeInRange_clampProgramme _ (programmeForm_readProgramme _) hd

end Sys2Proof.Machine
end

section
/-! SUPPORT. The measured speed (O38) and the oil history (O40). -/
namespace Sys2Proof.Machine

/-! ## The measured speed (R41) -/

/-- VIB takes an index pulse in SAMPLING alone (R84). -/
theorem vibIndex_idle {e : Nat} {p : Programme} {contamination : Bool} {us : Nat} {v : Vib} (h : v.state ≠ .sampling) :
    vibIndex e p contamination us v = v := if_neg h

theorem runIndex_first {r : Run} (us : Nat) (h : r.lastIndex = none) :
    runIndex us r = { r with measured := 0, lastIndex := some us, sinceIndex := 0 } := by rw [runIndex, h]

/-- A period that is not 0 gives a speed of its own; that of 0 µs is free (assumption 9). -/
theorem runIndex_period {r : Run} {us t : Nat} (h : r.lastIndex = some t) (hlt : t < us) :
    runIndex us r = { r with measured := min (60000000 / (us - t)) 65535, lastIndex := some us, sinceIndex := 0 } := by
  have hspeed : speedOf (us - t) = min (60000000 / (us - t)) 65535 := if_neg (by omega)
  rw [runIndex, h, ← hspeed]

/-- The pulse at RUN, whatever RUN makes of it; VIB moves in SAMPLING alone. -/
theorem exec_indexPulse {s : State} {us : Nat} {r : Run} (hb : s.boot ≠ .held) (hr : runIndex us s.run = r) : ∃ vib,
    exec (.indexPulse us) s = .next (leaveIdle { s with run := r, vib := vib }) ∧ (s.vib.state ≠ .sampling → vib = s.vib) := by
  subst hr
  refine ⟨vibIndex (pulsesPerRev s) (progOf s) s.lsn.contamination us s.vib, ?_, vibIndex_idle⟩
  unfold exec execIndexPulse
  exact whenReleased_running hb

theorem exec_indexTimeout {s : State} (hb : s.boot ≠ .held) : exec .indexTimeout s = .next (leaveIdle { s with
    run := { s.run with measured := 0, lastIndex := none } }) := by
  unfold exec execIndexTimeout
  exact whenReleased_running hb

/-- Settles O38: RUN's part of the pulse by whether a pulse stands before it. -/
theorem indexPulseGivesTheMeasuredSpeed : Obligations.IndexPulseGivesTheMeasuredSpeed := fun _ hb =>
  ⟨fun _ _ hlast hlt => exec_indexPulse hb (runIndex_period hlast hlt),
    fun us hnone => exec_indexPulse hb (runIndex_first us hnone), exec_indexTimeout hb⟩

/-! ## The oil history (R57) -/

/-- DEV takes an event, and nothing else moves. -/
theorem takeDev_eq (e : DevEvent) (s : State) : takeDev e s = { s with dev := (takeDev e s).dev } := by
  unfold takeDev
  split <;> rfl

/-- OIL_RISE_RATE never stops the run-in (R59). -/
theorem runDeviation_oilRise (measured limit : Nat) (s : State) : runDeviation .oilRiseRate measured limit s
    = { s with dev := (takeDev ⟨.oilRiseRate, s.run.seg, measured, limit⟩ s).dev } := by
  have hnone : stopReason s .oilRiseRate = none := by
    unfold stopReason
    split <;> rfl
  rw [runDeviation, hnone]
  exact takeDev_eq _ s

theorem oilRise_short {h : List Nat} (hlen : h.length ≠ 11) : oilRise h = none := if_neg hlen

/-- The rise over a full ring of 11. -/
theorem oilRise_full {oldest code : Nat} {rest : List Nat} (hlen : rest.length = 9) :
    oilRise (oldest :: rest ++ [code]) = some ((code : Int) - oldest) := by
  have hlast : (oldest :: rest ++ [code]).getD 10 0 = code := by
    rw [List.getD_append_right _ _ _ _ (by simp [hlen])]
    simp [hlen]
  rw [oilRise, if_pos (by simp [hlen]), hlast]
  rfl

/-- A ring that is not full loses nothing. -/
theorem pushOil_growing {h : List Nat} (code : Nat) (hlen : h.length < 11) : pushOil h code = h ++ [code] := if_pos hlen

/-- A full ring loses its oldest entry. -/
theorem pushOil_full {oldest : Nat} {rest : List Nat} (code : Nat) (hlen : rest.length = 10) :
    pushOil (oldest :: rest) code = rest ++ [code] := if_neg (by simp [hlen])

/-- RUN with a code entered in its history. -/
def oilEntered (hist : List Nat) (s : State) : State := { s with run := { s.run with oilHistory := hist } }

/-- The rise marked as raised in the cycle. -/
def riseMarked (s : State) : State := withRun (fun r => { r with oilRiseMark := true }) s

/-- RUN with its rise raised, and DEV told (R57). -/
def oilRaised (hist : List Nat) (rise : Nat) (s : State) : State := { s with
  run := { s.run with oilHistory := hist, oilRiseMark := true }
  dev := (takeDev ⟨.oilRiseRate, s.run.seg, rise, (progOf s).oilRiseLimit⟩ s).dev }

section
variable {s : State} {hist : List Nat}

theorem judgeOilRise_short (hlen : hist.length ≠ 11) : judgeOilRise (oilEntered hist s) = oilEntered hist s := by
  rw [judgeOilRise, show oilRise (oilEntered hist s).run.oilHistory = none from oilRise_short hlen]

/-- A ring of 11 is judged once: nothing follows a rise within the limit, or a second one in the cycle. -/
theorem judgeOilRise_within {oldest code : Nat} (hrise : oilRise hist = some ((code : Int) - oldest))
    (h : code ≤ oldest + (progOf s).oilRiseLimit ∨ s.run.oilRiseMark = true) :
    judgeOilRise (oilEntered hist s) = oilEntered hist s := by
  have hquiet : ¬ (((progOf s).oilRiseLimit : Int) < (code : Int) - oldest ∧ s.run.oilRiseMark = false) := by
    rintro ⟨hlt, hmark⟩
    rcases h with h | h
    · omega
    · simp [hmark] at h
  rw [judgeOilRise, show oilRise (oilEntered hist s).run.oilHistory = _ from hrise]
  exact if_neg hquiet

theorem judgeOilRise_above {oldest code : Nat} (hrise : oilRise hist = some ((code : Int) - oldest))
    (h : oldest + (progOf s).oilRiseLimit < code) (hmark : s.run.oilRiseMark = false) :
    judgeOilRise (oilEntered hist s) = oilRaised hist (code - oldest) s := by
  have hloud : ((progOf s).oilRiseLimit : Int) < (code : Int) - oldest ∧ s.run.oilRiseMark = false := ⟨by omega, hmark⟩
  have hnat : ((code : Int) - oldest).toNat = code - oldest := by omega
  have hraised : judgeOilRise (oilEntered hist s) = runDeviation .oilRiseRate ((code : Int) - oldest).toNat
      (progOf s).oilRiseLimit (riseMarked (oilEntered hist s)) := by
    rw [judgeOilRise, show oilRise (oilEntered hist s).run.oilHistory = _ from hrise]
    exact if_pos hloud
  rw [hraised, hnat, runDeviation_oilRise, oilRaised,
    ← takeDev_congr (s := s) (t := riseMarked (oilEntered hist s)) _ rfl rfl rfl]
  rfl

end

section
variable {s : State} {code : Nat} (hb : s.boot ≠ .held)
include hb

theorem exec_oilHistoryAppend : exec .oilHistoryAppend s
    = .next (leaveIdle (if inRunIn s.run.state then appendOil s else s)) := whenReleased_running hb

/-- In a run-in with a sample the code joins the history, and the rise is judged. -/
theorem exec_oilHistoryAppend_sampled (hin : inRunIn s.run.state = true) (hcode : s.run.oilCode = some code) :
    exec .oilHistoryAppend s = .next (leaveIdle (judgeOilRise (oilEntered (pushOil s.run.oilHistory code) s))) := by
  rw [exec_oilHistoryAppend hb, if_pos hin, appendOil, hcode]
  rfl

end

/-- Settles O40: by the length of the history, which says what the append drops and whether a rise is judged. -/
theorem oilHistoryTakesTheLatestCode : Obligations.OilHistoryTakesTheLatestCode := by
  intro s hb
  refine ⟨fun hin => ?_, fun hnone => ?_, fun code hin hcode => ?_⟩
  · rw [exec_oilHistoryAppend hb, if_neg (by simp [hin])]
  · have hstill : appendOil s = s := by rw [appendOil, hnone]
    rw [exec_oilHistoryAppend hb, hstill, ite_self]
  · rw [exec_oilHistoryAppend_sampled hb hin hcode]
    refine ⟨fun hlen => ?_, fun oldest rest hh hlen => ?_, fun oldest rest hh hlen => ?_⟩
    · rw [pushOil_growing code (by omega), judgeOilRise_short (by simp; omega)]
      rfl
    · have hrise := oilRise_full (oldest := oldest) (code := code) hlen
      rw [hh, pushOil_growing code (by simp [hlen])]
      exact ⟨fun h => by rw [judgeOilRise_within hrise h]; rfl, fun h hm => by rw [judgeOilRise_above hrise h hm]; rfl⟩
    · obtain ⟨next, later, rfl⟩ := List.exists_cons_of_length_eq_add_one hlen
      have hrise := oilRise_full (oldest := next) (rest := later) (code := code) (by simpa using hlen)
      rw [hh, pushOil_full code hlen]
      exact ⟨fun h => by rw [judgeOilRise_within hrise h]; rfl, fun h hm => by rw [judgeOilRise_above hrise h hm]; rfl⟩

end Sys2Proof.Machine
end

section
/-! SUPPORT. What a step can do to the commanded speed, the hold set, what they post, and the configuration they are bound by:
the jobs besides RUN, CYC and STORE leave them, and a cycle ends with RUN in COMPLETE alone (O56). -/
namespace Sys2Proof.Machine

/-! ## What the laws of RUN speak of -/

/-- The part of the state that the laws of the commanded speed, of the hold set and of the configuration speak of, but for
the station state. -/
structure RunView where
  state : RunState
  seg : Nat
  cmd : Nat
  holds : Holds
  acoustic : Acoustic
  demand : Nat
  yielding : Bool
  station : StationSection
  programmes : List Programme
  programme : Nat

/-- RUN's part of a state. -/
def runView (s : State) : RunView where
  state := s.run.state
  seg := s.run.seg
  cmd := s.run.cmd
  holds := s.run.holds
  acoustic := s.peer.posting.acoustic
  demand := s.peer.posting.demand
  yielding := s.peer.posting.yielding
  station := s.cfg.station
  programmes := s.cfg.programmes
  programme := s.cyc.programme

/-- From one state to the next RUN's part is as it was, and a cycle has ended with RUN in COMPLETE alone (R10, R17). -/
structure RunKept (s t : State) : Prop where
  view : runView t = runView s
  cycle : inCycle t.cyc.station = false → inCycle s.cyc.station = false ∨ s.run.state = .complete

namespace RunKept

theorem refl (s : State) : RunKept s s := ⟨rfl, .inl⟩

theorem of_view {s t : State} (h : runView t = runView s) (hst : t.cyc.station = s.cyc.station) : RunKept s t :=
  ⟨h, fun ht => .inl (hst ▸ ht)⟩

theorem state {s t : State} (h : RunKept s t) : t.run.state = s.run.state := congrArg RunView.state h.view

theorem cmd {s t : State} (h : RunKept s t) : t.run.cmd = s.run.cmd := congrArg RunView.cmd h.view

theorem trans {s t u : State} (h : RunKept s t) (h' : RunKept t u) : RunKept s u := by
  refine ⟨h'.view.trans h.view, fun hu => ?_⟩
  rcases h'.cycle hu with ht | ht
  · exact h.cycle ht
  · exact .inr (h.state.symm.trans ht)

/-! ### STORE and CYC -/

theorem withStore (st : Store) (boot : Boot) (s : State) : RunKept s { s with store := st, boot := boot } := of_view rfl rfl

theorem enterFaulted (cause : FaultCause) (s : State) : RunKept s (enterFaulted cause s) :=
  of_view (by simp [runView]) (by simp)

theorem commitEnded (s : State) : RunKept s (commitEnded s) := by
  rcases commitEnded_cases s with ⟨-, h⟩ | ⟨hc, h⟩ <;> rw [h]
  · exact refl s
  · exact ⟨by simp [runView], fun _ => .inl (by rw [hc]; rfl)⟩

theorem failRequest (req : Request) (s : State) : RunKept s (failRequest req s) := by
  rcases failRequest_cases req s with ⟨-, h⟩ | ⟨-, h⟩ <;> rw [h]
  · exact refl s
  · exact commitEnded s

section
variable {s : State} (hst : inCycle s.cyc.station = false)
include hst

/-- The start-up ends outside a cycle. -/
theorem startUpEnd : RunKept s (startUpEnd s) := ⟨by simp [runView], fun _ => .inl hst⟩

theorem scanEnd : RunKept s (scanEnd s) := by
  unfold Machine.scanEnd
  split
  · exact (enterFaulted _ s).trans (startUpEnd (by simpa using hst))
  · exact (withStore _ s.boot s).trans (startUpEnd hst)

end

/-- A swap that is no recovery's begins in any station state. -/
theorem beginSwap (recovery : Bool) (req : Request) {s : State} (hst : recovery = true → inCycle s.cyc.station = false) :
    RunKept s (beginSwap recovery req s) := by
  unfold Machine.beginSwap
  split
  · split
    next hr => exact (enterFaulted .worn s).trans (startUpEnd (by simpa using hst hr))
    · exact (enterFaulted .worn s).trans (failRequest _ _)
  · exact withStore _ s.boot s

theorem commitRequest (req : Request) (s : State) : RunKept s (commitRequest req s) := by
  unfold Machine.commitRequest
  split
  · exact refl s
  · split
    · exact withStore _ s.boot s
    · exact beginSwap false req nofun
  · exact withStore _ s.boot s
  · exact failRequest req s

theorem failPending (s : State) : RunKept s (failPending s) := by
  unfold Machine.failPending
  split
  · exact (withStore _ s.boot s).trans (failRequest _ _)
  · exact refl s

theorem nextSwap (s : State) : RunKept s (nextSwap s) := by
  unfold Machine.nextSwap
  split
  · split
    · exact withStore _ s.boot s
    · exact (withStore _ s.boot s).trans (beginSwap false _ nofun)
  · exact withStore _ s.boot s

theorem requestDone (req : Request) (s : State) : RunKept s (requestDone req s) := by
  unfold Machine.requestDone
  split
  · split
    · exact ((commitEnded s).trans (enterFaulted .spent _)).trans (failPending _)
    · exact (commitEnded s).trans (nextSwap _)
  · exact nextSwap s

section
variable {w : Swap} {s : State} (hst : w.recovery = true → inCycle s.cyc.station = false)
include hst

theorem endSwap : RunKept s (endSwap w s) := by
  unfold Machine.endSwap
  dsimp only
  split
  next hr => exact (withStore _ s.boot s).trans (scanEnd (hst hr))
  · exact (withStore _ s.boot s).trans (requestDone _ _)

theorem verifyFailure : RunKept s (verifyFailure w s) := by
  have hcut : RunKept s { cutSwap w s with store := { (cutSwap w s).store with pending := none } } := of_view rfl rfl
  have hfault := hcut.trans (enterFaulted .verify _)
  unfold Machine.verifyFailure
  dsimp only
  split
  next hr => exact hfault.trans (startUpEnd (by simpa using hst hr))
  · split
    · exact hfault.trans (commitEnded _)
    · exact hfault

end

theorem swapStep (w : Swap) (s : State) : RunKept s (swapStep w s) := withStore _ s.boot s

theorem scanDone {s : State} (hst : inCycle s.cyc.station = false) : RunKept s (scanDone s) := by
  unfold Machine.scanDone
  dsimp only
  split
  · exact (withStore _ s.boot s).trans (scanEnd hst)
  · split
    · exact withStore _ _ s
    · exact (withStore _ .recover s).trans (beginSwap true _ fun _ => hst)

theorem setWarning (on : Bool) (s : State) : RunKept s (setWarning on s) := of_view rfl rfl

/-- A recovery held back begins in STARTING. -/
theorem heldSwap {s : State} (hs : bootLaw s) : RunKept s (heldSwap s) := by
  unfold Machine.heldSwap
  split
  · exact (withStore _ s.boot s).trans (beginSwap false _ nofun)
  next q _ hq =>
    obtain ⟨hb, -⟩ := hs.2.2.2.1 (by simp [hq])
    refine (withStore _ s.boot s).trans (beginSwap true _ fun _ => ?_)
    rw [show s.cyc.station = .starting from (store_of_recover hs hb).1]
    rfl
  · exact refl s

theorem handOver (kind : CommitKind) (s : State) : RunKept s (handOver kind s) := by
  unfold Machine.handOver
  split
  · exact commitRequest _ s
  · exact refl s

theorem writeRecord (f : OpenRecord → OpenRecord) (s : State) : RunKept s (writeRecord f s) := of_view rfl rfl

theorem checkpoint (s : State) : RunKept s (checkpoint s) := by
  unfold Machine.checkpoint
  split
  · exact (writeRecord _ s).trans (handOver _ _)
  · exact refl s

theorem complete_of_jobsAtRest {s : State} (h : jobsAtRest s = true) : s.run.state = .complete := by
  simp only [jobsAtRest, Bool.and_eq_true, beq_iff_eq] at h
  obtain ⟨⟨⟨hrun, -⟩, -⟩, -⟩ := h
  exact hrun

/-- A cycle closes with every job at rest, RUN in COMPLETE among them. -/
theorem closeCycle {s : State} (h : jobsAtRest s = true) : RunKept s (closeCycle s) := by
  refine ⟨?_, fun _ => .inr (complete_of_jobsAtRest h)⟩
  unfold Machine.closeCycle
  exact (handOver .final _).view.trans (by simp [runView])

theorem jobEnded (s : State) : RunKept s (jobEnded s) := by
  unfold Machine.jobEnded
  split
  · split
    next h => exact closeCycle h
    · exact checkpoint s
  · exact refl s

theorem closeIfAtRest (s : State) : RunKept s (closeIfAtRest s) := by
  unfold Machine.closeIfAtRest
  split
  next h => exact closeCycle h.2
  · exact refl s

theorem writeCircuit (c : CircuitId) (s : State) : RunKept s (writeCircuit c s) := of_view (by simp [runView]) (by simp)

theorem withCircuit (c : CircuitId) (f : Circuit → Circuit) (s : State) : RunKept s (withCircuit c f s) :=
  of_view (by simp [runView]) (by simp)

theorem ventExpired (c : CircuitId) (s : State) : RunKept s (ventExpired c s) := by
  unfold Machine.ventExpired
  split
  · exact ((withCircuit c enterDone s).trans (writeCircuit c _)).trans (jobEnded _)
  · exact refl s

theorem abandonSweep (s : State) : RunKept s (abandonSweep s) := of_view (by simp [runView]) (by simp)

theorem takeDev (e : DevEvent) (s : State) : RunKept s (takeDev e s) := of_view (by simp [runView]) (by simp)

/-- What an abort cause does once RUN has been stopped: LEAK's abort, ABORTING, and the close (R13). -/
theorem aborted (s : State) : RunKept s (Machine.closeIfAtRest (setStation .aborting (abortLeak (Machine.abandonSweep s)))) := by
  have habort (u : State) : RunKept u (setStation .aborting (abortLeak u)) := ⟨by simp [runView], nofun⟩
  exact ((abandonSweep s).trans (habort _)).trans (closeIfAtRest _)

theorem leaveDone (s : State) : RunKept s (leaveDone s) := by
  unfold Machine.leaveDone
  split
  next h => exact ⟨by simp [runView], fun _ => .inl (by rw [h]; rfl)⟩
  · exact refl s

/-! ### LSN, LEAK, PEER and the line -/

theorem queueReply (r : Reply) (s : State) : RunKept s (queueReply r s) := of_view rfl rfl

theorem withLif (f : Lif → Lif) (s : State) : RunKept s (withLif f s) := of_view rfl rfl

theorem seeInputs (s : State) : RunKept s (seeInputs s) := of_view rfl rfl

theorem leaveIdle (s : State) : RunKept s (leaveIdle s) := of_view (by simp [runView]) (by simp)

theorem leakExpiry (s : State) : RunKept s (leakExpiry s) :=
  of_view (by simp [Machine.leakExpiry, runView]) (by simp [Machine.leakExpiry])

theorem agePeers (s : State) : RunKept s (agePeers s) := of_view (by simp [runView]) (by simp)

theorem periodTaken (s : State) : RunKept s (clearDuplicate (periodDue s)) := of_view (by simp [runView]) (by simp)

theorem takeFullPosting (own : Bool) (source : Nat) (payload : List Byte) (s : State) :
    RunKept s (takeFullPosting own source payload s) := of_view (by simp [runView]) (by simp)

theorem takeRepeatPosting (own : Bool) (station : Nat) (s : State) : RunKept s (takeRepeatPosting own station s) :=
  of_view (by simp [runView]) (by simp)

theorem ownPhases (body : List Byte) (s : State) : RunKept s (ownPhases body s) := of_view (by simp [runView]) (by simp)

theorem ownRead (order : Byte) (r : StoreRead) (s : State) : RunKept s (ownRead order r s) :=
  of_view (by simp [runView]) (by simp)

theorem tellLeak (s : State) : RunKept s (tellLeak s) := of_view (by simp [runView, tellLeak_told]) (by simp)

theorem lsnBegin (s : State) : RunKept s (lsnBegin s) := of_view (by simp [runView]) (by simp)

theorem lsnSweepEnded (s : State) : RunKept s (lsnSweepEnded s) := of_view (by simp [runView]) (by simp)

theorem noiseHanded (s : State) : RunKept s (noiseHanded s) := by
  obtain ⟨v, d, -, h⟩ := noiseHanded_eq s
  rw [h]
  exact of_view rfl rfl

theorem armAtComplete (s : State) : RunKept s (armAtComplete s) := by
  refine of_view ?_ (by simp)
  rw [runView, armAtComplete_run]
  simp [runView]

theorem beginStarting (s : State) : RunKept s (beginStarting s) := by
  unfold Machine.beginStarting
  dsimp only
  split <;> exact of_view rfl rfl

end RunKept

end Sys2Proof.Machine
end

section
/-! SUPPORT. Every step as a sequence of the moves of RUN listed here (O56). -/
namespace Sys2Proof.Machine

/-! ## The moves -/

/-- RUN at its reset values and what it posts with them, over a configuration that is kept or a FAILED load's (R63, R195). -/
structure runCleared (s t : State) : Prop where
  run : t.run = runReset
  posted : t.peer.posting.acoustic = .quiet ∧ t.peer.posting.demand = 0 ∧ t.peer.posting.yielding = false
  config : t.cfg.station = s.cfg.station ∧ t.cfg.programmes = s.cfg.programmes
    ∨ t.cfg.station = stationDefault ∧ t.cfg.programmes = List.replicate 8 programmeZero

/-- One move of the commanded speed, the hold set or the configuration. -/
inductive RunMove : State → State → Prop
  /-- RUN's part stays as it is. -/
  | kept {s t : State} (h : RunKept s t) : RunMove s t
  /-- LSN reports LISTENING (R67). -/
  | heard (s : State) (k : SegKind) : RunMove s (withRun (runListening k) s)
  /-- RUN enters STOPPING (R59, R60). -/
  | stopped (s : State) (why : EndReason) : RunMove s (toStopping why s)
  /-- The commanded speed is 0 at once (R58, R60). -/
  | halted (s : State) (hin : inRunIn s.run.state = true) : RunMove s (setSpeed 0 s)
  /-- A ramp step (R45). -/
  | stepped (s : State) : RunMove s (rampStep s)
  /-- A START accepted for a programme that is defined (R3, R4). -/
  | started (s : State) (programme : Nat) (serial stamp : List Byte) (hst : s.cyc.station = .idle ∨ s.cyc.station = .done)
      (hd : (s.cfg.programmes.getD programme programmeZero).definedFlag = true) : RunMove s (startCycle programme serial stamp s)
  /-- A reset (R63, R188, R196). -/
  | cleared {s t : State} (h : runCleared s t) : RunMove s t
  /-- The image is read, in STARTING (R193). -/
  | image (s : State) (bytes : List Byte) (hst : s.cyc.station = .starting) : RunMove s (imageRead bytes s)

/-- A sequence of moves. -/
abbrev RunMoves : State → State → Prop := Relation.ReflTransGen RunMove

namespace RunMoves

theorem refl (s : State) : RunMoves s s := Relation.ReflTransGen.refl

theorem trans {s t u : State} (h : RunMoves s t) (h' : RunMoves t u) : RunMoves s u := Relation.ReflTransGen.trans h h'

theorem move {s t : State} (h : RunMove s t) : RunMoves s t := Relation.ReflTransGen.single h

theorem kept {s t : State} (h : RunKept s t) : RunMoves s t := move (.kept h)

theorem of_view {s t : State} (h : runView t = runView s) (hst : t.cyc.station = s.cyc.station) : RunMoves s t :=
  kept (.of_view h hst)

/-! ## RUN's stops as moves -/

theorem changeReason (why : EndReason) (s : State) : RunMoves s (changeReason why s) := by
  unfold Machine.changeReason
  split
  · exact of_view rfl rfl
  · exact refl s

theorem stopForAbort (s : State) : RunMoves s (stopForAbort s) := (changeReason .abort s).trans (move (.stopped _ _))

theorem stopAtOnce (s : State) : RunMoves s (stopAtOnce s) := by
  unfold Machine.stopAtOnce
  split
  next hin =>
    have hstop : inRunIn (toStopping .standStop (Machine.changeReason .standStop s)).run.state = true := by
      rw [(stopRequest_run .standStop s).1 hin]
      rfl
    exact ((changeReason .standStop s).trans (move (.stopped _ _))).trans (move (.halted _ hstop))
  · exact refl s

theorem runDeviation (c : DevClass) (measured limit : Nat) (s : State) : RunMoves s (runDeviation c measured limit s) := by
  have htold := kept (.takeDev ⟨c, s.run.seg, measured, limit⟩ s)
  unfold Machine.runDeviation
  dsimp only
  split
  · exact htold.trans (move (.stopped _ _))
  · exact htold

theorem driveLost (s : State) : RunMoves s (driveLost s) := by
  cases hin : inSegment s.run.state with
  | false => rw [driveLost_other hin]
  | true =>
    have hrun : inRunIn (driveLossTold s).run.state = true := by
      rw [driveLossTold_run]
      show inRunIn s.run.state = true
      cases hst : s.run.state <;> simp_all [inSegment, inRunIn]
    have htold : RunMoves s (driveLossTold s) :=
      trans (t := withRun (fun r => { r with driveLost := true }) s) (of_view rfl rfl) (kept (.takeDev _ _))
    rw [driveLost_segment hin]
    split
    · exact htold
    · exact (htold.trans (move (.halted _ hrun))).trans (move (.stopped _ _))

theorem takeTorq (code : Nat) (s : State) : RunMoves s (takeTorq code s) := by
  rw [takeTorq_eq]
  split
  · refine trans (t := withRun _ s) ?_ (runDeviation _ _ _ _)
    exact of_view rfl rfl
  · exact of_view rfl rfl

theorem takeOilt (code : Nat) (s : State) : RunMoves s (takeOilt code s) := by
  rw [takeOilt_eq]
  split
  · refine trans (t := withRun _ s) ?_ (runDeviation _ _ _ _)
    exact of_view rfl rfl
  · exact of_view rfl rfl

theorem judgeOilRise (s : State) : RunMoves s (judgeOilRise s) := by
  unfold Machine.judgeOilRise
  split
  · split
    · exact trans (t := riseMarked s) (of_view rfl rfl) (runDeviation _ _ _ _)
    · exact refl s
  · exact refl s

theorem appendOil (s : State) : RunMoves s (appendOil s) := by
  unfold Machine.appendOil
  split
  next code _ => exact trans (t := oilEntered (pushOil s.run.oilHistory code) s) (of_view rfl rfl) (judgeOilRise _)
  · exact refl s

theorem slowDone (code : Nat) (s : State) : RunMoves s (slowDone code s) := by
  cases hf : s.sca.inFlight with
  | none => rw [slowDone_idle _ hf]
  | some ch =>
    rw [slowDone_eq _ hf]
    refine trans (t := slowWritten ch code s) (of_view rfl rfl) ?_
    cases ch with
    | torq => exact takeTorq _ _
    | oilt => exact takeOilt _ _
    | prs1 | airt1 | prs2 | airt2 => exact of_view (by simp [deliverSample, runView]) (by simp [deliverSample])

/-! ## LSN's reports as moves -/

theorem enterListening (s : State) : RunMoves s (enterListening s) :=
  trans (t := postListen .listen (withLsn (fun l => { l with state := .listening }) s)) (of_view rfl rfl)
    (trans (move (.heard _ _)) (of_view rfl rfl))

theorem lsnExpiry (s : State) : RunMoves s (lsnExpiry s) := by
  rcases lsnExpiry_run s with h | ⟨-, -, h⟩
  · exact of_view (by simp [runView, h]) (by simp)
  · exact trans (move (.heard s (segKind s))) (of_view (by simp [runView, h]) (by simp))

theorem forceListening (s : State) : RunMoves s (forceListening s) := by
  unfold Machine.forceListening
  split
  · exact trans (t := withLsn _ s) (of_view rfl rfl) (enterListening _)
  · exact refl s

theorem periodExpiry (a b : Bool) (s : State) : RunMoves s (periodExpiry a b s) := by
  have hdue := kept (.periodTaken s)
  unfold Machine.periodExpiry expiryReaders
  split
  · exact ((hdue.trans (kept (.agePeers _))).trans (lsnExpiry _)).trans (kept (.leakExpiry _))
  · exact ((hdue.trans (kept (.leakExpiry _))).trans (kept (.agePeers _))).trans (lsnExpiry _)
  · exact ((hdue.trans (lsnExpiry _)).trans (kept (.agePeers _))).trans (kept (.leakExpiry _))
  · exact ((hdue.trans (lsnExpiry _)).trans (kept (.leakExpiry _))).trans (kept (.agePeers _))

/-! ## CYC's aborts as moves -/

theorem abortCycle (e : DevEvent) {stop : State → State} (s : State) (hstop : ∀ u, RunMoves u (stop u)) :
    RunMoves s (abortCycle e stop s) := ((kept (.takeDev e s)).trans (hstop _)).trans (kept (.aborted _))

theorem standAbort (input : Nat) (s : State) : RunMoves s (standAbort input s) := by
  unfold Machine.standAbort
  split
  · exact abortCycle _ s stopAtOnce
  · exact (kept (.takeDev _ s)).trans (stopAtOnce _)
  · exact refl s

theorem abortTaken (broadcast : Bool) (s : State) : RunMoves s (abortTaken broadcast s) := by
  unfold Machine.abortTaken
  split
  · exact abortCycle _ s stopForAbort
  · exact refl s

theorem axleFall (which : AxleInput) (s : State) : RunMoves s (axleFall which s) := by
  unfold Machine.axleFall
  split
  · split
    · exact kept (.leaveDone s)
    · exact standAbort _ s
  · exact standAbort _ s

/-! ## Resets as moves -/

theorem takeRestart (s : State) : RunMoves s (takeRestart s) := by
  have hblocks : runCleared s (resetBlocks .restart s.sca.active true s) := by
    refine ⟨rfl, ⟨rfl, rfl, rfl⟩, .inl ?_⟩
    simp [resetBlocks]
  exact (move (.cleared hblocks)).trans (kept ((RunKept.beginStarting _).trans (.withStore _ .scan _)))

theorem holdReset (k : HardReset) (s : State) : RunMoves s (holdReset k s) := by
  unfold Machine.holdReset
  split
  · exact refl s
  · exact move (.cleared ⟨rfl, ⟨rfl, rfl, rfl⟩, .inr ⟨rfl, rfl⟩⟩)

theorem releaseReset (straps : BitVec 4) (low : Bool) (s : State) : RunMoves s (releaseReset straps low s) := by
  have hpins : RunKept s { s with pins := { s.pins with straps := straps, supplyLow := low } } := .of_view rfl rfl
  exact kept ((hpins.trans (.beginStarting _)).trans (.withStore _ .readImage _))

/-! ## Orders as moves -/

theorem ownAbort (broadcast : Bool) (s : State) : RunMoves s (ownAbort broadcast s) := by
  unfold Machine.ownAbort
  split
  · exact abortTaken true s
  · split
    · exact kept (.queueReply _ s)
    · exact (abortTaken false s).trans (kept (.queueReply _ _))

/-- A START that finds no reason to be refused names a programme that is defined (R3). -/
theorem defined_of_startRefusal_none {programme : Nat} {s : State} (h : startRefusal programme s = none) :
    (s.cfg.programmes.getD programme programmeZero).definedFlag = true := by
  by_contra hd
  have hno : (s.cfg.programmes.getD programme programmeZero).definedFlag = false := by simpa using hd
  have hst := station_of_startRefusal_none h
  unfold startRefusal at h
  rw [if_pos hno] at h
  rcases hst with hst | hst <;> simp [hst] at h

theorem ownStart (body : List Byte) (s : State) : RunMoves s (ownStart body s) := by
  unfold Machine.ownStart
  split
  · exact kept (.queueReply _ s)
  next h =>
    exact (move (.started s _ _ _ (station_of_startRefusal_none h) (defined_of_startRefusal_none h))).trans
      (kept (.queueReply _ _))

theorem ownRestart (broadcast : Bool) (s : State) : RunMoves s (ownRestart broadcast s) := by
  unfold Machine.ownRestart
  split
  · split
    · exact refl s
    · exact kept (.queueReply _ s)
  · split
    · exact takeRestart s
    · exact kept ((RunKept.queueReply _ s).trans (.withLif _ _))

theorem ownOrder (broadcast : Bool) (order : Byte) (body : List Byte) (s : State) :
    RunMoves s (ownOrder broadcast order body s) := by
  unfold Machine.ownOrder
  split
  · exact ownAbort _ s
  split
  · exact kept (.ownRead _ _ s)
  split
  · exact kept (.queueReply _ s)
  split
  · exact kept (.ownPhases _ s)
  split
  · exact kept (.ownRead _ _ s)
  split
  · exact kept (.ownRead _ _ s)
  split
  · exact ownRestart _ s
  · exact ownStart _ s

theorem judgeOrder (broadcast : Bool) (order : Byte) (body : List Byte) (s : State) :
    RunMoves s (judgeOrder broadcast order body s) := by
  unfold Machine.judgeOrder
  split
  · exact kept (.withLif _ s)
  split
  · exact kept (.queueReply _ s)
  split
  · exact kept (.queueReply _ s)
  split
  · split
    · exact refl s
    · exact kept (.queueReply _ s)
  · exact ownOrder _ _ _ s

theorem takeOrder (dest : Byte) (payload : List Byte) (s : State) : RunMoves s (takeOrder dest payload s) := by
  unfold Machine.takeOrder
  split
  · split
    · exact kept (.withLif _ s)
    · exact kept (.queueReply _ s)
  · exact judgeOrder _ _ _ s

theorem drain (n : Nat) (s : State) : RunMoves s (drain n s) := by
  induction n generalizing s with
  | zero => exact refl s
  | succ n ih =>
    have hpop : RunMoves s (popBuffer s) := kept (.withLif _ s)
    unfold Machine.drain
    split
    · exact refl s
    · exact (hpop.trans (kept (.takeRepeatPosting _ _ _))).trans (ih _)
    · split
      · split
        · exact (hpop.trans (takeOrder _ _ _)).trans (ih _)
        · exact refl s
      · exact (hpop.trans (kept (.takeFullPosting _ _ _ _))).trans (ih _)

theorem receive (f : Frame) (own : Bool) (s : State) : RunMoves s (receive f own s) := by
  unfold Machine.receive
  split
  · split
    · exact kept (.withLif _ s)
    · exact (kept (.withLif _ s)).trans (drain _ _)
  · exact refl s

theorem serveRead (s : State) : RunMoves s (serveRead s) := by
  cases hd : s.lif.decoder with
  | free => unfold Machine.serveRead; rw [hd]
  | restarting => unfold Machine.serveRead; rw [hd]
  | reading r =>
    obtain ⟨answer, h⟩ := serveRead_reading hd
    have hserved := kept ((RunKept.queueReply answer s).trans (.withLif (fun l => { l with decoder := .free }) _))
    rw [h, readServed]
    split
    · exact hserved
    · exact (hserved.trans (kept (.seeInputs _))).trans (drain _ _)

theorem frameEnded (s : State) : RunMoves s (frameEnded s) := by
  unfold Machine.frameEnded
  split
  · split
    · split
      · exact (kept ((RunKept.withLif _ s).trans (.seeInputs _))).trans (receive _ _ _)
      · exact of_view rfl rfl
    · exact of_view rfl rfl
  · exact refl s

theorem won (s : State) : RunMoves s (won s) := by
  unfold Machine.won
  (repeat' split) <;> exact of_view rfl rfl

theorem chooseAgain (s : State) : RunMoves s (chooseAgain s) := by
  unfold Machine.chooseAgain
  split <;> exact of_view rfl rfl

theorem sent (s : State) : RunMoves s (sent s) := by
  unfold Machine.sent
  split
  · split
    · unfold replySent
      split
      · split
        · exact (kept (.seeInputs s)).trans (takeRestart _)
        · exact (kept (.withLif _ s)).trans (chooseAgain _)
      · exact chooseAgain s
    · exact trans (t := withPeer _ s) (of_view rfl rfl) (chooseAgain _)
    · exact trans (t := withPeer _ s) (of_view rfl rfl) (chooseAgain _)
    · exact chooseAgain s
  · exact refl s

/-! ## Every command as moves -/

/-- A command that a running station takes; one held in reset sees the input levels alone. The law of the start-up does not
speak of the levels. -/
theorem ofReleased {f : State → State} {s t : State} {p : Pins} (hs : bootLaw s)
    (h : whenReleased f { s with pins := p } = .next t) (hf : ∀ u, bootLaw u → RunMoves u (f u)) : RunMoves s t := by
  have hp : RunMoves s { s with pins := p } := of_view rfl rfl
  rcases whenReleased_cases f { s with pins := p } with ⟨-, he⟩ | ⟨-, he⟩
  · obtain rfl := Host.Outcome.next.inj (he.symm.trans h)
    exact hp
  · obtain rfl := Host.Outcome.next.inj (he.symm.trans h)
    exact (hp.trans (hf _ hs)).trans (kept (.leaveIdle _))

/-- A recovery's swap is in flight in STARTING alone. -/
theorem notInCycle_of_recovery {s : State} {w : Swap} (hs : bootLaw s) (hw : s.store.swap = some w) (hr : w.recovery = true) :
    inCycle s.cyc.station = false := by
  rw [(store_of_recover hs (recover_of_swap hs hw hr).1).1]
  rfl

theorem exec {c : Instr} {s t : State} (hs : bootLaw s) (h : exec c s = .next t) : RunMoves s t := by
  cases c with
  | abort dest body => exact ofReleased (p := s.pins) hs h fun u _ => receive _ _ u
  | find dest body => exact ofReleased (p := s.pins) hs h fun u _ => receive _ _ u
  | item dest body => exact ofReleased (p := s.pins) hs h fun u _ => receive _ _ u
  | phases dest body => exact ofReleased (p := s.pins) hs h fun u _ => receive _ _ u
  | rdnew dest body => exact ofReleased (p := s.pins) hs h fun u _ => receive _ _ u
  | rdseq dest body => exact ofReleased (p := s.pins) hs h fun u _ => receive _ _ u
  | restart straps dest body => exact ofReleased hs h fun u _ => receive _ _ u
  | start lines dest body => exact ofReleased hs h fun u _ => receive _ _ u
  | storeReadServed => exact ofReleased (p := s.pins) hs h fun u _ => serveRead u
  | fullPostingReceived event own source payload => exact ofReleased (p := s.pins) hs h fun u _ => receive _ _ u
  | repeatPostingReceived own station => exact ofReleased (p := s.pins) hs h fun u _ => receive _ _ u
  | frameEnd => exact ofReleased (p := s.pins) hs h fun u _ => frameEnded u
  | pulseError ns => exact ofReleased (p := s.pins) hs h fun u _ => of_view (by simp [runView]) (by simp)
  | lineStuck =>
    unfold Machine.exec execLineStuck at h
    refine ofReleased (p := s.pins) hs h fun u _ => ?_
    split
    · exact refl u
    · exact of_view rfl rfl
  | transmitAttempt => exact ofReleased (p := s.pins) hs h fun u _ => of_view (by simp [runView]) (by simp)
  | arbitrationWon => exact ofReleased (p := s.pins) hs h fun u _ => won u
  | arbitrationLost => exact ofReleased (p := s.pins) hs h fun u _ => of_view (by simp [runView]) (by simp)
  | frameSent => exact ofReleased (p := s.pins) hs h fun u _ => sent u
  | restartTimeout =>
    unfold Machine.exec execRestartTimeout at h
    refine ofReleased (p := s.pins) hs h fun u _ => ?_
    split
    · exact (kept (.seeInputs u)).trans (takeRestart _)
    · exact refl u
  | postingPeriodExpiry a b => exact ofReleased (p := s.pins) hs h fun u _ => periodExpiry a b u
  | rampStep => exact ofReleased (p := s.pins) hs h fun u _ => move (.stepped u)
  | indexPulse us =>
    unfold Machine.exec execIndexPulse at h
    exact ofReleased (p := s.pins) hs h fun u _ => of_view rfl rfl
  | indexTimeout =>
    unfold Machine.exec execIndexTimeout at h
    exact ofReleased (p := s.pins) hs h fun u _ => of_view rfl rfl
  | countingPulse =>
    unfold Machine.exec execCountingPulse at h
    refine ofReleased (p := s.pins) hs h fun u _ => ?_
    split <;> exact of_view rfl rfl
  | conversionComplete code =>
    unfold Machine.exec execConversionComplete at h
    refine ofReleased (p := s.pins) hs h fun u _ => ?_
    split <;> exact of_view rfl rfl
  | phaseBoundary => exact ofReleased (p := s.pins) hs h fun u _ => of_view (by simp [runView]) (by simp)
  | slowConversionComplete code => exact ofReleased (p := s.pins) hs h fun u _ => slowDone _ u
  | oilHistoryAppend =>
    unfold Machine.exec execOilHistoryAppend at h
    refine ofReleased (p := s.pins) hs h fun u _ => ?_
    split
    · exact appendOil u
    · exact refl u
  | deferralLimit => exact ofReleased (p := s.pins) hs h fun u _ => forceListening u
  | airWaitLimit c => exact ofReleased (p := s.pins) hs h fun u _ => of_view (by simp [runView]) (by simp)
  | fillTimerExpiry c => exact ofReleased (p := s.pins) hs h fun u _ => of_view (by simp [runView]) (by simp)
  | stabiliseTimerExpiry c => exact ofReleased (p := s.pins) hs h fun u _ => of_view (by simp [runView]) (by simp)
  | measureTimerExpiry c => exact ofReleased (p := s.pins) hs h fun u _ => of_view (by simp [runView]) (by simp)
  | ventTimerExpiry c => exact ofReleased (p := s.pins) hs h fun u _ => kept (.ventExpired c u)
  | swapStepDone verified =>
    unfold Machine.exec execSwapStepDone at h
    refine ofReleased (p := s.pins) hs h fun u hu => ?_
    split
    next w hw =>
      split
      · split
        · exact kept (.swapStep w u)
        · exact refl u
      · exact kept (.verifyFailure (notInCycle_of_recovery hu hw))
    · exact refl u
  | swapEnd =>
    unfold Machine.exec execSwapEnd at h
    refine ofReleased (p := s.pins) hs h fun u hu => ?_
    split
    next w hw =>
      split
      · exact kept (.endSwap (notInCycle_of_recovery hu hw))
      · exact refl u
    · exact refl u
  | driveReadyFall => exact ofReleased hs h fun u _ => driveLost u
  | standStopOpen => exact ofReleased hs h fun u _ => standAbort 1 u
  | axleInputFall which => exact ofReleased hs h fun u _ => axleFall which u
  | supplyWarningRaised => exact ofReleased hs h fun u _ => kept (.setWarning true u)
  | supplyWarningCleared =>
    unfold Machine.exec execSupplyWarningCleared at h
    exact ofReleased hs h fun u hu => kept ((RunKept.setWarning false u).trans (.heldSwap (bootLaw_setWarning false hu)))
  | reset kind =>
    obtain rfl := Host.Outcome.next.inj h
    exact holdReset kind s
  | resetRelease straps supplyLow =>
    unfold Machine.exec execResetRelease at h
    dsimp only at h
    split at h
    · obtain rfl := Host.Outcome.next.inj h
      exact (releaseReset straps supplyLow s).trans (kept (.leaveIdle _))
    · obtain rfl := Host.Outcome.next.inj h
      exact refl s
  | imageReadDone image =>
    unfold Machine.exec execImageReadDone at h
    refine ofReleased (p := s.pins) hs h fun u hu => ?_
    split
    next hb => exact move (.image u image (hu.1.mp (by simp [hb])))
    · exact refl u
  | storeScanDone =>
    unfold Machine.exec execStoreScanDone at h
    refine ofReleased (p := s.pins) hs h fun u hu => ?_
    split
    next hb =>
      obtain ⟨-, -, -, hst⟩ := store_of_scan hu hb
      exact kept (.scanDone (by rw [hst]; rfl))
    · exact refl u
  | busIdle => exact ofReleased (p := s.pins) hs h fun u _ => of_view (by simp [runView]) (by simp)
  | startPulse ns => exact ofReleased (p := s.pins) hs h fun u _ => of_view (by simp [runView]) (by simp)
  | bitPulse ns => exact ofReleased (p := s.pins) hs h fun u _ => of_view (by simp [runView]) (by simp)

theorem tick (s : State) : RunMoves s (tick s) := by
  unfold Machine.tick
  (repeat' split) <;> exact of_view rfl rfl

/-- What a sequence of moves keeps, every step keeps. -/
theorem step_keeps {P : State → Prop} (hmove : ∀ {u v}, RunMove u v → P u → P v)
    (hqueue : ∀ {u : State} {q : List Instr}, P u → P { u with pending := q })
    {s t : State} (hs : bootLaw s) (hp : P s) (h : step s = .next t) : P t := by
  have hmoves {u v : State} (huv : RunMoves u v) (hu : P u) : P v := by
    induction huv with
    | refl => exact hu
    | tail _ hm ih => exact hmove hm ih
  rcases step_cases h with ⟨c, rest, -, hc⟩ | rfl
  · exact hmoves (exec (s := { s with pending := rest }) hs hc) (hqueue hp)
  · exact hmoves (tick s) hp

end RunMoves

end Sys2Proof.Machine
end

section
/-! SUPPORT. What RUN's operations do to the commanded speed, to what it posts and to the hold set: all but the move of the
setpoint lower the speed or leave it, and keep what the hold set asks (O56). -/
namespace Sys2Proof.Machine

/-! ## What is posted of the speed, and what the hold set asks (R48, R50, R53, R54) -/

namespace RunView

/-- The class and the demand posted are those that the commanded speed allows (R50, R53). -/
structure spoken (v : RunView) : Prop where
  acoustic : v.acoustic = if v.station.quietLimit < v.cmd then .loud else .quiet
  demand : v.demand ≤ v.station.stationCap
  rest : v.cmd = 0 → v.demand = 0

/-- YIELD is posted, and the commanded speed is one that the hold set allows (R48, R54). -/
structure obeyed (v : RunView) : Prop where
  posted : v.yielding = v.holds.yields
  reversal : v.holds.reversal = true → v.cmd = 0
  quiet : v.holds.yields = true ∨ v.holds.defer = true → v.cmd ≤ v.station.quietLimit

/-- The programme in force. -/
def prog (v : RunView) : Programme := v.programmes.getD v.programme programmeZero

end RunView

theorem isEmpty_iff (h : Holds) : h.isEmpty = true ↔ h = noHolds := by
  cases h with
  | mk power yields defer reversal => simp [Holds.isEmpty, noHolds, and_assoc]

/-- An empty hold set asks nothing of the speed. -/
theorem obeyed_of_noHolds {v : RunView} (hh : v.holds = noHolds) (hy : v.yielding = false) : v.obeyed where
  posted := by rw [hy, hh]; rfl
  reversal h := by rw [hh] at h; cases h
  quiet h := by rw [hh] at h; rcases h with h | h <;> cases h

theorem demandOf_le (torque : Int) (speed cap : Nat) : demandOf torque speed cap ≤ cap := by
  unfold demandOf
  split
  · exact Nat.zero_le _
  · exact Nat.min_le_right _ _

/-- Whatever the speed, the operation that posts it posts its class and its demand. -/
theorem spoken_postSpeed (s : State) : (runView (postSpeed s)).spoken where
  acoustic := rfl
  demand := demandOf_le _ _ _
  rest h := if_pos h

/-! ## Operations that do not speed up -/

/-- From one state to the next the commanded speed has not risen, the postings and the hold set go with it as before, and the
configuration in force stands. -/
structure Slowed (s t : State) : Prop where
  cmd : t.run.cmd ≤ s.run.cmd
  obeyed : (runView s).obeyed → (runView t).obeyed
  spoken : (runView s).spoken → (runView t).spoken
  force : t.cfg.station = s.cfg.station ∧ t.cfg.programmes = s.cfg.programmes ∧ t.cyc.programme = s.cyc.programme

namespace Slowed

theorem of_view {s t : State} (h : runView t = runView s) : Slowed s t where
  cmd := Nat.le_of_eq (congrArg RunView.cmd h)
  obeyed hs := h ▸ hs
  spoken hs := h ▸ hs
  force := ⟨congrArg RunView.station h, congrArg RunView.programmes h, congrArg RunView.programme h⟩

theorem of_kept {s t : State} (h : RunKept s t) : Slowed s t := of_view h.view

theorem refl (s : State) : Slowed s s := of_view rfl

theorem trans {s t u : State} (h : Slowed s t) (h' : Slowed t u) : Slowed s u := by
  obtain ⟨hst, hps, hp⟩ := h.force
  obtain ⟨hst', hps', hp'⟩ := h'.force
  exact ⟨h'.cmd.trans h.cmd, fun hs => h'.obeyed (h.obeyed hs), fun hs => h'.spoken (h.spoken hs),
    hst'.trans hst, hps'.trans hps, hp'.trans hp⟩

/-- POWER comes and goes, and DEFER and REVERSAL go, with no new demand on the speed. -/
theorem of_holds (f : Run → Run) (s : State) (hc : (f s.run).cmd = s.run.cmd)
    (hy : (f s.run).holds.yields = s.run.holds.yields) (hd : (f s.run).holds.defer = true → s.run.holds.defer = true)
    (hr : (f s.run).holds.reversal = true → s.run.holds.reversal = true) : Slowed s (withRun f s) where
  cmd := Nat.le_of_eq hc
  obeyed h := by
    refine ⟨h.posted.trans hy.symm, fun hrev => hc.trans (h.reversal (hr hrev)), fun hq => (Nat.le_of_eq hc).trans (h.quiet ?_)⟩
    exact hq.imp (fun hq => hy ▸ hq) hd
  spoken h := by
    refine ⟨?_, h.demand, fun hz => h.rest (hc.symm.trans hz)⟩
    show _ = if _ < (f s.run).cmd then _ else _
    rw [hc]
    exact h.acoustic
  force := ⟨rfl, rfl, rfl⟩

/-- RUN passes between its states as it will: neither the speed nor the hold set is touched. -/
theorem of_state (f : Run → Run) (s : State) (hc : (f s.run).cmd = s.run.cmd) (hh : (f s.run).holds = s.run.holds) :
    Slowed s (withRun f s) := of_holds f s hc (by rw [hh]) (by rw [hh]; exact id) (by rw [hh]; exact id)

theorem setSpeed {rpm : Nat} {s : State} (h : rpm ≤ s.run.cmd) : Slowed s (setSpeed rpm s) where
  cmd := h
  obeyed hs := ⟨hs.posted, fun hr => Nat.le_zero.mp (h.trans (Nat.le_of_eq (hs.reversal hr))), fun hq => h.trans (hs.quiet hq)⟩
  spoken _ := spoken_postSpeed _
  force := ⟨rfl, rfl, rfl⟩

/-! ## The holds (R44, R48, R49, R54, R55) -/

theorem cutQuiet (s : State) : Slowed s (cutQuiet s) := by
  unfold Machine.cutQuiet
  split
  next h => exact setSpeed (Nat.le_of_lt h)
  · exact refl s

/-- A speed cut to Vq obeys YIELD and DEFER, whichever of them has just come. -/
theorem obeyed_cutQuiet {s : State} (hp : s.peer.posting.yielding = s.run.holds.yields)
    (hr : s.run.holds.reversal = true → s.run.cmd = 0) : (runView (Machine.cutQuiet s)).obeyed := by
  have hrun := cutQuiet_run s
  refine ⟨?_, fun h => ?_, fun _ => ?_⟩
  · show (Machine.cutQuiet s).peer.posting.yielding = (Machine.cutQuiet s).run.holds.yields
    rw [hrun]
    simpa using hp
  · show (Machine.cutQuiet s).run.cmd = 0
    have hrev : (Machine.cutQuiet s).run.holds.reversal = true := h
    rw [hrun] at hrev ⊢
    simp [hr hrev]
  · show (Machine.cutQuiet s).run.cmd ≤ (Machine.cutQuiet s).cfg.station.quietLimit
    rw [hrun]
    simp

theorem clearPower (s : State) : Slowed s (clearPower s) := of_holds _ s rfl rfl id id

theorem updateReversal (s : State) : Slowed s (updateReversal s) := by
  unfold Machine.updateReversal
  split
  · exact of_holds _ s rfl rfl id nofun
  · exact refl s

/-- YIELD leaves the hold set, and its posting with it. -/
theorem unyield (s : State) : Slowed s (holdYield false s) where
  cmd := Nat.le_refl _
  obeyed h := ⟨rfl, h.reversal, fun hq => h.quiet (hq.imp nofun id)⟩
  spoken h := ⟨h.acoustic, h.demand, h.rest⟩
  force := ⟨rfl, rfl, rfl⟩

theorem updateYield (s : State) : Slowed s (updateYield s) := by
  unfold Machine.updateYield
  split
  · have hcut := cutQuiet (holdYield true s)
    exact ⟨hcut.cmd, fun h => obeyed_cutQuiet rfl h.reversal, fun h => hcut.spoken ⟨h.acoustic, h.demand, h.rest⟩, hcut.force⟩
  · split
    · exact unyield s
    · exact refl s

theorem updateHolds (s : State) : Slowed s (updateHolds s) :=
  ((clearPower s).trans (updateReversal _)).trans (updateYield _)

/-- The start of a step in SEGMENT or HELD (R45). -/
theorem begun (s : State) : Slowed s (Machine.updateHolds (beginStep s)) :=
  (of_state (fun r => { r with rampLeft := 20, lastSum := demandSum s, lastAllowed := allowedPower s }) s rfl rfl).trans
    (updateHolds _)

theorem countYield (s : State) : Slowed s (countYield s) := by
  have hcounted := of_state (fun r => { r with yieldMs := r.yieldMs + 20 }) s rfl rfl
  unfold Machine.countYield
  split
  · dsimp only
    split
    · exact (hcounted.trans (of_state (fun r => { r with yieldExhausted := true }) _ rfl rfl)).trans (unyield _)
    · exact hcounted
  · exact refl s

theorem settleHolds (s : State) : Slowed s (withRun settleHolds s) := by
  obtain ⟨st, h, -⟩ := settleHolds_eq s.run
  exact of_state _ s (by rw [h]) (by rw [h])

theorem runListening (k : SegKind) (s : State) : Slowed s (withRun (runListening k) s) := by
  by_cases h : inSegment s.run.state = true ∧ k = .sweep ∧ s.run.stage = .deferred
  · have hrun := runListening_deferred h.1 h.2.1 h.2.2
    exact of_holds _ s (by rw [hrun]) (by rw [hrun]) (by rw [hrun]; nofun) (by rw [hrun]; exact id)
  · have hrun : Machine.runListening k s.run = s.run := if_neg h
    exact of_state _ s (by rw [hrun]) (by rw [hrun])

/-! ## Segments entered, and stops (R44, R59, R60) -/

theorem faceDirection (s : State) : Slowed s (faceDirection s) := by
  unfold Machine.faceDirection
  split
  · exact refl s
  · split
    · exact of_state _ s rfl rfl
    · exact ⟨Nat.zero_le _, fun h => ⟨h.posted, fun _ => rfl, fun _ => Nat.zero_le _⟩, fun _ => spoken_postSpeed _, rfl, rfl, rfl⟩

theorem beginSweep (s : State) : Slowed s (beginSweep s) := by
  unfold Machine.beginSweep
  split
  · have hcut := cutQuiet (withRun (fun r => { r with holds := { r.holds with defer := true } }) s)
    have hdeferred : Slowed s (Machine.cutQuiet (withRun (fun r => { r with holds := { r.holds with defer := true } }) s)) :=
      ⟨hcut.cmd, fun h => obeyed_cutQuiet h.posted h.reversal, fun h => hcut.spoken ⟨h.acoustic, h.demand, h.rest⟩, hcut.force⟩
    exact hdeferred.trans (of_kept (.lsnBegin _))
  · exact refl s

theorem enterSegment (i : Nat) (s : State) : Slowed s (enterSegment i s) := by
  have hat : Slowed s (atSegment i s) := of_state _ s rfl rfl
  rw [enterSegment_eq]
  exact (((hat.trans (faceDirection _)).trans (of_kept (.tellLeak _))).trans (beginSweep _)).trans (settleHolds _)

theorem toStopping (why : EndReason) (s : State) : Slowed s (toStopping why s) := by
  unfold Machine.toStopping
  split
  · have hstop : Slowed s (postYielding false
        (withRun (fun r => { r with state := .stopping, holds := noHolds, endReason := why }) s)) :=
      ⟨Nat.le_refl _, fun _ => obeyed_of_noHolds rfl rfl, fun h => ⟨h.acoustic, h.demand, h.rest⟩, rfl, rfl, rfl⟩
    exact hstop.trans (of_kept (.abandonSweep _))
  · exact refl s

theorem runDeviation (c : DevClass) (measured limit : Nat) (s : State) : Slowed s (runDeviation c measured limit s) := by
  have htold := of_kept (.takeDev ⟨c, s.run.seg, measured, limit⟩ s)
  unfold Machine.runDeviation
  dsimp only
  split
  · exact htold.trans (toStopping _ _)
  · exact htold

end Slowed

end Sys2Proof.Machine
end

section
/-! SUPPORT. The ramp step of a segment as moves, and the commanded speed at rest outside a run-in (O56). -/
namespace Sys2Proof.Machine

/-! ## The moves of a ramp step (R45 to R47) -/

/-- The setpoints that a ramp step may move toward in a segment (R46, R47). -/
def setpointsOf (g : Segment) : List Nat := [0, g.target, g.startSpeed, g.endSpeed]

/-- One move of a ramp step in SEGMENT or HELD, between the hold set brought up to date and what every step ends with. -/
inductive StepMove : State → State → Prop
  /-- RUN's part stays as it is. -/
  | kept {s t : State} (h : RunKept s t) : StepMove s t
  /-- A segment that the profile uses is entered, or the present one again (R44, R47). -/
  | entered (s : State) (i : Nat) (h : i < (progOf s).segCount ∨ i = s.run.seg ∧ inSegment s.run.state = true) :
      StepMove s (enterSegment i s)
  /-- RUN enters STOPPING (R46, R59). -/
  | stopped (s : State) (why : EndReason) : StepMove s (toStopping why s)
  /-- The setpoint moves under no hold, or its increase is withheld (R45, R51). -/
  | moved (s : State) (target rate : Nat) (hin : inSegment s.run.state = true) (hh : s.run.holds.isEmpty = true)
      (ht : target ∈ setpointsOf (segOf s)) : StepMove s (moveTo target rate s)

/-- A sequence of moves of a ramp step. -/
abbrev StepMoves : State → State → Prop := Relation.ReflTransGen StepMove

namespace StepMoves

theorem refl (s : State) : StepMoves s s := Relation.ReflTransGen.refl

theorem trans {s t u : State} (h : StepMoves s t) (h' : StepMoves t u) : StepMoves s u := Relation.ReflTransGen.trans h h'

theorem move {s t : State} (h : StepMove s t) : StepMoves s t := Relation.ReflTransGen.single h

theorem kept {s t : State} (h : RunKept s t) : StepMoves s t := move (.kept h)

theorem of_view {s t : State} (h : runView t = runView s) (hst : t.cyc.station = s.cyc.station) : StepMoves s t :=
  kept (.of_view h hst)

theorem runDeviation (c : DevClass) (measured limit : Nat) (s : State) : StepMoves s (runDeviation c measured limit s) := by
  have htold := kept (.takeDev ⟨c, s.run.seg, measured, limit⟩ s)
  unfold Machine.runDeviation
  dsimp only
  split
  · exact htold.trans (move (.stopped _ _))
  · exact htold

theorem segmentEnd (s : State) : StepMoves s (segmentEnd s) := by
  have hcounted : StepMoves s (segmentCounted s) := of_view rfl rfl
  rw [segmentEnd_eq]
  split
  next h => exact hcounted.trans (move (.entered _ _ (.inl h)))
  · exact hcounted.trans (move (.stopped _ _))

theorem trackDwell (s : State) : StepMoves s (trackDwell s) := by
  by_cases h : trackTrips s
  · rw [trackDwell_trips h]
    refine trans (t := withRun _ s) ?_ (runDeviation _ _ _ _)
    exact of_view rfl rfl
  · rw [trackDwell_still h]
    exact of_view rfl rfl

theorem dwellStep (g : Segment) (s : State) : StepMoves s (dwellStep g s) := by
  have hcounted : StepMoves s (withRun (fun r => { r with dwellMs := r.dwellMs + 20 }) s) := of_view rfl rfl
  have htracked := hcounted.trans (trackDwell _)
  unfold Machine.dwellStep
  dsimp only
  split
  · exact htracked.trans (segmentEnd _)
  · exact htracked

theorem countPower (s : State) : StepMoves s (countPower s) := by
  unfold Machine.countPower
  dsimp only
  split
  · split
    · refine trans (t := withRun (fun r => { r with powerWaitMark := true }) _) ?_ (runDeviation _ _ _ _)
      exact of_view rfl rfl
    · exact of_view rfl rfl
  · exact refl s

theorem takeOutcome (again : Bool) {s : State} (hin : inSegment s.run.state = true) : StepMoves s (takeOutcome again s) := by
  unfold Machine.takeOutcome
  split
  · exact move (.entered s s.run.seg (.inr ⟨rfl, hin⟩))
  · exact segmentEnd s

theorem sweepEnd {s : State} (hin : inSegment s.run.state = true) : StepMoves s (sweepEnd s) := by
  have hstage : RunKept s (setStage .assessing s) := .of_view rfl rfl
  have htold := hstage.trans (.lsnSweepEnded _)
  unfold Machine.sweepEnd
  by_cases hv : (lsnSweepEnded (setStage .assessing s)).vib.state = .idle
  · rw [assessSweep, if_pos hv]
    exact kept htold
  · have hhanded := htold.trans (.noiseHanded _)
    have hstate : inSegment (noiseHanded (lsnSweepEnded (setStage .assessing s))).run.state = true := by
      rw [hhanded.state]
      exact hin
    rw [assessSweep_eq hv]
    exact ((kept hhanded).trans (takeOutcome _ hstate)).trans (kept (.checkpoint _))

section
variable {s : State} (hin : inSegment s.run.state = true) (hh : s.run.holds.isEmpty = true)
include hin hh

theorem moveStep {target : Nat} (rate : Nat) (ht : target ∈ setpointsOf (segOf s)) : StepMoves s (moveStep target rate s) := by
  have hcleared : StepMoves s (clearTrack s) := of_view rfl rfl
  have hmoved := hcleared.trans (move (.moved (clearTrack s) target rate hin hh ht))
  unfold Machine.moveStep
  dsimp only
  split
  · exact hmoved.trans (segmentEnd _)
  · exact hmoved

theorem sweepStep : StepMoves s (sweepStep (segOf s) s) := by
  have hmoved {target : Nat} (ht : target ∈ setpointsOf (segOf s)) : StepMoves s (moveTo target (segOf s).rate s) :=
    move (.moved s target _ hin hh ht)
  unfold Machine.sweepStep
  split
  · dsimp only
    split
    · exact (hmoved (by simp [setpointsOf])).trans (of_view rfl rfl)
    · exact hmoved (by simp [setpointsOf])
  · dsimp only
    split
    · exact (hmoved (by simp [setpointsOf])).trans (sweepEnd (by simpa using hin))
    · exact hmoved (by simp [setpointsOf])
  · exact refl s
  · exact refl s

/-- A step that finds the hold set empty. -/
theorem actStep : StepMoves s (actStep s) := by
  have hcleared : StepMoves s (clearTrack s) := of_view rfl rfl
  unfold Machine.actStep
  split
  · exact moveStep hin hh _ (by simp [setpointsOf])
  · exact moveStep hin hh _ (by simp [setpointsOf])
  · have ht : (segOf s).target ∈ setpointsOf (segOf s) := by simp [setpointsOf]
    split
    · exact dwellStep _ s
    · exact hcleared.trans (move (.moved (clearTrack s) _ _ hin hh ht))
  · exact hcleared.trans (sweepStep (s := clearTrack s) hin hh)

end

end StepMoves

/-! ## The frame of a ramp step (R45) -/

/-- What a step in SEGMENT or HELD acts on, once the hold set is up to date. -/
theorem updateHolds_begun_state (s : State) : (updateHolds (beginStep s)).run.state = s.run.state
    ∧ (updateHolds (beginStep s)).run.seg = s.run.seg ∧ (updateHolds (beginStep s)).cyc = s.cyc := by simp

/-- A step in SEGMENT or HELD as its moves, up to the yield time and what every step ends with. -/
theorem rampStep_moves_of_active {s : State} (hin : inSegment s.run.state = true) :
    ∃ u, StepMoves (updateHolds (beginStep s)) u ∧ rampStep s = postSpeed (withRun settleHolds (countYield u)) := by
  obtain ⟨hstate, -⟩ := updateHolds_begun_state s
  rw [rampStep_active hin, stepEnded]
  split
  next hh => exact ⟨_, (StepMoves.actStep (by rw [hstate]; exact hin) hh).trans (.countPower _), rfl⟩
  · have hcleared : StepMoves (updateHolds (beginStep s)) (clearTrack (updateHolds (beginStep s))) := .of_view rfl rfl
    exact ⟨_, hcleared.trans (.countPower _), rfl⟩

theorem countYield_state (s : State) : (countYield s).run.state = s.run.state ∧ (countYield s).run.seg = s.run.seg := by
  unfold countYield
  dsimp only
  split
  · split <;> exact ⟨rfl, rfl⟩
  · exact ⟨rfl, rfl⟩

theorem rampStep_rest {s : State} (h : s.run.state = .off ∨ s.run.state = .complete) : rampStep s = s := by
  unfold rampStep
  rcases h with h | h <;> rw [h]

theorem runState_cases (r : RunState) : (r = .off ∨ r = .complete) ∨ inSegment r = true ∨ r = .stopping := by
  cases r <;> simp [inSegment]

/-! ## RUN at rest (R42) -/

/-- The commanded speed is 0 in OFF and COMPLETE, and RUN is in one of these outside a cycle. -/
structure restLaw (s : State) : Prop where
  rest : s.run.state = .off ∨ s.run.state = .complete → s.run.cmd = 0
  cycle : inCycle s.cyc.station = false → s.run.state = .off ∨ s.run.state = .complete

/-- A run-in goes on, in a cycle. -/
structure running (s : State) : Prop where
  state : inSegment s.run.state = true ∨ s.run.state = .stopping
  cycle : inCycle s.cyc.station = true

theorem not_rest_of_running {r : RunState} (h : inSegment r = true ∨ r = .stopping) : ¬ (r = .off ∨ r = .complete) := by
  cases r <;> simp [inSegment] at h ⊢

theorem restLaw_of_running {s : State} (h : running s) : restLaw s where
  rest hr := absurd hr (not_rest_of_running h.state)
  cycle hc := by rw [h.cycle] at hc; cases hc

theorem running_of_restLaw {s : State} (hs : restLaw s) (h : inSegment s.run.state = true ∨ s.run.state = .stopping) :
    running s where
  state := h
  cycle := by
    by_contra hc
    exact not_rest_of_running h (hs.cycle (by simpa using hc))

theorem running_enterSegment {i : Nat} {s : State} (hc : inCycle s.cyc.station = true) : running (enterSegment i s) := by
  obtain ⟨st, dir, cmd, reversal, defer, told, hst, hrun⟩ := enterSegment_run i s
  exact ⟨.inl (by rw [hrun]; exact hst), by simpa using hc⟩

theorem running_toStopping {why : EndReason} {s : State} (h : running s) : running (toStopping why s) := by
  cases hin : inSegment s.run.state with
  | true => exact ⟨.inr (by rw [toStopping_run hin]; rfl), by simpa using h.cycle⟩
  | false => rwa [toStopping_other hin]

theorem running_kept {s t : State} (h : RunKept s t) (hs : running s) : running t where
  state := by
    rw [h.state]
    exact hs.state
  cycle := by
    by_contra hc
    rcases h.cycle (by simpa using hc) with hs' | hs'
    · rw [hs.cycle] at hs'
      cases hs'
    · exact not_rest_of_running hs.state (.inr hs')

theorem running_of_stepMove {s t : State} (h : StepMove s t) (hs : running s) : running t := by
  cases h with
  | kept h => exact running_kept h hs
  | entered i _ => exact running_enterSegment hs.cycle
  | stopped why => exact running_toStopping hs
  | moved target rate _ _ _ => exact ⟨by simpa using hs.state, by simpa using hs.cycle⟩

theorem running_of_stepMoves {s t : State} (h : StepMoves s t) (hs : running s) : running t := by
  induction h with
  | refl => exact hs
  | tail _ hm ih => exact running_of_stepMove hm ih

/-- RUN passes between SEGMENT and HELD alone as the hold set fills or empties (R42). -/
theorem inSegment_settleHolds (r : Run) : inSegment (settleHolds r).state = inSegment r.state := by
  unfold settleHolds
  split
  next h =>
    rw [h]
    dsimp only
    split <;> rfl
  · rfl

theorem settleHolds_other {r : Run} (h : inSegment r.state = false) : settleHolds r = r := if_neg (by simp [h])

theorem settleHolds_state {r : Run} (h : inSegment r.state = true ∨ r.state = .stopping) :
    inSegment (settleHolds r).state = true ∨ (settleHolds r).state = .stopping := by
  rcases h with h | h
  · exact .inl ((inSegment_settleHolds r).trans h)
  · exact .inr (by rw [settleHolds_other (by rw [h]; rfl)]; exact h)

theorem inSegment_runListening (k : SegKind) (r : Run) : inSegment (runListening k r).state = inSegment r.state := by
  unfold runListening
  split
  · exact inSegment_settleHolds _
  · rfl

/-- What a step in SEGMENT or HELD acts on is a run-in that goes on. -/
theorem running_begun {s : State} (hin : inSegment s.run.state = true) (hs : running s) : running (updateHolds (beginStep s)) := by
  obtain ⟨hstate, -, hcyc⟩ := updateHolds_begun_state s
  exact ⟨by rw [hstate]; exact .inl hin, by rw [hcyc]; exact hs.cycle⟩

theorem running_rampStep {s : State} (hin : inSegment s.run.state = true) (hs : running s) : running (rampStep s) := by
  obtain ⟨u, hu, h⟩ := rampStep_moves_of_active hin
  have hrun := running_of_stepMoves hu (running_begun hin hs)
  rw [h]
  refine ⟨settleHolds_state (r := (countYield u).run) ?_, by simpa using hrun.cycle⟩
  rw [(countYield_state u).1]
  exact hrun.state

theorem restLaw_kept {s t : State} (h : RunKept s t) (hs : restLaw s) : restLaw t := by
  refine ⟨fun hr => h.cmd.trans (hs.rest (h.state ▸ hr)), fun hc => h.state ▸ ?_⟩
  rcases h.cycle hc with hc | hc
  · exact hs.cycle hc
  · exact .inr hc

/-- RUN in COMPLETE, at rest whatever follows from it for CYC and LEAK. -/
theorem restLaw_runComplete {s : State} (h : s.run.cmd = 0) : restLaw (runComplete s) := ⟨fun _ => h, fun _ => .inr rfl⟩

theorem restLaw_rampStep {s : State} (hs : restLaw s) : restLaw (rampStep s) := by
  rcases runState_cases s.run.state with hst | hin | hst
  · rw [rampStep_rest hst]
    exact hs
  · exact restLaw_of_running (running_rampStep hin (running_of_restLaw hs (.inl hin)))
  · by_cases hstill : s.run.cmd = 0 ∧ s.run.measured = 0
    · rw [rampStep_complete hst hstill.1 hstill.2]
      exact restLaw_kept ((RunKept.jobEnded _).trans (.armAtComplete _)) (restLaw_runComplete (s := completing s) hstill.1)
    · rw [rampStep_falling hst (by omega)]
      exact restLaw_of_running ⟨.inr hst, (running_of_restLaw hs (.inr hst)).cycle⟩

theorem restLaw_of_move {s t : State} (h : RunMove s t) (hs : restLaw s) : restLaw t := by
  cases h with
  | kept h => exact restLaw_kept h hs
  | heard k =>
    by_cases hin : inSegment s.run.state = true
    · exact restLaw_of_running ⟨.inl ((inSegment_runListening k s.run).trans hin), (running_of_restLaw hs (.inl hin)).cycle⟩
    · have hrun : runListening k s.run = s.run := runListening_else (.inl (by simpa using hin))
      have hview : runView (withRun (runListening k) s) = runView s := by simp [runView, hrun]
      exact restLaw_kept (.of_view hview rfl) hs
  | stopped why =>
    cases hin : inSegment s.run.state with
    | true => exact restLaw_of_running (running_toStopping (running_of_restLaw hs (.inl hin)))
    | false => rwa [toStopping_other hin]
  | halted hin => exact ⟨fun _ => rfl, hs.cycle⟩
  | stepped => exact restLaw_rampStep hs
  | started programme serial stamp hst hd =>
    rw [startCycle_eq]
    obtain ⟨st, dir, cmd, reversal, defer, told, hin, hrun⟩ := enterSegment_run 0 (startReady programme serial stamp s)
    refine restLaw_of_running ⟨.inl ?_, rfl⟩
    show inSegment (enterSegment 0 (startReady programme serial stamp s)).run.state = true
    rw [hrun]
    exact hin
  | cleared h => exact ⟨fun _ => by rw [h.run]; rfl, fun _ => by rw [h.run]; exact .inl rfl⟩
  | image bytes hst => exact ⟨hs.rest, hs.cycle⟩

end Sys2Proof.Machine
end

section
/-! SUPPORT. The hold set, and what is posted of it and of the commanded speed, kept by every move (O56). -/
namespace Sys2Proof.Machine

/-! ## The hold set and the postings (R48, R50, R53, R54) -/

/-- The postings are those of the speed and of YIELD, the hold set is empty exactly outside HELD, and the speed obeys it. -/
structure RunView.told (v : RunView) : Prop where
  spoken : v.spoken
  held : v.holds.isEmpty = false ↔ v.state = .held
  obeyed : v.obeyed

theorem RunView.told.noHolds {v : RunView} (h : v.told) (hst : v.state ≠ .held) : v.holds = noHolds := by
  rw [← isEmpty_iff]
  by_contra he
  exact hst (h.held.mp (by simpa using he))

/-- Outside HELD a hold set that is empty is all that is asked, with YIELD not posted. -/
theorem told_of_noHolds {v : RunView} (hs : v.spoken) (hst : v.state ≠ .held) (hh : v.holds = noHolds)
    (hy : v.yielding = false) : v.told where
  spoken := hs
  held := by simp [hh, Machine.noHolds, Holds.isEmpty, hst]
  obeyed := obeyed_of_noHolds hh hy

/-- At rest QUIET and a demand of 0 are posted, whatever the configuration. -/
theorem spoken_at_rest {v : RunView} (h : v.cmd = 0) : v.spoken ↔ v.acoustic = .quiet ∧ v.demand = 0 := by
  constructor
  · intro hs
    refine ⟨?_, hs.rest h⟩
    rw [hs.acoustic, h]
    exact if_neg (Nat.not_lt_zero _)
  · rintro ⟨ha, hd⟩
    refine ⟨?_, by rw [hd]; exact Nat.zero_le _, fun _ => hd⟩
    rw [ha, h]
    exact (if_neg (Nat.not_lt_zero _)).symm

/-- A hold set just settled is empty exactly outside HELD, unless a run-in is stopping under a hold. -/
theorem held_settleHolds {r : Run} (h : inSegment r.state = true ∨ r.state = .stopping ∧ r.holds = noHolds) :
    (settleHolds r).holds.isEmpty = false ↔ (settleHolds r).state = .held := by
  rcases h with h | ⟨hst, hh⟩
  · rw [settleHolds, if_pos h]
    dsimp only
    cases r.holds.isEmpty <;> simp
  · rw [settleHolds_other (by rw [hst]; rfl), hh, hst]
    exact ⟨nofun, nofun⟩

theorem held_enterSegment (i : Nat) (s : State) :
    (enterSegment i s).run.holds.isEmpty = false ↔ (enterSegment i s).run.state = .held := by
  obtain ⟨st, dir, cmd, reversal, defer, told, hst, hrun⟩ := enterSegment_run i s
  have hidem : settleHolds (enterSegment i s).run = (enterSegment i s).run := by
    rw [enterSegment_eq, withRun_run]
    exact settleHolds_idem _
  rw [← hidem]
  exact held_settleHolds (.inl (by rw [hrun]; exact hst))

/-- What does not speed up keeps the postings and the hold set, where it leaves RUN held exactly under a hold. -/
theorem told_of_slowed {s t : State} (h : Slowed s t) (hs : (runView s).told)
    (hh : t.run.holds.isEmpty = false ↔ t.run.state = .held) : (runView t).told :=
  ⟨h.spoken hs.spoken, hh, h.obeyed hs.obeyed⟩

theorem told_enterSegment (i : Nat) {s : State} (hs : (runView s).told) : (runView (enterSegment i s)).told :=
  told_of_slowed (.enterSegment i s) hs (held_enterSegment i s)

/-! ## A ramp step (R45, R60) -/

/-- Between the moves of a ramp step the hold set is obeyed, and a run-in that is stopping holds nothing. -/
structure stepHeld (s : State) : Prop where
  obeyed : (runView s).obeyed
  stopping : s.run.state = .stopping → s.run.holds = noHolds

theorem stepHeld_of_inSegment {s : State} (h : (runView s).obeyed) (hin : inSegment s.run.state = true) : stepHeld s where
  obeyed := h
  stopping hst := by rw [hst] at hin; cases hin

/-- Under no hold the setpoint may move as far as it will. -/
theorem obeyed_moveTo {target rate : Nat} {s : State} (hh : s.run.holds = noHolds) (hs : (runView s).obeyed) :
    (runView (moveTo target rate s)).obeyed := by
  have hy : s.peer.posting.yielding = false := hs.posted.trans (by rw [show (runView s).holds = noHolds from hh]; rfl)
  unfold moveTo
  split
  · exact (Slowed.of_holds _ s rfl rfl id id).obeyed hs
  · exact obeyed_of_noHolds hh hy

theorem stepHeld_of_stepMove {s t : State} (h : StepMove s t) (hs : stepHeld s) : stepHeld t := by
  cases h with
  | kept h =>
    refine ⟨h.view ▸ hs.obeyed, fun hst => ?_⟩
    exact (congrArg RunView.holds h.view).trans (hs.stopping (h.state.symm.trans hst))
  | entered i _ =>
    obtain ⟨st, dir, cmd, reversal, defer, told, hst, hrun⟩ := enterSegment_run i s
    exact stepHeld_of_inSegment ((Slowed.enterSegment i s).obeyed hs.obeyed) (by rw [hrun]; exact hst)
  | stopped why =>
    refine ⟨(Slowed.toStopping why s).obeyed hs.obeyed, fun hst => ?_⟩
    cases hin : inSegment s.run.state with
    | true => exact congrArg Run.holds (toStopping_run hin)
    | false =>
      rw [toStopping_other hin] at hst ⊢
      exact hs.stopping hst
  | moved target rate hin hh _ =>
    exact stepHeld_of_inSegment (obeyed_moveTo ((isEmpty_iff _).mp hh) hs.obeyed) (by simpa using hin)

theorem stepHeld_of_stepMoves {s t : State} (h : StepMoves s t) (hs : stepHeld s) : stepHeld t := by
  induction h with
  | refl => exact hs
  | tail _ hm ih => exact stepHeld_of_stepMove hm ih

/-- A run-in that is stopping has no yield time to count. -/
theorem countYield_of_noHolds {s : State} (h : s.run.holds = noHolds) : countYield s = s := if_neg (by rw [h]; nofun)

/-- What every step in SEGMENT and HELD ends with settles the hold set and posts the speed. -/
theorem told_stepEnded {s : State} (hr : running s) (hs : stepHeld s) :
    (runView (postSpeed (withRun settleHolds (countYield s)))).told := by
  have hobeyed := (Slowed.settleHolds _).obeyed ((Slowed.countYield s).obeyed hs.obeyed)
  refine ⟨spoken_postSpeed _, held_settleHolds ?_, hobeyed.posted, hobeyed.reversal, hobeyed.quiet⟩
  rcases hr.state with hin | hst
  · exact .inl (by rw [(countYield_state s).1]; exact hin)
  · exact .inr (by rw [countYield_of_noHolds (hs.stopping hst)]; exact ⟨hst, hs.stopping hst⟩)

theorem told_rampStep {s : State} (hr : restLaw s) (hs : (runView s).told) : (runView (rampStep s)).told := by
  rcases runState_cases s.run.state with hst | hin | hst
  · rw [rampStep_rest hst]
    exact hs
  · obtain ⟨u, hu, h⟩ := rampStep_moves_of_active hin
    have hbegun := running_begun hin (running_of_restLaw hr (.inl hin))
    have hheld := stepHeld_of_inSegment ((Slowed.begun s).obeyed hs.obeyed) (by rw [(updateHolds_begun_state s).1]; exact hin)
    rw [h]
    exact told_stepEnded (running_of_stepMoves hu hbegun) (stepHeld_of_stepMoves hu hheld)
  · have hh : s.run.holds = noHolds := hs.noHolds (fun h => by rw [show s.run.state = .held from h] at hst; cases hst)
    have hy : s.peer.posting.yielding = false := hs.obeyed.posted.trans (by rw [show (runView s).holds = noHolds from hh]; rfl)
    by_cases hstill : s.run.cmd = 0 ∧ s.run.measured = 0
    · have hcomplete : (runView (runComplete (completing s))).told := told_of_noHolds (spoken_postSpeed _) nofun hh hy
      rw [rampStep_complete hst hstill.1 hstill.2, ((RunKept.jobEnded _).trans (.armAtComplete _)).view]
      exact hcomplete
    · rw [rampStep_falling hst (by omega)]
      exact told_of_noHolds (spoken_postSpeed _) (fun h => by rw [show s.run.state = .held from h] at hst; cases hst) hh hy

/-! ## A START (R4, R43) -/

/-- RUN cleared at a START, with the programme that it names in force. -/
theorem runView_startReady (programme : Nat) (serial stamp : List Byte) (s : State) :
    runView (startReady programme serial stamp s)
      = { runView s with state := .off, seg := 0, cmd := 0, holds := noHolds, programme := programme } := by
  obtain ⟨hist, h⟩ := appendOil_first (s := withLsn (fun l => { l with totalDeferralMs := 0, forcedCount := 0 })
    (withRun runClear (withVib vibStart (leakStart { openCycle programme serial stamp s with dev := devClear })))) rfl
  unfold startReady
  rw [h]
  rfl

theorem runView_startCycle (programme : Nat) (serial stamp : List Byte) (s : State) :
    runView (startCycle programme serial stamp s) = runView (enterSegment 0 (startReady programme serial stamp s)) := by
  have hshown (q : Nat) (u : State) : runView (setStation .testing
      (writePosting (fun p => { p with programme := programme, openSeq := q }) u)) = runView u := rfl
  exact hshown _ _

theorem told_startCycle (programme : Nat) (serial stamp : List Byte) {s : State} (hcmd : s.run.cmd = 0)
    (hst : s.run.state ≠ .held) (hs : (runView s).told) : (runView (startCycle programme serial stamp s)).told := by
  have hh : (runView s).holds = noHolds := hs.noHolds hst
  have hrest := (spoken_at_rest (v := runView s) hcmd).mp hs.spoken
  have hready : (runView (startReady programme serial stamp s)).told := by
    rw [runView_startReady]
    exact told_of_noHolds ((spoken_at_rest rfl).mpr hrest) nofun rfl (hs.obeyed.posted.trans (by rw [hh]; rfl))
  rw [runView_startCycle]
  exact told_enterSegment 0 hready

/-! ## Every move -/

theorem told_runListening (k : SegKind) {s : State} (hs : (runView s).told) : (runView (withRun (runListening k) s)).told := by
  refine told_of_slowed (.runListening k s) hs ?_
  show (runListening k s.run).holds.isEmpty = false ↔ (runListening k s.run).state = .held
  unfold runListening
  split
  next h => exact held_settleHolds (.inl h.1)
  · exact hs.held

theorem told_toStopping (why : EndReason) {s : State} (hs : (runView s).told) : (runView (toStopping why s)).told := by
  cases hin : inSegment s.run.state with
  | false =>
    rw [toStopping_other hin]
    exact hs
  | true =>
    have hrun := toStopping_run (why := why) hin
    obtain ⟨-, -, hyields⟩ := toStopping_told (why := why) hin
    refine told_of_noHolds ((Slowed.toStopping why s).spoken hs.spoken) ?_ (congrArg Run.holds hrun) hyields
    show (toStopping why s).run.state ≠ .held
    rw [hrun]
    nofun

/-- RUN at rest outside a cycle: the speed is 0 and RUN is not in HELD. -/
theorem at_rest {s : State} (hr : restLaw s) (hc : inCycle s.cyc.station = false) :
    s.run.cmd = 0 ∧ s.run.state ≠ .held ∧ inSegment s.run.state = false := by
  have hst := hr.cycle hc
  exact ⟨hr.rest hst, by rcases hst with h | h <;> simp [h], by rcases hst with h | h <;> simp [h, inSegment]⟩

theorem told_of_move {s t : State} (h : RunMove s t) (hr : restLaw s) (hs : (runView s).told) : (runView t).told := by
  cases h with
  | kept h => exact h.view ▸ hs
  | heard k => exact told_runListening k hs
  | stopped why => exact told_toStopping why hs
  | halted hin => exact told_of_slowed (.setSpeed (Nat.zero_le _)) hs hs.held
  | stepped => exact told_rampStep hr hs
  | started programme serial stamp hst hd =>
    obtain ⟨hcmd, hheld, -⟩ := at_rest hr (by rcases hst with h | h <;> rw [h] <;> rfl)
    exact told_startCycle programme serial stamp hcmd hheld hs
  | cleared h =>
    obtain ⟨hacoustic, hdemand, hyielding⟩ := h.posted
    have hcmd : (runView t).cmd = 0 := congrArg Run.cmd h.run
    have hst : (runView t).state = .off := congrArg Run.state h.run
    exact told_of_noHolds ((spoken_at_rest hcmd).mpr ⟨hacoustic, hdemand⟩) (by rw [hst]; nofun) (congrArg Run.holds h.run) hyielding
  | image bytes hst =>
    obtain ⟨hcmd, hheld, -⟩ := at_rest hr (by rw [hst]; rfl)
    have hh : (runView s).holds = noHolds := hs.noHolds hheld
    have hrest := (spoken_at_rest (v := runView s) hcmd).mp hs.spoken
    exact told_of_noHolds ((spoken_at_rest hcmd).mpr hrest) hheld hh (hs.obeyed.posted.trans (by rw [hh]; rfl))

end Sys2Proof.Machine
end

section
/-! SUPPORT. The configuration in its ranges, and the commanded speed within its bound, kept by every move (O56). -/
namespace Sys2Proof.Machine

/-! ## The bound (R42, R194) -/

/-- The configuration lies in its ranges, the commanded speed within the limits of the programme and of the stand, and a
segment is one that the profile of a defined programme uses. -/
structure RunView.bounded (v : RunView) : Prop where
  station : stationInRange v.station
  programmes : ∀ p ∈ v.programmes, p.definedFlag = true → programmeInRange v.station.speedLimit p
  cmd : v.cmd ≤ min v.prog.maxSpeed v.station.speedLimit
  segment : inSegment v.state = true → v.prog.definedFlag = true ∧ v.seg < v.prog.segCount

theorem bounded_iff (s : State) : configLaw s ∧ boundLaw s ↔ (runView s).bounded :=
  ⟨fun ⟨⟨hst, hps⟩, hcmd, hseg⟩ => ⟨hst, hps, hcmd, hseg⟩, fun h => ⟨⟨h.station, h.programmes⟩, h.cmd, h.segment⟩⟩

/-- A defined programme of the configuration is one of its list. -/
theorem mem_of_defined {l : List Programme} {i : Nat} (h : (l.getD i programmeZero).definedFlag = true) :
    l.getD i programmeZero ∈ l := by
  by_cases hi : i < l.length
  · rw [List.getD_eq_getElem l _ hi]
    exact List.getElem_mem hi
  · rw [List.getD_eq_default l _ (by omega)] at h
    cases h

/-- The programme in force in its ranges, where it is defined. -/
theorem RunView.bounded.prog {v : RunView} (h : v.bounded) (hd : v.prog.definedFlag = true) :
    programmeInRange v.station.speedLimit v.prog := h.programmes _ (mem_of_defined hd) hd

/-- No setpoint of a segment that the profile uses is above the programme's top speed. -/
theorem setpoint_le {limit target i : Nat} {p : Programme} (hp : programmeInRange limit p) (hi : i < p.segCount)
    (ht : target ∈ setpointsOf (p.segments.getD i segmentZero)) : target ≤ min p.maxSpeed limit := by
  obtain ⟨-, hcount, hlen, hmax, -, -, -, -, -, -, -, -, -, -, -, -, -, -, -, -, -, -, -, hsegments, -, -⟩ := hp
  have hlt : i < p.segments.length := by omega
  have hmem : p.segments.getD i segmentZero ∈ p.segments.take p.segCount := by
    rw [List.getD_eq_getElem _ _ hlt]
    exact List.mem_take_iff_getElem.mpr ⟨i, by omega, rfl⟩
  obtain ⟨-, -, htarget, hstart, hend, -⟩ := hsegments _ hmem
  have hle : target ≤ p.maxSpeed := by
    simp only [setpointsOf, List.mem_cons, List.not_mem_nil, or_false] at ht
    rcases ht with rfl | rfl | rfl | rfl
    · exact Nat.zero_le _
    · exact htarget
    · exact hstart
    · exact hend
  exact Nat.le_min.mpr ⟨hle, hle.trans hmax⟩

theorem segCount_pos {limit : Nat} {p : Programme} (hp : programmeInRange limit p) : 0 < p.segCount := hp.1

theorem nextSetpoint_le (cmd target rate : Nat) : nextSetpoint cmd target rate ≤ max cmd target := by
  unfold nextSetpoint
  split <;> omega

/-- Whatever does not speed up keeps the bound, with the segment it leaves RUN in. -/
theorem bounded_of_slowed {s t : State} (h : Slowed s t) (hs : (runView s).bounded)
    (hseg : inSegment t.run.state = true → (progOf s).definedFlag = true ∧ t.run.seg < (progOf s).segCount) :
    (runView t).bounded := by
  obtain ⟨hst, hps, hp⟩ := h.force
  have hstation : (runView t).station = (runView s).station := hst
  have hprogrammes : (runView t).programmes = (runView s).programmes := hps
  have hprog : (runView t).prog = (runView s).prog := by
    rw [RunView.prog, RunView.prog, hprogrammes, show (runView t).programme = (runView s).programme from hp]
  refine ⟨?_, ?_, ?_, ?_⟩
  · rw [hstation]
    exact hs.station
  · rw [hstation, hprogrammes]
    exact hs.programmes
  · rw [hstation, hprog]
    exact h.cmd.trans hs.cmd
  · rw [hprog]
    exact hseg

/-- The same where the segment stands, or RUN has left it. -/
theorem bounded_of_same {s t : State} (h : Slowed s t) (hs : (runView s).bounded)
    (hseg : inSegment t.run.state = true → inSegment s.run.state = true ∧ t.run.seg = s.run.seg) : (runView t).bounded := by
  refine bounded_of_slowed h hs fun ht => ?_
  obtain ⟨hin, hsame⟩ := hseg ht
  rw [hsame]
  exact hs.segment hin

/-! ## A ramp step (R45, R60) -/

/-- Between the moves of a ramp step the bound holds, and the programme in force is defined. -/
structure stepBounded (s : State) : Prop where
  bounded : (runView s).bounded
  defined : (progOf s).definedFlag = true

theorem stepBounded_enterSegment {i : Nat} {s : State} (hs : stepBounded s) (hi : i < (progOf s).segCount) :
    stepBounded (enterSegment i s) := by
  obtain ⟨st, dir, cmd, reversal, defer, told, -, hrun⟩ := enterSegment_run i s
  have hprog : progOf (enterSegment i s) = progOf s := by simp [progOf]
  refine ⟨bounded_of_slowed (.enterSegment i s) hs.bounded fun _ => ⟨hs.defined, ?_⟩, by rw [hprog]; exact hs.defined⟩
  rw [hrun]
  exact hi

theorem bounded_toStopping (why : EndReason) {s : State} (hs : (runView s).bounded) :
    (runView (toStopping why s)).bounded := by
  cases hin : inSegment s.run.state with
  | false =>
    rw [toStopping_other hin]
    exact hs
  | true =>
    refine bounded_of_same (.toStopping why s) hs fun ht => ?_
    rw [toStopping_run hin] at ht
    cases ht

theorem bounded_moveTo {target rate : Nat} {s : State} (hs : (runView s).bounded) (hin : inSegment s.run.state = true)
    (ht : target ∈ setpointsOf (segOf s)) : (runView (moveTo target rate s)).bounded := by
  obtain ⟨hd, hseg⟩ := hs.segment hin
  have htarget := setpoint_le (hs.prog hd) hseg ht
  unfold moveTo
  split
  · exact bounded_of_same (.of_holds _ s rfl rfl id id) hs fun _ => ⟨hin, rfl⟩
  · exact ⟨hs.station, hs.programmes, (nextSetpoint_le _ _ _).trans (Nat.max_le.mpr ⟨hs.cmd, htarget⟩), hs.segment⟩

theorem stepBounded_of_stepMove {s t : State} (h : StepMove s t) (hs : stepBounded s) : stepBounded t := by
  cases h with
  | kept h =>
    have hprog : progOf t = progOf s := congrArg RunView.prog h.view
    exact ⟨h.view ▸ hs.bounded, by rw [hprog]; exact hs.defined⟩
  | entered i hi =>
    refine stepBounded_enterSegment hs ?_
    rcases hi with hi | ⟨rfl, hin⟩
    · exact hi
    · exact (hs.bounded.segment hin).2
  | stopped why => exact ⟨bounded_toStopping why hs.bounded, by simpa [progOf] using hs.defined⟩
  | moved target rate hin _ ht => exact ⟨bounded_moveTo hs.bounded hin ht, by simpa [progOf] using hs.defined⟩

theorem stepBounded_of_stepMoves {s t : State} (h : StepMoves s t) (hs : stepBounded s) : stepBounded t := by
  induction h with
  | refl => exact hs
  | tail _ hm ih => exact stepBounded_of_stepMove hm ih

theorem settleHolds_seg (r : Run) : (settleHolds r).seg = r.seg := by
  obtain ⟨st, h, -⟩ := settleHolds_eq r
  rw [h]

theorem Slowed.postSpeed (s : State) : Slowed s (postSpeed s) :=
  ⟨Nat.le_refl _, fun h => ⟨h.posted, h.reversal, h.quiet⟩, fun _ => spoken_postSpeed s, rfl, rfl, rfl⟩

theorem bounded_stepEnded {s : State} (hs : (runView s).bounded) :
    (runView (postSpeed (withRun settleHolds (countYield s)))).bounded := by
  have hslowed := ((Slowed.countYield s).trans (.settleHolds _)).trans (.postSpeed _)
  obtain ⟨hstate, hseg⟩ := countYield_state s
  refine bounded_of_same hslowed hs fun ht => ⟨?_, (settleHolds_seg _).trans hseg⟩
  have hcounted : inSegment (countYield s).run.state = true := (inSegment_settleHolds _).symm.trans ht
  rwa [hstate] at hcounted

theorem bounded_rampStep {s : State} (hs : (runView s).bounded) : (runView (rampStep s)).bounded := by
  rcases runState_cases s.run.state with hst | hin | hst
  · rw [rampStep_rest hst]
    exact hs
  · obtain ⟨u, hu, h⟩ := rampStep_moves_of_active hin
    obtain ⟨-, hseg, -⟩ := updateHolds_begun_state s
    have hprog : progOf (updateHolds (beginStep s)) = progOf s := by simp [progOf]
    have hbegun : stepBounded (updateHolds (beginStep s)) :=
      ⟨bounded_of_same (.begun s) hs fun _ => ⟨hin, hseg⟩, by rw [hprog]; exact (hs.segment hin).1⟩
    rw [h]
    exact bounded_stepEnded (stepBounded_of_stepMoves hu hbegun).bounded
  · by_cases hstill : s.run.cmd = 0 ∧ s.run.measured = 0
    · have hcomplete : (runView (runComplete (completing s))).bounded := ⟨hs.station, hs.programmes, hs.cmd, nofun⟩
      rw [rampStep_complete hst hstill.1 hstill.2, ((RunKept.jobEnded _).trans (.armAtComplete _)).view]
      exact hcomplete
    · rw [rampStep_falling hst (by omega)]
      exact ⟨hs.station, hs.programmes, (Nat.sub_le _ _).trans hs.cmd, hs.segment⟩

/-! ## A START, and the configuration loaded (R4, R193) -/

theorem bounded_startCycle {programme : Nat} (serial stamp : List Byte) {s : State} (hs : (runView s).bounded)
    (hd : (s.cfg.programmes.getD programme programmeZero).definedFlag = true) :
    (runView (startCycle programme serial stamp s)).bounded := by
  have hview := runView_startReady programme serial stamp s
  have hready : stepBounded (startReady programme serial stamp s) := by
    refine ⟨?_, (congrArg (fun v => v.prog.definedFlag) hview).trans hd⟩
    rw [hview]
    exact ⟨hs.station, hs.programmes, Nat.zero_le _, nofun⟩
  rw [runView_startCycle]
  exact (stepBounded_enterSegment hready (segCount_pos (hready.bounded.prog hready.defined))).bounded

/-- The configuration of an image is in its ranges, and so is that of a FAILED load (R193, R194). -/
theorem cfgOfImage_inRange (number : Nat) (image : List Byte) : stationInRange (cfgOfImage number image).station
    ∧ ∀ p ∈ (cfgOfImage number image).programmes, p.definedFlag = true →
      programmeInRange (cfgOfImage number image).station.speedLimit p := by
  unfold cfgOfImage
  split
  · obtain ⟨hstation, -, hprogrammes⟩ := loadedImageIsInRange number image
    exact ⟨hstation, hprogrammes⟩
  · exact configLaw_reset

theorem runListening_seg (k : SegKind) (r : Run) : (runListening k r).seg = r.seg := by
  unfold runListening
  split
  · exact settleHolds_seg _
  · rfl

/-! ## Every move -/

theorem bounded_of_move {s t : State} (h : RunMove s t) (hr : restLaw s) (hs : (runView s).bounded) : (runView t).bounded := by
  cases h with
  | kept h => exact h.view ▸ hs
  | heard k =>
    exact bounded_of_same (.runListening k s) hs fun ht => ⟨(inSegment_runListening k _).symm.trans ht, runListening_seg k _⟩
  | stopped why => exact bounded_toStopping why hs
  | halted hin => exact ⟨hs.station, hs.programmes, Nat.zero_le _, hs.segment⟩
  | stepped => exact bounded_rampStep hs
  | started programme serial stamp hst hd => exact bounded_startCycle serial stamp hs hd
  | cleared h =>
    have hcmd : (runView t).cmd = 0 := congrArg Run.cmd h.run
    have hst : (runView t).state = .off := congrArg Run.state h.run
    have hconfig : configLaw t := by
      unfold configLaw
      rcases h.config with ⟨hst, hps⟩ | ⟨hst, hps⟩ <;> rw [hst, hps]
      · exact ⟨hs.station, hs.programmes⟩
      · exact configLaw_reset
    exact ⟨hconfig.1, hconfig.2, by rw [hcmd]; exact Nat.zero_le _, fun hin => by rw [hst] at hin; cases hin⟩
  | image bytes hst =>
    obtain ⟨hcmd, -, hout⟩ := at_rest hr (by rw [hst]; rfl)
    obtain ⟨hstation, hprogrammes⟩ := cfgOfImage_inRange s.cfg.number bytes
    have hstill : (runView (imageRead bytes s)).cmd = 0 := hcmd
    have hrest : inSegment (runView (imageRead bytes s)).state = false := hout
    exact ⟨hstation, hprogrammes, by rw [hstill]; exact Nat.zero_le _, fun hin => absurd (hrest.symm.trans hin) nofun⟩

/-! ## Kept by every step -/

theorem restLaw_of_speedLaw {s : State} (h : speedLaw s) : restLaw s := ⟨h.1, h.2.1⟩

theorem told_iff (s : State) : speedLaw s ∧ holdLaw s ↔ restLaw s ∧ (runView s).told := by
  constructor
  · rintro ⟨⟨hrest, hcycle, hacoustic, hdemand, hstill⟩, hheld, hposted, hreversal, hquiet⟩
    exact ⟨⟨hrest, hcycle⟩, ⟨hacoustic, hdemand, hstill⟩, hheld, hposted, hreversal, hquiet⟩
  · rintro ⟨⟨hrest, hcycle⟩, ⟨hacoustic, hdemand, hstill⟩, hheld, hposted, hreversal, hquiet⟩
    exact ⟨⟨hrest, hcycle, hacoustic, hdemand, hstill⟩, hheld, hposted, hreversal, hquiet⟩

/-- What every move keeps with RUN's rest, every step keeps with it. -/
theorem step_keeps_run {Q : RunView → Prop} (hmove : ∀ {u v}, RunMove u v → restLaw u → Q (runView u) → Q (runView v))
    {s t : State} (hb : bootLaw s) (hr : restLaw s) (hq : Q (runView s)) (h : step s = .next t) : restLaw t ∧ Q (runView t) :=
  RunMoves.step_keeps (P := fun u => restLaw u ∧ Q (runView u)) (fun hm hp => ⟨restLaw_of_move hm hp.1, hmove hm hp.1 hp.2⟩)
    (fun hp => ⟨⟨hp.1.rest, hp.1.cycle⟩, hp.2⟩) hb ⟨hr, hq⟩ h

/-- Settles O56: RUN's rest, what it posts and holds, and its bound, move by move. -/
theorem stepsKeepTheSpeedAndHolds : Obligations.StepsKeepTheSpeedAndHolds := by
  refine ⟨fun s t hb hspeed hhold h => ?_, fun s t hb hspeed hconfig hbound h => ?_⟩
  · obtain ⟨hr, htold⟩ := (told_iff s).mp ⟨hspeed, hhold⟩
    exact (told_iff t).mpr (step_keeps_run told_of_move hb hr htold h)
  · have hbounded := (bounded_iff s).mp ⟨hconfig, hbound⟩
    exact (bounded_iff t).mpr (step_keeps_run bounded_of_move hb (restLaw_of_speedLaw hspeed) hbounded h).2

end Sys2Proof.Machine
end

section
/-! SUPPORT. What LSN posts and holds of a listen segment, with VIB's state, as one of four stands; STORE, CYC, LEAK and the line
leave it (O57). -/
namespace Sys2Proof.Machine

/-! ## What the law of the listen states speaks of -/

/-- What LSN posts and holds of a listen segment, and VIB's state. -/
structure ListenView where
  listen : Listen
  listenAge : Nat
  state : LsnState
  claimAge : Nat
  settle : Nat
  vib : VibState

/-- LSN's part of a state, with VIB's state. -/
def listenView (s : State) : ListenView where
  listen := s.peer.posting.listen
  listenAge := s.peer.posting.listenAge
  state := s.lsn.state
  claimAge := s.lsn.claimAge
  settle := s.lsn.settle
  vib := s.vib.state

namespace ListenView

/-- LSN in NONE, and VIB in IDLE. -/
def rest : ListenView := ⟨.unclaimed, 0, .inactive, 0, 0, .idle⟩

/-- The stands of LSN and VIB between events, by the listen states (R66, R69, R80). -/
inductive Lawful : ListenView → Prop
  | inactive : Lawful rest
  | deferring {age : Nat} (h : age ≤ 255) : Lawful ⟨.unclaimed, age, .deferring, age, 0, .idle⟩
  | claiming {age settle : Nat} (h : age ≤ 255) (h1 : 1 ≤ settle) (h2 : settle ≤ 2) :
      Lawful ⟨.claim, age, .claiming, age, settle, .idle⟩
  | listening {age : Nat} (h : age ≤ 255) : Lawful ⟨.listen, age, .listening, age, 0, .sampling⟩

theorem Lawful.rest_of_inactive {v : ListenView} (h : v.Lawful) (hst : v.state = .inactive) : v = rest := by
  cases h with
  | inactive => rfl
  | deferring | claiming | listening => cases hst

/-- VIB is at rest unless LSN listens. -/
theorem Lawful.idle {v : ListenView} (h : v.Lawful) (hst : v.state ≠ .listening) : v.vib = .idle := by
  cases h with
  | inactive | deferring | claiming => rfl
  | listening => exact absurd rfl hst

end ListenView

/-- The law of the listen states says that LSN and VIB are in one of the four stands. -/
theorem listenLaw_iff (s : State) : listenLaw s ↔ (listenView s).Lawful := by
  constructor
  · rintro ⟨hlisten, hage, hbound, hnone, hclaim, hsettle, hvib, hhold⟩
    have hidle (h : s.lsn.state ≠ .listening) : s.vib.state = .idle := by
      cases hv : s.vib.state with
      | idle => rfl
      | sampling => exact absurd (hvib.mp hv) h
      | holding => exact absurd hv hhold
    rw [listenView, hlisten, hage]
    cases hst : s.lsn.state with
    | inactive =>
      rw [hnone hst, hsettle (by simp [hst]), hidle (by simp [hst])]
      exact .inactive
    | deferring =>
      rw [hsettle (by simp [hst]), hidle (by simp [hst])]
      exact .deferring hbound
    | claiming =>
      obtain ⟨h1, h2⟩ := hclaim hst
      rw [hidle (by simp [hst])]
      exact .claiming hbound h1 h2
    | listening =>
      rw [hsettle (by simp [hst]), hvib.mpr hst]
      exact .listening hbound
  · intro h
    generalize hv : listenView s = v at h
    cases h <;> simp_all [listenView, ListenView.rest, listenLaw, listenOf]

/-! ## STORE and CYC post nothing of it -/

@[simp] theorem commitEnded_listen (s : State) : (commitEnded s).peer.posting.listen = s.peer.posting.listen
    ∧ (commitEnded s).peer.posting.listenAge = s.peer.posting.listenAge := by
  rcases commitEnded_cases s with ⟨-, h⟩ | ⟨-, h⟩ <;> rw [h] <;> simp

@[simp] theorem failRequest_listen (req : Request) (s : State) :
    (failRequest req s).peer.posting.listen = s.peer.posting.listen
    ∧ (failRequest req s).peer.posting.listenAge = s.peer.posting.listenAge := by
  rcases failRequest_cases req s with ⟨-, h⟩ | ⟨-, h⟩ <;> rw [h] <;> simp

@[simp] theorem beginSwap_listen (recovery : Bool) (req : Request) (s : State) :
    (beginSwap recovery req s).peer.posting.listen = s.peer.posting.listen
    ∧ (beginSwap recovery req s).peer.posting.listenAge = s.peer.posting.listenAge := by
  unfold beginSwap
  (repeat' split) <;> simp

@[simp] theorem commitRequest_listen (req : Request) (s : State) :
    (commitRequest req s).peer.posting.listen = s.peer.posting.listen
    ∧ (commitRequest req s).peer.posting.listenAge = s.peer.posting.listenAge := by
  unfold commitRequest
  (repeat' split) <;> simp

@[simp] theorem failPending_listen (s : State) : (failPending s).peer.posting.listen = s.peer.posting.listen
    ∧ (failPending s).peer.posting.listenAge = s.peer.posting.listenAge := by
  unfold failPending
  split <;> simp

@[simp] theorem nextSwap_listen (s : State) : (nextSwap s).peer.posting.listen = s.peer.posting.listen
    ∧ (nextSwap s).peer.posting.listenAge = s.peer.posting.listenAge := by
  unfold nextSwap
  (repeat' split) <;> simp

@[simp] theorem requestDone_listen (req : Request) (s : State) :
    (requestDone req s).peer.posting.listen = s.peer.posting.listen
    ∧ (requestDone req s).peer.posting.listenAge = s.peer.posting.listenAge := by
  unfold requestDone
  (repeat' split) <;> simp

@[simp] theorem endSwap_listen (w : Swap) (s : State) : (endSwap w s).peer.posting.listen = s.peer.posting.listen
    ∧ (endSwap w s).peer.posting.listenAge = s.peer.posting.listenAge := by
  unfold endSwap
  dsimp only
  split <;> simp

@[simp] theorem verifyFailure_listen (w : Swap) (s : State) :
    (verifyFailure w s).peer.posting.listen = s.peer.posting.listen
    ∧ (verifyFailure w s).peer.posting.listenAge = s.peer.posting.listenAge := by
  unfold verifyFailure
  dsimp only
  (repeat' split) <;> simp

@[simp] theorem scanDone_listen (s : State) : (scanDone s).peer.posting.listen = s.peer.posting.listen
    ∧ (scanDone s).peer.posting.listenAge = s.peer.posting.listenAge := by
  unfold scanDone
  dsimp only
  (repeat' split) <;> simp

@[simp] theorem heldSwap_listen (s : State) : (heldSwap s).peer.posting.listen = s.peer.posting.listen
    ∧ (heldSwap s).peer.posting.listenAge = s.peer.posting.listenAge := by
  unfold heldSwap
  split <;> simp

@[simp] theorem handOver_listen (kind : CommitKind) (s : State) :
    (handOver kind s).peer.posting.listen = s.peer.posting.listen
    ∧ (handOver kind s).peer.posting.listenAge = s.peer.posting.listenAge := by
  unfold handOver
  split <;> simp

@[simp] theorem checkpoint_listen (s : State) : (checkpoint s).peer.posting.listen = s.peer.posting.listen
    ∧ (checkpoint s).peer.posting.listenAge = s.peer.posting.listenAge := by
  unfold checkpoint
  split <;> simp

@[simp] theorem closeCycle_listen (s : State) : (closeCycle s).peer.posting.listen = s.peer.posting.listen
    ∧ (closeCycle s).peer.posting.listenAge = s.peer.posting.listenAge := by
  simp [closeCycle]

@[simp] theorem jobEnded_listen (s : State) : (jobEnded s).peer.posting.listen = s.peer.posting.listen
    ∧ (jobEnded s).peer.posting.listenAge = s.peer.posting.listenAge := by
  unfold jobEnded
  (repeat' split) <;> simp

@[simp] theorem closeIfAtRest_listen (s : State) : (closeIfAtRest s).peer.posting.listen = s.peer.posting.listen
    ∧ (closeIfAtRest s).peer.posting.listenAge = s.peer.posting.listenAge := by
  unfold closeIfAtRest
  split <;> simp

@[simp] theorem ventExpired_listen (c : CircuitId) (s : State) :
    (ventExpired c s).peer.posting.listen = s.peer.posting.listen
    ∧ (ventExpired c s).peer.posting.listenAge = s.peer.posting.listenAge := by
  unfold ventExpired
  split <;> simp

@[simp] theorem leaveDone_listen (s : State) : (leaveDone s).peer.posting.listen = s.peer.posting.listen
    ∧ (leaveDone s).peer.posting.listenAge = s.peer.posting.listenAge := by
  unfold leaveDone
  split <;> simp

@[simp] theorem complete_listen (s : State) : (complete s).peer.posting.listen = s.peer.posting.listen
    ∧ (complete s).peer.posting.listenAge = s.peer.posting.listenAge := by
  simp [complete_eq, runComplete]

@[simp] theorem stoppingStep_listen (s : State) : (stoppingStep s).peer.posting.listen = s.peer.posting.listen
    ∧ (stoppingStep s).peer.posting.listenAge = s.peer.posting.listenAge := by
  unfold stoppingStep
  split <;> simp

/-! ## VIB's state through its revolutions -/

@[simp] theorem judgeRev_state (e : Nat) (p : Programme) (r : Rev) (period : Nat) (v : Vib) :
    (judgeRev e p r period v).state = v.state := by
  unfold judgeRev
  dsimp only
  (repeat' split) <;> rfl

@[simp] theorem countPulse_state (r : Rev) (v : Vib) : (countPulse r v).state = v.state := by
  unfold countPulse
  split <;> rfl

@[simp] theorem convDone_state (e : Nat) (p : Programme) (c : Conv) (code : Nat) (v : Vib) :
    (convDone e p c code v).state = v.state := by
  unfold convDone
  (repeat' split) <;> simp

@[simp] theorem vibIndex_state (e : Nat) (p : Programme) (contamination : Bool) (us : Nat) (v : Vib) :
    (vibIndex e p contamination us v).state = v.state := by
  have hclose : (closeRev e p us v).state = v.state := by
    unfold closeRev
    (repeat' split) <;> simp
  unfold vibIndex
  split
  · exact hclose
  · rfl

@[simp] theorem vibContaminated_state (v : Vib) : (vibContaminated v).state = v.state := by
  unfold vibContaminated
  split <;> rfl

@[simp] theorem deriveContamination_vibState (s : State) : (deriveContamination s).vib.state = s.vib.state := by
  unfold deriveContamination
  dsimp only
  split <;> simp

end Sys2Proof.Machine
end

section
/-! SUPPORT. The law of the listen states through the operations of LSN, RUN, CYC and the reset logic (O57). -/
namespace Sys2Proof.Machine

/-! ## LSN's moves, as its part shows them (R65 to R72) -/

namespace ListenView.Lawful

theorem of_deferring {v : ListenView} (h : v.Lawful) (hst : v.state = .deferring) :
    ∃ age, age ≤ 255 ∧ v = ⟨.unclaimed, age, .deferring, age, 0, .idle⟩ := by
  cases h with
  | deferring h => exact ⟨_, h, rfl⟩
  | inactive | claiming | listening => cases hst

theorem of_claiming {v : ListenView} (h : v.Lawful) (hst : v.state = .claiming) :
    ∃ age settle, age ≤ 255 ∧ 1 ≤ settle ∧ settle ≤ 2 ∧ v = ⟨.claim, age, .claiming, age, settle, .idle⟩ := by
  cases h with
  | claiming h h1 h2 => exact ⟨_, _, h, h1, h2, rfl⟩
  | inactive | deferring | listening => cases hst

theorem of_listening {v : ListenView} (h : v.Lawful) (hst : v.state = .listening) :
    ∃ age, age ≤ 255 ∧ v = ⟨.listen, age, .listening, age, 0, .sampling⟩ := by
  cases h with
  | listening h => exact ⟨_, h, rfl⟩
  | inactive | deferring | claiming => cases hst

end ListenView.Lawful

theorem listenView_enterClaiming (s : State) :
    listenView (enterClaiming s) = { listenView s with listen := .claim, state := .claiming, settle := 2 } := rfl

theorem listenView_enterDeferring (s : State) :
    listenView (enterDeferring s) = { listenView s with listen := .unclaimed, state := .deferring } := rfl

theorem listenView_enterListening (s : State) :
    listenView (enterListening s) = { listenView s with listen := .listen, state := .listening, vib := .sampling } := rfl

/-- LSN as a listen segment opens: its age, deferral time and forced mark at their start (R65). -/
def listenOpened (s : State) : State :=
  postListenAge (withLsn (fun l => { l with claimAge := 0, deferralMs := 0, forced := false }) s)

theorem lsnBegin_opened {s : State} (h : s.lsn.state = .inactive) : lsnBegin s = if neighbourClaims (listenOpened s) then
    enterDeferring (listenOpened s) else enterClaiming (listenOpened s) := if_pos h

theorem listenView_listenOpened (s : State) :
    listenView (listenOpened s) = { listenView s with listenAge := 0, claimAge := 0 } := rfl

theorem listenView_listenAged (s : State) : listenView (listenAged s)
    = { listenView s with listenAge := bump 255 s.lsn.claimAge, claimAge := bump 255 s.lsn.claimAge } := rfl

theorem listenView_listenSettled (s : State) :
    listenView (listenSettled s) = { listenView (listenAged s) with settle := s.lsn.settle - 1 } := rfl

theorem listenView_leaveListening (s : State) :
    listenView (leaveListening s) = { ListenView.rest with vib := (leaveListening s).vib.state } := rfl

/-- From one state to the next the law of the listen states is kept. -/
def ListenKept (s t : State) : Prop := (listenView s).Lawful → (listenView t).Lawful

namespace ListenKept

theorem refl (s : State) : ListenKept s s := id

theorem trans {s t u : State} (h : ListenKept s t) (h' : ListenKept t u) : ListenKept s u := fun hs => h' (h hs)

theorem of_view {s t : State} (h : listenView t = listenView s) : ListenKept s t := fun hs => h ▸ hs

theorem of_rest {s t : State} (h : listenView t = .rest) : ListenKept s t := fun _ => h ▸ .inactive

/-- What precedes has left LSN's part. -/
theorem after {s t u : State} (h : ListenKept u t) (hu : listenView u = listenView s) : ListenKept s t := (of_view hu).trans h

/-! ## LSN's operations -/

/-- A listen segment begins in DEFERRING or CLAIMING, at age 0 (R65). -/
theorem lsnBegin (s : State) : ListenKept s (lsnBegin s) := by
  intro hs
  by_cases hst : s.lsn.state = .inactive
  · rw [lsnBegin_opened hst]
    split
    · rw [listenView_enterDeferring, listenView_listenOpened, hs.rest_of_inactive hst]
      exact .deferring (Nat.zero_le _)
    · rw [listenView_enterClaiming, listenView_listenOpened, hs.rest_of_inactive hst]
      exact .claiming (Nat.zero_le _) (by decide) (by decide)
  · rwa [Machine.lsnBegin, if_neg hst]

/-- LSN's part of an own posting-period expiry, state by state (R66 to R70). -/
theorem lsnExpiry (s : State) : ListenKept s (lsnExpiry s) := by
  intro hs
  have hage : bump 255 s.lsn.claimAge ≤ 255 := Nat.min_le_right _ _
  cases hst : s.lsn.state with
  | inactive => rwa [lsnExpiry_inactive hst]
  | deferring =>
    obtain ⟨age, -, hv⟩ := hs.of_deferring hst
    rw [lsnExpiry_deferring hst]
    split
    · rw [listenView_listenAged, hv]
      exact .deferring hage
    · rw [listenView_enterClaiming, listenView_listenAged, hv]
      exact .claiming hage (by decide) (by decide)
  | claiming =>
    obtain ⟨age, settle, -, h1, h2, hv⟩ := hs.of_claiming hst
    have hsettle : s.lsn.settle = settle := congrArg ListenView.settle hv
    rw [lsnExpiry_claiming hst]
    split
    next h0 =>
      split
      · rw [listenView_enterDeferring, listenView_listenSettled, listenView_listenAged, hv, h0]
        exact .deferring hage
      · rw [listenView_enterListening, listenView_listenSettled, listenView_listenAged, hv, h0]
        exact .listening hage
    · rw [listenView_listenSettled, listenView_listenAged, hv]
      exact .claiming hage (by omega) (by omega)
  | listening =>
    obtain ⟨age, -, hv⟩ := hs.of_listening hst
    rw [lsnExpiry_listening hst, listenView_listenAged, hv]
    exact .listening hage

/-- The deferral limit takes DEFERRING to LISTENING (R73). -/
theorem forceListening (s : State) : ListenKept s (forceListening s) := by
  intro hs
  unfold Machine.forceListening
  split
  next hst =>
    obtain ⟨age, hage, hv⟩ := hs.of_deferring hst
    rw [listenView_enterListening, show listenView (withLsn _ s) = listenView s from rfl, hv]
    exact .listening hage
  · exact hs

/-- A sweep abandoned leaves LSN and VIB at rest (R76, R96). -/
theorem abandonSweep (s : State) : ListenKept s (abandonSweep s) := by
  intro hs
  have hidle : listenView (Machine.abandonSweep s) = { listenView (lsnAbandon s) with vib := .idle } := by
    rw [← (abandonSweep_idle s).1]
    rfl
  rw [hidle, lsnAbandon]
  split
  next hst =>
    rw [hs.rest_of_inactive hst]
    exact .inactive
  · rw [listenView_leaveListening]
    exact .inactive

/-- Once VIB has made its assessment, RUN's report of the sweep's end leaves LSN and VIB lawful (R72, R91). -/
theorem lsnSweepEnded_assessed {s : State} (hs : (listenView s).Lawful) :
    ({ listenView (lsnSweepEnded s) with vib := .idle } : ListenView).Lawful := by
  unfold lsnSweepEnded
  split
  · rw [listenView_leaveListening]
    exact .inactive
  next hst =>
    have hidle : (listenView s).vib = .idle := hs.idle hst
    rwa [← hidle]

theorem noiseHanded_view (s : State) : listenView (noiseHanded s) = { listenView s with vib := .idle } := by
  obtain ⟨v, d, hv, h⟩ := noiseHanded_eq s
  rw [h, ← hv]
  rfl

/-! ## RUN's operations -/

theorem withRun (f : Run → Run) (s : State) : ListenKept s (withRun f s) := of_view rfl

theorem checkpoint (s : State) : ListenKept s (checkpoint s) := of_view (by simp [listenView])

theorem beginSweep (s : State) : ListenKept s (beginSweep s) := by
  unfold Machine.beginSweep
  split
  · exact (lsnBegin _).after (by simp [listenView])
  · exact refl s

theorem enterSegment (i : Nat) (s : State) : ListenKept s (enterSegment i s) := by
  unfold Machine.enterSegment
  refine trans ((beginSweep _).after ?_) (withRun settleHolds _)
  simp [listenView]

theorem toStopping (why : EndReason) (s : State) : ListenKept s (toStopping why s) := by
  unfold Machine.toStopping
  split
  · exact (abandonSweep _).after rfl
  · exact refl s

theorem runDeviation (c : DevClass) (measured limit : Nat) (s : State) : ListenKept s (runDeviation c measured limit s) := by
  have htold : ListenKept s (takeDev ⟨c, s.run.seg, measured, limit⟩ s) := of_view (by simp [listenView])
  unfold Machine.runDeviation
  dsimp only
  split
  · exact htold.trans (toStopping _ _)
  · exact htold

theorem segmentEnd (s : State) : ListenKept s (segmentEnd s) := by
  have hcounted : ListenKept s (segmentCounted s) := of_view rfl
  rw [segmentEnd_eq]
  split
  · exact hcounted.trans (enterSegment _ _)
  · exact hcounted.trans (toStopping _ _)

theorem moveStep (target rate : Nat) (s : State) : ListenKept s (moveStep target rate s) := by
  have hmoved : ListenKept s (moveTo target rate (clearTrack s)) := of_view (by simp [listenView])
  unfold Machine.moveStep
  dsimp only
  split
  · exact hmoved.trans (segmentEnd _)
  · exact hmoved

theorem trackDwell (s : State) : ListenKept s (trackDwell s) := by
  by_cases h : trackTrips s
  · rw [trackDwell_trips h]
    exact (runDeviation _ _ _ _).after rfl
  · rw [trackDwell_still h]
    exact of_view rfl

theorem dwellStep (g : Segment) (s : State) : ListenKept s (dwellStep g s) := by
  have htracked : ListenKept s (Machine.trackDwell (Machine.withRun (fun r => { r with dwellMs := r.dwellMs + 20 }) s)) :=
    (trackDwell _).after rfl
  unfold Machine.dwellStep
  dsimp only
  split
  · exact htracked.trans (segmentEnd _)
  · exact htracked

theorem takeOutcome (again : Bool) (s : State) : ListenKept s (takeOutcome again s) := by
  unfold Machine.takeOutcome
  split
  · exact enterSegment _ s
  · exact segmentEnd s

/-- A sweep's end takes LSN to NONE and VIB, by way of its assessment, to IDLE (R72, R91). -/
theorem sweepEnd (s : State) : ListenKept s (sweepEnd s) := by
  intro hs
  have htold := lsnSweepEnded_assessed (s := setStage .assessing s) hs
  unfold Machine.sweepEnd
  by_cases hv : (lsnSweepEnded (setStage .assessing s)).vib.state = .idle
  · rw [assessSweep, if_pos hv]
    rwa [← hv] at htold
  · rw [assessSweep_eq hv]
    rw [← noiseHanded_view] at htold
    exact trans (takeOutcome _ _) (checkpoint _) htold

theorem sweepStep (g : Segment) (s : State) : ListenKept s (sweepStep g s) := by
  have hmoved (target : Nat) : ListenKept s (moveTo target g.rate s) := of_view (by simp [listenView])
  unfold Machine.sweepStep
  split
  · dsimp only
    split
    · exact (hmoved _).trans (of_view rfl)
    · exact hmoved _
  · dsimp only
    split
    · exact (hmoved _).trans (sweepEnd _)
    · exact hmoved _
  · exact refl s
  · exact refl s

theorem actStep (s : State) : ListenKept s (actStep s) := by
  unfold Machine.actStep
  split
  · exact moveStep _ _ s
  · exact moveStep _ _ s
  · split
    · exact dwellStep _ s
    · exact of_view (by simp [listenView])
  · exact (sweepStep _ _).after rfl

/-- The end of every step in a segment: the counts of power and yield, and what is posted of the speed (R45). -/
theorem stepEnded (s : State) : ListenKept s (stepEnded s) := by
  have hcounted : ListenKept s (countPower s) := by
    unfold countPower
    dsimp only
    split
    · split
      · exact (runDeviation _ _ _ _).after rfl
      · exact of_view rfl
    · exact refl s
  exact hcounted.trans (of_view (by simp [Machine.stepEnded, listenView]))

theorem activeStep (s : State) : ListenKept s (activeStep s) := by
  have hheld : ListenKept s (updateHolds s) := of_view (by simp [listenView])
  unfold Machine.activeStep
  refine trans ?_ (stepEnded _)
  split
  · exact hheld.trans (actStep _)
  · exact hheld.trans (of_view rfl)

theorem rampStep (s : State) : ListenKept s (rampStep s) := by
  have hbegun : ListenKept s (beginStep s) := of_view rfl
  unfold Machine.rampStep
  split
  · exact hbegun.trans (activeStep _)
  · exact hbegun.trans (activeStep _)
  · exact hbegun.trans (of_view (by simp [listenView]))
  · exact refl s
  · exact refl s

end ListenKept

end Sys2Proof.Machine
end

section
/-! SUPPORT. The law of the listen states kept by every step (O57). -/
namespace Sys2Proof.Machine

namespace ListenKept

/-! ## RUN's stops and samples (R56 to R60) -/

theorem stopForAbort (s : State) : ListenKept s (stopForAbort s) :=
  (toStopping .abort _).after (by simp [listenView])

theorem stopAtOnce (s : State) : ListenKept s (stopAtOnce s) := by
  unfold Machine.stopAtOnce
  split
  · exact trans ((toStopping .standStop _).after (by simp [listenView])) (of_view rfl)
  · exact refl s

theorem driveLost (s : State) : ListenKept s (driveLost s) := by
  have htold : listenView (driveLossTold s) = listenView s := by simp [driveLossTold, listenView]
  cases hin : inSegment s.run.state with
  | false => rw [driveLost_other hin]; exact refl s
  | true =>
    rw [driveLost_segment hin]
    split
    · exact of_view htold
    · exact (toStopping _ _).after htold

theorem takeTorq (code : Nat) (s : State) : ListenKept s (takeTorq code s) := by
  rw [takeTorq_eq]
  split
  · exact (runDeviation _ _ _ _).after rfl
  · exact withRun _ s

theorem takeOilt (code : Nat) (s : State) : ListenKept s (takeOilt code s) := by
  rw [takeOilt_eq]
  split
  · exact (runDeviation _ _ _ _).after rfl
  · exact withRun _ s

theorem appendOil (s : State) : ListenKept s (appendOil s) := by
  have hjudged (u : State) : ListenKept u (judgeOilRise u) := by
    unfold judgeOilRise
    split
    · split
      · exact (runDeviation _ _ _ _).after rfl
      · exact refl u
    · exact refl u
  unfold Machine.appendOil
  split
  · exact (hjudged _).after rfl
  · exact refl s

theorem slowDone (code : Nat) (s : State) : ListenKept s (slowDone code s) := by
  cases hf : s.sca.inFlight with
  | none => rw [slowDone_idle _ hf]; exact refl s
  | some ch =>
    rw [slowDone_eq _ hf]
    refine after (u := slowWritten ch code s) ?_ rfl
    cases ch with
    | torq => exact takeTorq _ _
    | oilt => exact takeOilt _ _
    | prs1 | airt1 | prs2 | airt2 => exact of_view (by simp [deliverSample, listenView])

/-! ## CYC's aborts, and a START (R4, R12 to R17) -/

theorem abortCycle (e : DevEvent) {stop : State → State} (s : State) (hstop : ∀ u, ListenKept u (stop u)) :
    ListenKept s (abortCycle e stop s) := by
  have hstopped := (hstop _).after (s := s) (u := takeDev e s) (by simp [listenView])
  rw [abortCycle_eq]
  refine trans (hstopped.trans (abandonSweep _)) (of_view ?_)
  simp [aborting, listenView]

theorem standAbort (input : Nat) (s : State) : ListenKept s (standAbort input s) := by
  unfold Machine.standAbort
  split
  · exact abortCycle _ s stopAtOnce
  · exact (stopAtOnce _).after (by simp [listenView])
  · exact refl s

theorem axleFall (which : AxleInput) (s : State) : ListenKept s (axleFall which s) := by
  unfold Machine.axleFall
  split
  · split
    · exact of_view (by simp [listenView])
    · exact standAbort _ s
  · exact standAbort _ s

/-- A START clears LSN's totals and VIB's counts, and enters segment 0 (R4, R76, R97). -/
theorem startCycle (programme : Nat) (serial stamp : List Byte) (s : State) :
    ListenKept s (startCycle programme serial stamp s) := by
  have hready : ListenKept s (startReady programme serial stamp s) :=
    (appendOil _).after (by simp [listenView, vibStart])
  rw [startCycle_eq]
  refine trans (hready.trans (enterSegment 0 _)) (of_view ?_)
  simp [listenView]

/-! ## Resets (R79, R100) -/

theorem beginStarting (s : State) : ListenKept s (beginStarting s) := of_view (by simp [listenView])

theorem takeRestart (s : State) : ListenKept s (takeRestart s) := by
  have hblocks : ListenKept s (resetBlocks .restart s.sca.active true s) := of_rest rfl
  exact (hblocks.trans (beginStarting _)).trans (of_view rfl)

theorem holdReset (k : HardReset) (s : State) : ListenKept s (holdReset k s) := by
  unfold Machine.holdReset
  split
  · exact refl s
  · exact of_rest rfl

theorem releaseReset (straps : BitVec 4) (low : Bool) (s : State) : ListenKept s (releaseReset straps low s) :=
  of_view (by simp [listenView])

theorem imageRead (image : List Byte) (s : State) : ListenKept s (imageRead image s) := by
  unfold Machine.imageRead
  exact of_view (by simp [listenView])

/-! ## Orders and postings (R28, R180) -/

theorem queueReply (r : Reply) (s : State) : ListenKept s (queueReply r s) := of_view rfl

theorem ownAbort (broadcast : Bool) (s : State) : ListenKept s (ownAbort broadcast s) := by
  have htaken (b : Bool) : ListenKept s (abortTaken b s) := by
    unfold abortTaken
    split
    · exact abortCycle _ s stopForAbort
    · exact refl s
  unfold Machine.ownAbort
  split
  · exact htaken true
  · split
    · exact queueReply _ s
    · exact (htaken false).trans (queueReply _ _)

theorem ownStart (body : List Byte) (s : State) : ListenKept s (ownStart body s) := by
  unfold Machine.ownStart
  split
  · exact queueReply _ s
  · exact (startCycle _ _ _ s).trans (queueReply _ _)

theorem ownRestart (broadcast : Bool) (s : State) : ListenKept s (ownRestart broadcast s) := by
  unfold Machine.ownRestart
  split
  · split <;> exact of_view rfl
  · split
    · exact takeRestart s
    · exact of_view rfl

theorem ownOrder (broadcast : Bool) (order : Byte) (body : List Byte) (s : State) :
    ListenKept s (ownOrder broadcast order body s) := by
  unfold Machine.ownOrder
  split
  · exact ownAbort _ s
  split
  · exact of_view (by simp [listenView])
  split
  · exact of_view rfl
  split
  · exact of_view (by simp [listenView])
  split
  · exact of_view (by simp [listenView])
  split
  · exact of_view (by simp [listenView])
  split
  · exact ownRestart _ s
  · exact ownStart _ s

theorem takeOrder (dest : Byte) (payload : List Byte) (s : State) : ListenKept s (takeOrder dest payload s) := by
  unfold Machine.takeOrder
  split
  · split <;> exact of_view rfl
  · unfold judgeOrder
    split
    · exact of_view rfl
    split
    · exact of_view rfl
    split
    · exact of_view rfl
    split
    · split <;> exact of_view rfl
    · exact ownOrder _ _ _ s

theorem takeFullPosting (own : Bool) (source : Nat) (payload : List Byte) (s : State) :
    ListenKept s (takeFullPosting own source payload s) := by
  unfold Machine.takeFullPosting
  (repeat' split) <;> exact of_view (by simp [listenView, enterPosting])

theorem drain (n : Nat) (s : State) : ListenKept s (drain n s) := by
  induction n generalizing s with
  | zero => exact refl s
  | succ n ih =>
    have hpop : ListenKept s (popBuffer s) := of_view rfl
    unfold Machine.drain
    split
    · exact refl s
    · exact (ih _).after (by simp [listenView])
    · split
      · split
        · exact (hpop.trans (takeOrder _ _ _)).trans (ih _)
        · exact refl s
      · exact (hpop.trans (takeFullPosting _ _ _ _)).trans (ih _)

theorem receive (f : Frame) (own : Bool) (s : State) : ListenKept s (receive f own s) := by
  unfold Machine.receive
  split
  · split
    · exact of_view rfl
    · exact (drain _ _).after rfl
  · exact refl s

theorem serveRead (s : State) : ListenKept s (serveRead s) := by
  cases hd : s.lif.decoder with
  | free => unfold Machine.serveRead; rw [hd]; exact refl s
  | restarting => unfold Machine.serveRead; rw [hd]; exact refl s
  | reading r =>
    obtain ⟨answer, h⟩ := serveRead_reading hd
    rw [h, readServed]
    split
    · exact of_view rfl
    · exact (drain _ _).after rfl

theorem frameEnded (s : State) : ListenKept s (frameEnded s) := by
  unfold Machine.frameEnded
  split
  · split
    · split
      · exact (receive _ _ _).after rfl
      · exact of_view rfl
    · exact of_view rfl
  · exact refl s

theorem sent (s : State) : ListenKept s (sent s) := by
  have hagain (u : State) : ListenKept u (chooseAgain u) := of_view (by simp [listenView])
  unfold Machine.sent
  split
  · split
    · unfold replySent
      split
      · split
        · exact (takeRestart _).after rfl
        · exact (hagain _).after rfl
      · exact hagain s
    · exact (hagain _).after rfl
    · exact (hagain _).after rfl
    · exact hagain s
  · exact refl s

/-! ## The own posting-period expiry (R66) -/

theorem periodExpiry (a b : Bool) (s : State) : ListenKept s (periodExpiry a b s) := by
  have hdue : ListenKept s (clearDuplicate (periodDue s)) := of_view (by simp [listenView, periodDue])
  have hage (u : State) : ListenKept u (agePeers u) := of_view (by simp [listenView, agePeers])
  have hleak (u : State) : ListenKept u (leakExpiry u) := of_view (by simp [listenView, leakExpiry])
  unfold Machine.periodExpiry expiryReaders
  split
  · exact ((hdue.trans (hage _)).trans (lsnExpiry _)).trans (hleak _)
  · exact ((hdue.trans (hleak _)).trans (hage _)).trans (lsnExpiry _)
  · exact ((hdue.trans (lsnExpiry _)).trans (hage _)).trans (hleak _)
  · exact ((hdue.trans (lsnExpiry _)).trans (hleak _)).trans (hage _)

/-! ## Every command -/

theorem leaveIdle (s : State) : ListenKept s (leaveIdle s) := of_view (by simp [listenView])

/-- A command that a running station takes; one held in reset sees the input levels alone. -/
theorem ofReleased {f : State → State} {s t : State} {p : Pins} (h : whenReleased f { s with pins := p } = .next t)
    (hf : ∀ u, ListenKept u (f u)) : ListenKept s t := by
  have hpins : ListenKept s { s with pins := p } := of_view rfl
  rcases whenReleased_cases f { s with pins := p } with ⟨-, he⟩ | ⟨-, he⟩
  · obtain rfl := Host.Outcome.next.inj (he.symm.trans h)
    exact hpins
  · obtain rfl := Host.Outcome.next.inj (he.symm.trans h)
    exact (hpins.trans (hf _)).trans (leaveIdle _)

/-- The same for a meaning that leaves LSN's part. -/
theorem ofStill {f : State → State} {s t : State} {p : Pins} (h : whenReleased f { s with pins := p } = .next t)
    (hf : ∀ u, listenView (f u) = listenView u) : ListenKept s t := ofReleased h fun u => of_view (hf u)

theorem exec {c : Instr} {s t : State} (h : exec c s = .next t) : ListenKept s t := by
  cases c with
  | abort dest body => exact ofReleased (p := s.pins) h (receive _ _)
  | find dest body => exact ofReleased (p := s.pins) h (receive _ _)
  | item dest body => exact ofReleased (p := s.pins) h (receive _ _)
  | phases dest body => exact ofReleased (p := s.pins) h (receive _ _)
  | rdnew dest body => exact ofReleased (p := s.pins) h (receive _ _)
  | rdseq dest body => exact ofReleased (p := s.pins) h (receive _ _)
  | restart straps dest body => exact ofReleased h (receive _ _)
  | start lines dest body => exact ofReleased h (receive _ _)
  | storeReadServed => exact ofReleased (p := s.pins) h serveRead
  | fullPostingReceived event own source payload => exact ofReleased (p := s.pins) h (receive _ _)
  | repeatPostingReceived own station => exact ofReleased (p := s.pins) h (receive _ _)
  | frameEnd => exact ofReleased (p := s.pins) h frameEnded
  | pulseError ns => exact ofStill (p := s.pins) h fun u => by simp [listenView]
  | lineStuck =>
    unfold Machine.exec execLineStuck at h
    exact ofStill (p := s.pins) h fun u => by split <;> rfl
  | transmitAttempt => exact ofStill (p := s.pins) h fun u => by simp [listenView]
  | arbitrationWon => exact ofStill (p := s.pins) h fun u => by unfold won; (repeat' split) <;> rfl
  | arbitrationLost => exact ofStill (p := s.pins) h fun u => by simp [listenView]
  | frameSent => exact ofReleased (p := s.pins) h sent
  | restartTimeout =>
    unfold Machine.exec execRestartTimeout at h
    refine ofReleased (p := s.pins) h fun u => ?_
    split
    · exact (takeRestart _).after rfl
    · exact refl u
  | postingPeriodExpiry a b => exact ofReleased (p := s.pins) h (periodExpiry a b)
  | rampStep => exact ofReleased (p := s.pins) h rampStep
  | indexPulse us =>
    unfold Machine.exec execIndexPulse at h
    exact ofStill (p := s.pins) h fun u => by simp [listenView]
  | indexTimeout =>
    unfold Machine.exec execIndexTimeout at h
    exact ofStill (p := s.pins) h fun u => rfl
  | countingPulse =>
    unfold Machine.exec execCountingPulse at h
    exact ofStill (p := s.pins) h fun u => by split <;> simp [listenView]
  | conversionComplete code =>
    unfold Machine.exec execConversionComplete at h
    exact ofStill (p := s.pins) h fun u => by split <;> simp [listenView]
  | phaseBoundary => exact ofStill (p := s.pins) h fun u => by simp [listenView]
  | slowConversionComplete code => exact ofReleased (p := s.pins) h (slowDone _)
  | oilHistoryAppend =>
    unfold Machine.exec execOilHistoryAppend at h
    refine ofReleased (p := s.pins) h fun u => ?_
    split
    · exact appendOil u
    · exact refl u
  | deferralLimit => exact ofReleased (p := s.pins) h forceListening
  | airWaitLimit c => exact ofStill (p := s.pins) h fun u => by simp [listenView]
  | fillTimerExpiry c => exact ofStill (p := s.pins) h fun u => by simp [listenView]
  | stabiliseTimerExpiry c => exact ofStill (p := s.pins) h fun u => by simp [listenView]
  | measureTimerExpiry c => exact ofStill (p := s.pins) h fun u => by simp [listenView]
  | ventTimerExpiry c => exact ofStill (p := s.pins) h fun u => by simp [listenView]
  | swapStepDone verified =>
    unfold Machine.exec execSwapStepDone at h
    exact ofStill (p := s.pins) h fun u => by (repeat' split) <;> simp [listenView]
  | swapEnd =>
    unfold Machine.exec execSwapEnd at h
    exact ofStill (p := s.pins) h fun u => by (repeat' split) <;> simp [listenView]
  | driveReadyFall => exact ofReleased h driveLost
  | standStopOpen => exact ofReleased h (standAbort 1)
  | axleInputFall which => exact ofReleased h (axleFall which)
  | supplyWarningRaised => exact ofStill h fun u => by simp [listenView]
  | supplyWarningCleared =>
    unfold Machine.exec execSupplyWarningCleared at h
    exact ofStill h fun u => by simp [listenView]
  | reset kind =>
    obtain rfl := Host.Outcome.next.inj h
    exact holdReset kind s
  | resetRelease straps supplyLow =>
    unfold Machine.exec execResetRelease at h
    dsimp only at h
    split at h
    · obtain rfl := Host.Outcome.next.inj h
      exact (releaseReset straps supplyLow s).trans (leaveIdle _)
    · obtain rfl := Host.Outcome.next.inj h
      exact refl s
  | imageReadDone image =>
    unfold Machine.exec execImageReadDone at h
    refine ofReleased (p := s.pins) h fun u => ?_
    split
    · exact imageRead image u
    · exact refl u
  | storeScanDone =>
    unfold Machine.exec execStoreScanDone at h
    exact ofStill (p := s.pins) h fun u => by split <;> simp [listenView]
  | busIdle => exact ofStill (p := s.pins) h fun u => by simp [listenView]
  | startPulse ns => exact ofStill (p := s.pins) h fun u => by simp [listenView]
  | bitPulse ns => exact ofStill (p := s.pins) h fun u => by simp [listenView]

/-- A quarter of a millisecond moves LSN's deferral time alone. -/
theorem tick (s : State) : ListenKept s (tick s) := by
  have hlsn (limit : Nat) (l : Lsn) : (tickLsn limit l).state = l.state ∧ (tickLsn limit l).claimAge = l.claimAge
      ∧ (tickLsn limit l).settle = l.settle := by
    unfold tickLsn
    split <;> exact ⟨rfl, rfl, rfl⟩
  unfold Machine.tick
  (repeat' split) <;> exact of_view (by simp [listenView, enqueue, tickTimers, hlsn])

end ListenKept

/-- Settles O57: the four stands of LSN and VIB, through every operation. -/
theorem stepsKeepTheListenStates : Obligations.StepsKeepTheListenStates := by
  intro s t hs h
  have hkept : ListenKept s t := by
    rcases step_cases h with ⟨c, rest, -, hc⟩ | rfl
    · exact (ListenKept.exec hc).after rfl
    · exact .tick s
  exact (listenLaw_iff t).mpr (hkept ((listenLaw_iff s).mp hs))

end Sys2Proof.Machine
end

section
/-! SUPPORT. The two time limits of the waits: the forced listen, and the air-wait time (O26). -/
namespace Sys2Proof.Machine

/-! ## DEFERRAL_LIMIT (R71, R73) -/

/-- LSN DEFERRING at its limit, with the forced mark (R73). -/
def deferredOut (s : State) : State := withLsn (fun l => { l with deferralMs := deferralLimitMs s, forced := true }) s

theorem forceListening_deferring {s : State} (h : s.lsn.state = .deferring) :
    forceListening s = enterListening (deferredOut s) := if_pos h

theorem forceListening_other {s : State} (h : s.lsn.state ≠ .deferring) : forceListening s = s := if_neg h

/-- LISTENING is LSN's state, its posting, RUN's part of the report, and VIB's pass (R71). -/
theorem enterListening_eq (s : State) : enterListening s = { s with
    lsn := { s.lsn with state := .listening }
    peer := (postListen .listen s).peer
    run := runListening (segKind s) s.run
    vib := vibListening s.vib } := rfl

/-- A change of the posted listen state sets the event-posting latch (R20, R21). -/
theorem postListen_latch {l : Listen} {s : State} (h : s.peer.posting.listen ≠ l) : (postListen l s).peer.latch = true := by
  simp [postListen, eventChange, h]

/-- A deferred SWEEP leaves DEFER at the report, and waits on for whatever else holds it (R47, R67). -/
theorem runListening_lifts {r : Run} (hin : inSegment r.state = true) (hg : r.stage = .deferred) :
    (runListening .sweep r).stage = .approach ∧ (runListening .sweep r).holds = { r.holds with defer := false }
    ∧ (runListening .sweep r).state = (if (runListening .sweep r).holds.isEmpty then .segment else .held) := by
  rw [runListening_deferred hin rfl hg]
  refine ⟨rfl, rfl, ?_⟩
  cases hp : r.holds.power <;> cases hy : r.holds.yields <;> cases hr : r.holds.reversal <;> simp [Holds.isEmpty, hp, hy, hr]

/-! ## AIR_WAIT_LIMIT (R120) -/

/-- LEAK with a circuit's air-wait time at a length, and the mark set. -/
def airMarked (c : CircuitId) (ms : Nat) (s : State) : Leak :=
  { s.leak.set c { circuitOf s c with airWaitMs := ms } with airWaitMark := true }

/-- A circuit put back as it is. -/
theorem leak_set_circuit (k : Leak) (c : CircuitId) : k.set c (k.circuit c) = k := by cases c <;> rfl

/-- A time that has passed its limit is reported as it stands: the mark alone is new. -/
theorem airMarked_self (c : CircuitId) (s : State) :
    airMarked c (circuitOf s c).airWaitMs s = { s.leak with airWaitMark := true } := by
  rw [airMarked, show { circuitOf s c with airWaitMs := (circuitOf s c).airWaitMs } = s.leak.circuit c from rfl, leak_set_circuit]

/-- DEV's part of an event does not look at LEAK. -/
theorem takeDev_leak (e : DevEvent) (k : Leak) (s : State) :
    takeDev e { s with leak := k } = { s with leak := k, dev := (takeDev e s).dev } := by
  rw [takeDev_eq, takeDev_congr (s := s) (t := { s with leak := k }) e rfl rfl rfl]

/-- The air-wait time reported at a length, with the mark set (R120). -/
def airReported (c : CircuitId) (ms : Nat) (s : State) : State :=
  takeDev ⟨.airWait, circuitNum c, ms / 1000, (paramsOf s c).airWaitLimit⟩ { s with leak := airMarked c ms s }

theorem airReported_eq (c : CircuitId) (ms : Nat) (s : State) : airReported c ms s = { s with
    leak := airMarked c ms s
    dev := (takeDev ⟨.airWait, circuitNum c, ms / 1000, (paramsOf s c).airWaitLimit⟩ s).dev } := by
  rw [airReported, takeDev_leak]

theorem airReported_parts (c : CircuitId) (ms : Nat) (s : State) : airReported c ms s
    = { s with leak := (airReported c ms s).leak, dev := (airReported c ms s).dev } := by
  rw [airReported_eq]

theorem airWaitPassed_iff (c : CircuitId) (s : State) : airWaitPassed c s = true
    ↔ (circuitOf s c).state ≠ .done ∧ (paramsOf s c).airWaitLimit * 1000 < (circuitOf s c).airWaitMs := decide_eq_true_iff

theorem airWaited_reports {c : CircuitId} {s : State} (h : seeksAir (circuitOf s c).state = true ∨ airWaitPassed c s = true)
    (hm : s.leak.airWaitMark = false) : airWaited c s
      = airReported c (max (circuitOf s c).airWaitMs ((paramsOf s c).airWaitLimit * 1000 + 1)) s := if_pos ⟨h, hm⟩

theorem airWaited_still {c : CircuitId} {s : State}
    (h : s.leak.airWaitMark = true ∨ seeksAir (circuitOf s c).state = false ∧ airWaitPassed c s = false) :
    airWaited c s = s := by
  refine if_neg ?_
  rintro ⟨hseek, hm⟩
  rcases h with h | ⟨hno, hwithin⟩
  · simp [hm] at h
  · simp [hno, hwithin] at hseek

/-- Settles O26: each command is its one report, or nothing. -/
theorem waitsReachTheirLimits : Obligations.WaitsReachTheirLimits := by
  refine ⟨fun s hb hst => ?_, fun s hb hst => ?_, fun c s hb hnd hm hlt => ?_, fun c s hb hseek hm hle => ?_,
    fun c s hb hstill => ?_⟩
  · have hnone := forceListening_other hst
    exact (whenReleased_running hb).trans (by rw [hnone])
  · refine ⟨_, _, _, (whenReleased_running hb).trans (by rw [forceListening_deferring hst, enterListening_eq]; rfl), rfl,
      postListen_latch (s := s), rfl, rfl, rfl, rfl, fun hin hk hg => ?_⟩
    have hkind : segKind (deferredOut s) = .sweep := (segKind_congr rfl rfl rfl).trans hk
    rw [hkind]
    exact runListening_lifts hin hg
  · have hpassed := (airWaitPassed_iff c s).mpr ⟨hnd, hlt⟩
    refine ⟨_, (whenReleased_running hb).trans ?_, rfl⟩
    rw [airWaited_reports (.inr hpassed) hm, Nat.max_eq_left hlt, airReported_eq, airMarked_self]
  · have hlimit : ((paramsOf s c).airWaitLimit * 1000 + 1) / 1000 = (paramsOf s c).airWaitLimit := by omega
    refine ⟨airReported c ((paramsOf s c).airWaitLimit * 1000 + 1) s, (whenReleased_running hb).trans ?_, ?_⟩
    · rw [airWaited_reports (.inl hseek) hm, Nat.max_eq_right (Nat.le_succ_of_le hle), ← airReported_parts]
    · rw [airReported, hlimit]
      rfl
  · refine (whenReleased_running hb).trans ?_
    have hnone : airWaited c s = s := by
      refine airWaited_still (hstill.imp_right fun h => ?_)
      rcases h with hd | ⟨hno, hle⟩
      · exact ⟨by rw [hd]; rfl, Bool.eq_false_iff.mpr fun hp => ((airWaitPassed_iff c s).mp hp).1 hd⟩
      · exact ⟨hno, Bool.eq_false_iff.mpr fun hp => Nat.not_lt.mpr hle ((airWaitPassed_iff c s).mp hp).2⟩
    rw [hnone]

end Sys2Proof.Machine
end

section
/-! SUPPORT. The end of a reset, and of the image read (O6). -/
namespace Sys2Proof.Machine

/-! ## The contamination condition derived afresh (R64, R85) -/

/-- Without an open revolution in SAMPLING there is nothing to mark. -/
theorem vibContaminated_unmarked {v : Vib} (h : v.state ≠ .sampling ∨ v.openRev = none) : vibContaminated v = v := by
  unfold vibContaminated
  split
  next hs =>
    have hnone : v.openRev = none := h.resolve_left fun hn => hn hs
    rw [hnone, Option.map_none, ← hnone]
  · rfl

theorem vibContaminated_marks {v : Vib} {r : Rev} (hs : v.state = .sampling) (hr : v.openRev = some r) :
    vibContaminated v = { v with openRev := some { r with contaminated := true } } := by
  rw [vibContaminated, if_pos hs, hr]
  rfl

theorem deriveContamination_vib (s : State) : (deriveContamination s).vib
    = if contaminationOf (deriveContamination s) && !s.lsn.contamination then vibContaminated s.vib else s.vib := rfl

theorem contaminationDerived_derive (s : State) : contaminationDerived s (deriveContamination s) := by
  refine ⟨rfl, fun r hs hr hl hc => ?_, fun h => ?_⟩
  · rw [deriveContamination_vib, hc, hl, Bool.not_false, Bool.and_true, if_pos rfl]
    exact vibContaminated_marks hs hr
  · rw [deriveContamination_vib]
    split
    next hchange =>
      obtain ⟨hc, hl⟩ : contaminationOf (deriveContamination s) = true ∧ s.lsn.contamination = false := by simpa using hchange
      rw [hc, hl] at h
      exact vibContaminated_unmarked (h.imp_right fun h => h.resolve_right (by simp))
    · rfl

/-! ## RESET_RELEASE and IMAGE_READ_DONE (R192 to R197) -/

/-- PEER as STARTING is entered: its timer at the period in force, the first posting asked for, the warning posted. -/
def peerReleased (low : Bool) (s : State) : Peer := { s.peer with
  latch := true
  period := s.cfg.station.period
  periodLeft := s.cfg.station.period
  posting := { s.peer.posting with supplyWarning := s.peer.posting.supplyWarning || low } }

theorem releaseReset_eq (straps : BitVec 4) (low : Bool) (s : State) : releaseReset straps low s = { s with
    pins := { s.pins with straps := straps, supplyLow := low }
    cfg := { s.cfg with number := straps.toNat + 1 }
    lif := { s.lif with classifier := .waitIdle false }
    peer := peerReleased low s
    supplyWarning := s.supplyWarning || low
    boot := .readImage } := by
  cases low with
  | true => simp [releaseReset, beginStarting, setWarning, writePosting, peerReleased]
  | false => simp [releaseReset, beginStarting, peerReleased]

/-- Settles O6: the straps' state, and the image's with the condition derived afresh. -/
theorem releaseStartsTheStation : Obligations.ReleaseStartsTheStation := by
  refine ⟨fun straps low s hb => ⟨peerReleased low s, ?_, rfl⟩, fun image s hb => ⟨imageRead image s, ?_, rfl, ?_⟩⟩
  · exact (if_pos hb).trans (by rw [releaseReset_eq])
  · exact (whenReleased_running (by simp [hb])).trans (by rw [if_pos hb])
  · obtain ⟨hcondition, hmarks, hstill⟩ := contaminationDerived_derive
      (startRota (cfgOfImage s.cfg.number image).station.table { s with cfg := cfgOfImage s.cfg.number image })
    exact ⟨hcondition, hmarks, hstill⟩

end Sys2Proof.Machine
end

section
/-! SUPPORT. The counting pulse and the fast conversion (O41). -/
namespace Sys2Proof.Machine

/-! ## The counting pulse (R82) -/

theorem countPulse_free {r : Rev} {v : Vib} (h : v.conv = none) : countPulse r v = { v with
    openRev := some { r with pulses := min (r.pulses + 1) 65535 }
    conv := some ⟨v.shadow, .opened⟩ } := by
  rw [countPulse, h]
  rfl

theorem countPulse_busy {r : Rev} {v : Vib} (h : v.conv ≠ none) : countPulse r v = { v with
    openRev := some { r with pulses := min (r.pulses + 1) 65535, skipped := true } } := by
  cases hc : v.conv with
  | none => exact absurd hc h
  | some c =>
    rw [countPulse, hc]
    rfl

theorem exec_countingPulse_open {s : State} {r : Rev} (hb : s.boot ≠ .held) (hs : s.vib.state = .sampling)
    (hr : s.vib.openRev = some r) : exec .countingPulse s = .next (leaveIdle (withVib (countPulse r) s)) := by
  change execCountingPulse s = _
  rw [execCountingPulse, whenReleased_running hb, hs, hr]

/-- Outside SAMPLING, and with no revolution open, there is nothing to count. -/
theorem exec_countingPulse_still {s : State} (hb : s.boot ≠ .held) (h : s.vib.state ≠ .sampling ∨ s.vib.openRev = none) :
    exec .countingPulse s = .next (leaveIdle s) := by
  change execCountingPulse s = _
  rw [execCountingPulse, whenReleased_running hb]
  split
  next hs hr => exact absurd h (by simp [hs, hr])
  · rfl

/-! ## The fast conversion (R83) -/

theorem convDone_discarded {e : Nat} {p : Programme} {ch : FastChannel} {code : Nat} {v : Vib} :
    convDone e p ⟨ch, .discarded⟩ code v = { v with conv := none } := rfl

theorem convDone_opened {e : Nat} {p : Programme} {ch : FastChannel} {code : Nat} {v : Vib} {r : Rev}
    (h : v.openRev = some r) : convDone e p ⟨ch, .opened⟩ code v = { v with
      conv := none, openRev := some (addSquare ch code r), shadow := ch.other } := by
  rw [convDone, h]
  rfl

/-- The conversion of a revolution that waits for it has it judged, its square added first. -/
theorem convDone_closed {e : Nat} {p : Programme} {ch : FastChannel} {code : Nat} {v : Vib} {r : Rev} {period : Nat}
    (h : v.closedRev = some (r, period)) : convDone e p ⟨ch, .closed⟩ code v
      = judgeRev e p (addSquare ch code r) period { v with conv := none, closedRev := none } := by
  rw [convDone, h]

theorem exec_conversionComplete {s : State} {c : Conv} (code : BitVec 12) (hb : s.boot ≠ .held) (hc : s.vib.conv = some c) :
    exec (.conversionComplete code) s
      = .next (leaveIdle (withVib (convDone (pulsesPerRev s) (progOf s) c code.toNat) s)) := by
  change execConversionComplete code s = _
  rw [execConversionComplete, whenReleased_running hb, hc]

theorem exec_conversionComplete_none {s : State} (code : BitVec 12) (hb : s.boot ≠ .held) (hc : s.vib.conv = none) :
    exec (.conversionComplete code) s = .next (leaveIdle s) := by
  change execConversionComplete code s = _
  rw [execConversionComplete, whenReleased_running hb, hc]

/-- Settles O41: the pulse by the converter's stand, the conversion by its owner. -/
theorem countingPulseKicksAConversion : Obligations.CountingPulseKicksAConversion := by
  intro s hb
  refine ⟨exec_countingPulse_still hb, fun r hs hr => ⟨fun hfree => ?_, fun hbusy => ?_⟩,
    fun code hnone => exec_conversionComplete_none code hb hnone, fun code ch hc => ?_,
    fun code r hr => ⟨fun hc => ?_, fun hc => ?_⟩⟩
  · rw [exec_countingPulse_open hb hs hr, withVib, countPulse_free hfree]
  · rw [exec_countingPulse_open hb hs hr, withVib, countPulse_busy hbusy]
  · rw [exec_conversionComplete code hb hc, withVib, convDone_discarded]
  all_goals
    rw [exec_conversionComplete code hb hc, withVib, convDone_opened hr]
    rfl

end Sys2Proof.Machine
end

section
/-! SUPPORT. The index pulse in SAMPLING, and a revolution judged (O42). -/
namespace Sys2Proof.Machine

/-! ## The integer square root (R87) -/

/-- `r` is the root of `n` down to the digits of `k` bits. -/
def rootUpTo (n k r : Nat) : Prop := r * r ≤ n ∧ n < (r + 2 ^ k) * (r + 2 ^ k)

/-- A digit chosen halves the interval that holds the root. -/
theorem rootUpTo_isqrtBit {n r b : Nat} (h : rootUpTo n (b + 1) r) : rootUpTo n b (isqrtBit n r b) := by
  obtain ⟨hlow, hhigh⟩ := h
  unfold isqrtBit
  split
  next hfits =>
    refine ⟨hfits, ?_⟩
    rwa [Nat.add_assoc, ← Nat.two_mul, ← Nat.pow_succ']
  next hover => exact ⟨hlow, Nat.lt_of_not_le hover⟩

theorem rootUpTo_isqrtFrom {n k r : Nat} (h : rootUpTo n k r) : rootUpTo n 0 (isqrtFrom n k r) := by
  induction k generalizing r with
  | zero => exact h
  | succ b ih => exact ih (rootUpTo_isqrtBit h)

theorem isqrt_spec {n : Nat} (h : n < 2 ^ 32) : isqrt n * isqrt n ≤ n ∧ n < (isqrt n + 1) * (isqrt n + 1) :=
  rootUpTo_isqrtFrom (k := 16) ⟨Nat.zero_le n, by omega⟩

/-! ## The band of a speed (R88) -/

theorem bandOf_outside {p : Programme} {n : Nat} (h : n < p.noiseBase ∨ p.noiseBase + 32 * p.bandWidth ≤ n) :
    bandOf p n = none := if_neg (by omega)

theorem bandOf_inside {p : Programme} {n b : Nat} (hb : b < 32) (hlow : p.noiseBase + b * p.bandWidth ≤ n)
    (hhigh : n < p.noiseBase + (b + 1) * p.bandWidth) : bandOf p n = some b := by
  have htop : (b + 1) * p.bandWidth ≤ 32 * p.bandWidth := Nat.mul_le_mul_right _ hb
  have hband : (n - p.noiseBase) / p.bandWidth = b := Nat.div_eq_of_lt_le (by omega) (by omega)
  rw [bandOf, if_pos (by omega), hband]

/-! ## A cell written -/

theorem updCell_length (l : List NoiseCell) (b : Nat) (f : NoiseCell → NoiseCell) : (updCell l b f).length = l.length :=
  List.length_set

theorem updCell_getD_same {l : List NoiseCell} {b : Nat} {f : NoiseCell → NoiseCell} (h : b < l.length) :
    (updCell l b f).getD b cellZero = f (l.getD b cellZero) := by
  simp [updCell, List.getD_eq_getElem?_getD, h]

theorem updCell_getD_other {l : List NoiseCell} {b d : Nat} {f : NoiseCell → NoiseCell} (h : d ≠ b) :
    (updCell l b f).getD d cellZero = l.getD d cellZero := by
  simp [updCell, List.getD_eq_getElem?_getD, List.getElem?_set_ne h.symm]

/-! ## A revolution judged (R86 to R89) -/

/-- A pass's or a cycle's counts once a revolution is judged. -/
def judgedCounts (e : Nat) (p : Programme) (r : Rev) (period : Nat) (c : RevCounts) : RevCounts :=
  countRev (r.pulses != e) r.skipped r.contaminated (!revFails e r && (bandOf p (revSpeedOf period)).isNone) c

/-- A channel's cells once a revolution is judged, by the channel's sum of squares. -/
def judgedCells (e : Nat) (p : Programme) (r : Rev) (period sum : Nat) (l : List NoiseCell) : List NoiseCell :=
  match bandOf p (revSpeedOf period) with
  | some b => if revFails e r then l else updCell l b (enterCell (rmsOf e sum))
  | none => l

theorem judgeRev_eq (e : Nat) (p : Programme) (r : Rev) (period : Nat) (v : Vib) : judgeRev e p r period v = { v with
    pass := judgedCounts e p r period v.pass
    cycle := judgedCounts e p r period v.cycle
    cells1 := judgedCells e p r period r.sum1 v.cells1
    cells2 := judgedCells e p r period r.sum2 v.cells2 } := by
  unfold judgeRev judgedCells judgedCounts
  dsimp only
  cases bandOf p (revSpeedOf period) with
  | none => rfl
  | some b => cases revFails e r <;> rfl

theorem judgedCells_failed {e : Nat} {p : Programme} {r : Rev} {period sum : Nat} {l : List NoiseCell}
    (h : revFails e r = true) : judgedCells e p r period sum l = l := by
  unfold judgedCells
  split
  · exact if_pos h
  · rfl

theorem judgedCells_outside {e : Nat} {p : Programme} {r : Rev} {period sum : Nat} {l : List NoiseCell}
    (h : bandOf p (revSpeedOf period) = none) : judgedCells e p r period sum l = l := by
  rw [judgedCells, h]

theorem judgedCells_inside {e : Nat} {p : Programme} {r : Rev} {period sum b : Nat} {l : List NoiseCell}
    (hr : revFails e r = false) (h : bandOf p (revSpeedOf period) = some b) :
    judgedCells e p r period sum l = updCell l b (enterCell (rmsOf e sum)) := by
  rw [judgedCells, h, hr]
  rfl

theorem revFails_iff (e : Nat) (r : Rev) :
    revFails e r = true ↔ r.pulses ≠ e ∨ r.skipped = true ∨ r.contaminated = true := by
  simp [revFails, or_assoc]

/-- A kept revolution passed each test. -/
theorem revFails_false_iff (e : Nat) (r : Rev) :
    revFails e r = false ↔ r.pulses = e ∧ r.skipped = false ∧ r.contaminated = false := by
  simp [revFails, and_assoc]

theorem judgedCounts_slipped (e : Nat) (p : Programme) (r : Rev) (period : Nat) (c : RevCounts) :
    (judgedCounts e p r period c).slipped = (if r.pulses ≠ e then min (c.slipped + 1) 65535 else c.slipped) := by
  simp [judgedCounts, countRev, bump]

theorem judgedCounts_skipped (e : Nat) (p : Programme) (r : Rev) (period : Nat) (c : RevCounts) :
    (judgedCounts e p r period c).skipped = (if r.skipped then min (c.skipped + 1) 65535 else c.skipped) := rfl

theorem judgedCounts_contaminated (e : Nat) (p : Programme) (r : Rev) (period : Nat) (c : RevCounts) :
    (judgedCounts e p r period c).contaminated
      = (if r.contaminated then min (c.contaminated + 1) 65535 else c.contaminated) := rfl

/-- A revolution that failed a test is neither kept nor out of band. -/
theorem judgedCounts_failed {e : Nat} {r : Rev} (h : revFails e r = true) (p : Programme) (period : Nat) (c : RevCounts) :
    (judgedCounts e p r period c).kept = c.kept ∧ (judgedCounts e p r period c).outOfBand = c.outOfBand := by
  exact ⟨if_pos h, by simp [judgedCounts, countRev, h]⟩

theorem judgedCounts_kept {e : Nat} {r : Rev} (h : revFails e r = false) (p : Programme) (period : Nat) (c : RevCounts) :
    (judgedCounts e p r period c).kept = min (c.kept + 1) 65535 :=
  if_neg (ne_true_of_eq_false h)

theorem judgedCounts_outOfBand {e : Nat} {r : Rev} (h : revFails e r = false) (p : Programme) (period : Nat) (c : RevCounts) :
    (judgedCounts e p r period c).outOfBand
      = (if (bandOf p (revSpeedOf period)).isNone then min (c.outOfBand + 1) 65535 else c.outOfBand) := by
  simp [judgedCounts, countRev, h, bump]

/-- What a judged revolution leaves in the counts and the cells, of a period that gives it a speed (R86 to R89). -/
theorem revJudged_of_judged {s : State} {r : Rev} {period : Nat} {v : Vib} (hperiod : 0 < period)
    (hlen1 : s.vib.cells1.length = 32) (hlen2 : s.vib.cells2.length = 32)
    (hpass : v.pass = judgedCounts (pulsesPerRev s) (progOf s) r period s.vib.pass)
    (hcycle : v.cycle = judgedCounts (pulsesPerRev s) (progOf s) r period s.vib.cycle)
    (hcells1 : v.cells1 = judgedCells (pulsesPerRev s) (progOf s) r period r.sum1 s.vib.cells1)
    (hcells2 : v.cells2 = judgedCells (pulsesPerRev s) (progOf s) r period r.sum2 s.vib.cells2) :
    revJudged s r period v := by
  have hspeed : revSpeedOf period = 60000000 / period := if_neg hperiod.ne'
  constructor
  case slipped => rw [hpass, hcycle]; exact ⟨judgedCounts_slipped .., judgedCounts_slipped ..⟩
  case skipped => rw [hpass, hcycle]; exact ⟨judgedCounts_skipped .., judgedCounts_skipped ..⟩
  case contaminated => rw [hpass, hcycle]; exact ⟨judgedCounts_contaminated .., judgedCounts_contaminated ..⟩
  case tests => exact revFails_iff _ r
  case failed =>
    intro h
    obtain ⟨hkept, hout⟩ := judgedCounts_failed h (progOf s) period s.vib.pass
    obtain ⟨hkept', hout'⟩ := judgedCounts_failed h (progOf s) period s.vib.cycle
    rw [hpass, hcycle, hcells1, hcells2, judgedCells_failed h, judgedCells_failed h]
    exact ⟨hkept, hkept', hout, hout', rfl, rfl⟩
  case kept =>
    intro h
    rw [hpass, hcycle]
    exact ⟨judgedCounts_kept h .., judgedCounts_kept h ..⟩
  case outOfBand =>
    intro h hn
    have hband : bandOf (progOf s) (revSpeedOf period) = none := by rw [hspeed]; exact bandOf_outside hn
    rw [hpass, hcycle, hcells1, hcells2, judgedCells_outside hband, judgedCells_outside hband,
      judgedCounts_outOfBand h, judgedCounts_outOfBand h, hband]
    exact ⟨rfl, rfl, rfl, rfl⟩
  case inBand =>
    intro b h hb hlow hhigh
    have hband : bandOf (progOf s) (revSpeedOf period) = some b := by rw [hspeed]; exact bandOf_inside hb hlow hhigh
    rw [hpass, hcycle, hcells1, hcells2, judgedCells_inside h hband, judgedCells_inside h hband,
      judgedCounts_outOfBand h, judgedCounts_outOfBand h, hband,
      updCell_getD_same (hlen1.symm ▸ hb), updCell_getD_same (hlen2.symm ▸ hb)]
    exact ⟨rfl, rfl, rfl, rfl, rfl, rfl, fun d hd => ⟨updCell_getD_other hd, updCell_getD_other hd⟩⟩

/-! ## The index pulse at VIB (R84) -/

/-- With no conversion of it in flight the open revolution is judged at once. -/
theorem vibIndex_judges {e : Nat} {p : Programme} {contamination : Bool} {us : Nat} {v : Vib} {r : Rev}
    (hs : v.state = .sampling) (hr : v.openRev = some r) (hconv : v.conv.map Conv.owner ≠ some .opened)
    (hus : us - r.openedAt < 2 ^ 32) : vibIndex e p contamination us v = { v with
      openRev := some ⟨0, 0, 0, false, contamination, us⟩
      shadow := .v1
      pass := judgedCounts e p r (us - r.openedAt) v.pass
      cycle := judgedCounts e p r (us - r.openedAt) v.cycle
      cells1 := judgedCells e p r (us - r.openedAt) r.sum1 v.cells1
      cells2 := judgedCells e p r (us - r.openedAt) r.sum2 v.cells2 } := by
  have hclosed : closeRev e p us v = judgeRev e p r (us - r.openedAt) { v with openRev := none } := by
    rw [closeRev, hr]
    dsimp only
    rw [if_neg hconv, Nat.min_eq_left (by omega)]
  rw [vibIndex, if_pos hs, hclosed, judgeRev_eq]

/-- With one in flight it waits. -/
theorem vibIndex_waits {e : Nat} {p : Programme} {contamination : Bool} {us : Nat} {v : Vib} {r : Rev} {ch : FastChannel}
    (hs : v.state = .sampling) (hr : v.openRev = some r) (hconv : v.conv = some ⟨ch, .opened⟩) :
    vibIndex e p contamination us v = { v with
      openRev := some ⟨0, 0, 0, false, contamination, us⟩
      closedRev := some (r, min (us - r.openedAt) (2 ^ 32 - 1))
      conv := some ⟨ch, .closed⟩
      shadow := .v1 } := by
  rw [vibIndex, if_pos hs, closeRev, hr, hconv]
  rfl

theorem exec_indexPulse_vib {s : State} (us : Nat) (hb : s.boot ≠ .held) : exec (.indexPulse us) s = .next (leaveIdle { s with
    run := runIndex us s.run
    vib := vibIndex (pulsesPerRev s) (progOf s) s.lsn.contamination us s.vib }) := by
  unfold exec execIndexPulse
  exact whenReleased_running hb

/-- Settles O42: the root by its digits, the revolution judged at once, made to wait, and judged late. -/
theorem indexPulseJudgesTheRevolution : Obligations.IndexPulseJudgesTheRevolution := by
  refine ⟨fun n hn => isqrt_spec hn, fun us r s hb hs hr hconv hlen1 hlen2 hlt hus => ?_,
    fun us r ch s hb hs hr hconv _ => ⟨runIndex us s.run, ?_⟩,
    fun code ch r period s hb hconv hclosed hperiod hlen1 hlen2 => ?_⟩
  · refine ⟨_, exec_indexPulse_vib us hb, ?_⟩
    simp only [leaveIdle_frame]
    rw [vibIndex_judges hs hr hconv hus]
    exact ⟨rfl, rfl, hs, rfl, rfl, revJudged_of_judged (Nat.sub_pos_of_lt hlt) hlen1 hlen2 rfl rfl rfl rfl⟩
  · rw [exec_indexPulse_vib us hb, vibIndex_waits hs hr hconv]
  · refine ⟨_, exec_conversionComplete code hb hconv, ?_⟩
    rw [convDone_closed hclosed, judgeRev_eq]
    refine ⟨rfl, rfl, rfl, rfl, rfl, ?_, ?_⟩
    all_goals
      rintro rfl
      exact revJudged_of_judged hperiod hlen1 hlen2 rfl rfl rfl rfl

end Sys2Proof.Machine
end

section
/-! SUPPORT. VIB's assessment at the end of a sweep: the state it works on, and the limits (O43). -/
namespace Sys2Proof.Machine

/-! ## The state the assessment works on -/

/-- The state `s` once DEV has taken the events `es`, with VIB's state `v`: what each part of the assessment leaves. -/
def assessedTo (s : State) (es : List DevEvent) (v : Vib) : State := { es.foldl (fun u e => takeDev e u) s with vib := v }

theorem noiseMoved_foldl_takeDev (es : List DevEvent) (s : State) : noiseMoved s (es.foldl (fun u e => takeDev e u) s) := by
  induction es generalizing s with
  | nil => exact .refl s
  | cons e es ih => exact (noiseMoved_takeDev e s).trans (ih _)

@[simp] theorem assessedTo_frame (s : State) (es : List DevEvent) (v : Vib) :
    (assessedTo s es v).vib = v ∧ (assessedTo s es v).run = s.run ∧ progOf (assessedTo s es v) = progOf s := by
  obtain ⟨w, d, h⟩ := noiseMoved_foldl_takeDev es s
  rw [assessedTo, h]
  exact ⟨rfl, rfl, rfl⟩

theorem withVib_assessedTo (f : Vib → Vib) (s : State) (es : List DevEvent) (v : Vib) :
    withVib f (assessedTo s es v) = assessedTo s es (f v) := rfl

/-- What VIB's state is makes no difference to an event. -/
theorem takeDev_vib (e : DevEvent) (v : Vib) (s : State) : takeDev e { s with vib := v } = { takeDev e s with vib := v } := by
  rw [takeDev_eq, takeDev_congr (s := s) (t := { s with vib := v }) e rfl rfl rfl, takeDev_eq e s]

theorem takeDev_assessedTo (e : DevEvent) (s : State) (es : List DevEvent) (v : Vib) :
    takeDev e (assessedTo s es v) = assessedTo s (es ++ [e]) v := by
  rw [assessedTo, assessedTo, takeDev_vib, List.foldl_append]
  rfl

/-! ## The limit assessment (R92) -/

/-- A cell's mark once its band is assessed against the limit curve. -/
def limitMarked (curve : List Nat) (b : Nat) (c : NoiseCell) : NoiseCell :=
  { c with raised := c.raised || decide (curve.getD b 0 < c.peak) }

theorem limitMarked_over {curve : List Nat} {b : Nat} {c : NoiseCell} (h : curve.getD b 0 < c.peak ∧ c.raised = false) :
    limitMarked curve b c = { c with raised := true } := by
  rw [limitMarked, decide_eq_true h.1, Bool.or_true]

theorem limitMarked_unmoved {curve : List Nat} {b : Nat} {c : NoiseCell}
    (h : ¬(curve.getD b 0 < c.peak ∧ c.raised = false)) : limitMarked curve b c = c := by
  obtain ⟨peak, count, raised⟩ := c
  cases raised with
  | true => rfl
  | false => rw [limitMarked, decide_eq_false fun hover => h ⟨hover, rfl⟩]; rfl

/-- A channel's cells once the bands below `n` are assessed. -/
def cellsMarked (curve : List Nat) (n : Nat) (l : List NoiseCell) : List NoiseCell :=
  (List.range n).foldl (fun l b => updCell l b (limitMarked curve b)) l

/-- Whether a band's cell is over its limit with its mark clear. -/
def overLimit (curve : List Nat) (cells : List NoiseCell) (b : Nat) : Bool :=
  decide (curve.getD b 0 < (cells.getD b cellZero).peak ∧ (cells.getD b cellZero).raised = false)

/-- The noise class's event for a band. -/
def noiseEvent (ch : FastChannel) (curve : List Nat) (cells : List NoiseCell) (b : Nat) : DevEvent :=
  ⟨noiseClass ch, ch.num * 256 + b, (cells.getD b cellZero).peak, curve.getD b 0⟩

/-- The events of a channel's bands below `n`. -/
def limitEvents (ch : FastChannel) (curve : List Nat) (cells : List NoiseCell) (n : Nat) : List DevEvent :=
  ((List.range n).filter (overLimit curve cells)).map (noiseEvent ch curve cells)

/-- A channel's cells changed. -/
def withCells (ch : FastChannel) (cells : List NoiseCell) (v : Vib) : Vib :=
  match ch with
  | .v1 => { v with cells1 := cells }
  | .v2 => { v with cells2 := cells }

@[simp] theorem cellsOf_withCells (ch : FastChannel) (cells : List NoiseCell) (v : Vib) :
    cellsOf (withCells ch cells v) ch = cells := by cases ch <;> rfl

theorem withCells_withCells (ch : FastChannel) (l m : List NoiseCell) (v : Vib) :
    withCells ch m (withCells ch l v) = withCells ch m v := by cases ch <;> rfl

theorem withCells_cellsOf (ch : FastChannel) (v : Vib) : withCells ch (cellsOf v ch) v = v := by cases ch <;> rfl

theorem raiseMark_eq (ch : FastChannel) (b : Nat) (v : Vib) : raiseMark ch b v
    = withCells ch (updCell (cellsOf v ch) b (fun c => { c with raised := true })) v := by cases ch <;> rfl

theorem cellsMarked_succ (curve : List Nat) (n : Nat) (l : List NoiseCell) :
    cellsMarked curve (n + 1) l = updCell (cellsMarked curve n l) n (limitMarked curve n) := by
  rw [cellsMarked, List.range_succ, List.foldl_append]
  rfl

theorem cellsMarked_length (curve : List Nat) (n : Nat) (l : List NoiseCell) : (cellsMarked curve n l).length = l.length := by
  induction n with
  | zero => rfl
  | succ n ih => rw [cellsMarked_succ, updCell_length, ih]

/-- The bands from `n` up are not assessed yet. -/
theorem cellsMarked_getD_above {curve : List Nat} {n b : Nat} {l : List NoiseCell} (h : n ≤ b) :
    (cellsMarked curve n l).getD b cellZero = l.getD b cellZero := by
  induction n with
  | zero => rfl
  | succ n ih => rw [cellsMarked_succ, updCell_getD_other (by omega), ih (by omega)]

theorem cellsMarked_getD_below {curve : List Nat} {n b : Nat} {l : List NoiseCell} (h : b < n) (hlen : b < l.length) :
    (cellsMarked curve n l).getD b cellZero = limitMarked curve b (l.getD b cellZero) := by
  induction n with
  | zero => omega
  | succ n ih =>
    rw [cellsMarked_succ]
    by_cases hb : b = n
    · subst hb
      rw [updCell_getD_same (by rwa [cellsMarked_length]), cellsMarked_getD_above le_rfl]
    · rw [updCell_getD_other hb, ih (by omega)]

/-- A mark moves neither a cell's count nor its peak. -/
theorem cellsMarked_levels {curve : List Nat} {n : Nat} {l : List NoiseCell} (hlen : n ≤ l.length) (b : Nat) :
    ((cellsMarked curve n l).getD b cellZero).count = (l.getD b cellZero).count
      ∧ ((cellsMarked curve n l).getD b cellZero).peak = (l.getD b cellZero).peak := by
  by_cases hb : b < n
  · rw [cellsMarked_getD_below hb (by omega)]
    exact ⟨rfl, rfl⟩
  · rw [cellsMarked_getD_above (by omega)]
    exact ⟨rfl, rfl⟩

theorem updCell_congr {l : List NoiseCell} {b : Nat} {f g : NoiseCell → NoiseCell}
    (h : f (l.getD b cellZero) = g (l.getD b cellZero)) : updCell l b f = updCell l b g := by
  rw [updCell, updCell, h]

theorem updCell_unmoved {l : List NoiseCell} {b : Nat} {f : NoiseCell → NoiseCell}
    (h : f (l.getD b cellZero) = l.getD b cellZero) : updCell l b f = l := by
  rw [updCell, h]
  by_cases hb : b < l.length
  · rw [List.getD_eq_getElem _ _ hb, List.set_getElem_self]
  · rw [List.set_eq_of_length_le (by omega)]

/-- The assessment of one cell sends its event and sets its mark where the cell is over its limit with its mark clear. -/
theorem assessCell_assessedTo (ch : FastChannel) (s : State) (es : List DevEvent) (v : Vib) (b : Nat) :
    assessCell ch (assessedTo s es v) b = assessedTo s
      (es ++ if overLimit (curveOf (progOf s) ch) (cellsOf v ch) b then
        [noiseEvent ch (curveOf (progOf s) ch) (cellsOf v ch) b] else [])
      (withCells ch (updCell (cellsOf v ch) b (limitMarked (curveOf (progOf s) ch) b)) v) := by
  obtain ⟨hvib, -, hprog⟩ := assessedTo_frame s es v
  rw [assessCell, hvib, hprog]
  by_cases h : (curveOf (progOf s) ch).getD b 0 < ((cellsOf v ch).getD b cellZero).peak
      ∧ ((cellsOf v ch).getD b cellZero).raised = false
  · rw [if_pos h, withVib_assessedTo, takeDev_assessedTo, raiseMark_eq, updCell_congr (limitMarked_over h).symm, overLimit,
      if_pos (decide_eq_true h)]
    rfl
  · rw [if_neg h, updCell_unmoved (limitMarked_unmoved h), withCells_cellsOf, overLimit,
      if_neg (by rwa [decide_eq_true_iff]), List.append_nil]

/-- A channel's bands below `n`, lower bands first: an earlier band's mark is none of a later band's. -/
theorem assessBands_assessedTo (ch : FastChannel) (s : State) (es : List DevEvent) (v : Vib) (n : Nat) :
    (List.range n).foldl (assessCell ch) (assessedTo s es v) = assessedTo s
      (es ++ limitEvents ch (curveOf (progOf s) ch) (cellsOf v ch) n)
      (withCells ch (cellsMarked (curveOf (progOf s) ch) n (cellsOf v ch)) v) := by
  induction n with
  | zero =>
    rw [show cellsMarked (curveOf (progOf s) ch) 0 (cellsOf v ch) = cellsOf v ch from rfl, withCells_cellsOf]
    simp [limitEvents]
  | succ n ih =>
    have habove := cellsMarked_getD_above (curve := curveOf (progOf s) ch) (l := cellsOf v ch) (le_refl n)
    have hover : overLimit (curveOf (progOf s) ch) (cellsMarked (curveOf (progOf s) ch) n (cellsOf v ch)) n
        = overLimit (curveOf (progOf s) ch) (cellsOf v ch) n := by rw [overLimit, overLimit, habove]
    have hevent : noiseEvent ch (curveOf (progOf s) ch) (cellsMarked (curveOf (progOf s) ch) n (cellsOf v ch)) n
        = noiseEvent ch (curveOf (progOf s) ch) (cellsOf v ch) n := by rw [noiseEvent, noiseEvent, habove]
    rw [List.range_succ, List.foldl_append, ih, List.foldl_cons, List.foldl_nil, assessCell_assessedTo, cellsOf_withCells,
      withCells_withCells, hover, hevent, ← cellsMarked_succ, List.append_assoc]
    congr 2
    rw [limitEvents, limitEvents, List.range_succ, List.filter_append, List.map_append]
    cases h : overLimit (curveOf (progOf s) ch) (cellsOf v ch) n with
    | false => simp [h]
    | true => simp [h]

/-- VIB once every limit is assessed, the unjudged revolutions dropped before (R91, R92). -/
def limitsVib (s : State) : Vib := { dropRevs s.vib with
  cells1 := cellsMarked (progOf s).curve1 32 s.vib.cells1
  cells2 := cellsMarked (progOf s).curve2 32 s.vib.cells2 }

theorem limitsVib_cells (s : State) : (limitsVib s).cells1 = cellsMarked (progOf s).curve1 32 s.vib.cells1
    ∧ (limitsVib s).cells2 = cellsMarked (progOf s).curve2 32 s.vib.cells2 := by
  simp only [limitsVib, and_self]

theorem assessBands_v1 (s : State) (es : List DevEvent) (v : Vib) (n : Nat) :
    (List.range n).foldl (assessCell .v1) (assessedTo s es v) = assessedTo s
      (es ++ limitEvents .v1 (progOf s).curve1 v.cells1 n)
      { v with cells1 := cellsMarked (progOf s).curve1 n v.cells1 } := assessBands_assessedTo .v1 s es v n

theorem assessBands_v2 (s : State) (es : List DevEvent) (v : Vib) (n : Nat) :
    (List.range n).foldl (assessCell .v2) (assessedTo s es v) = assessedTo s
      (es ++ limitEvents .v2 (progOf s).curve2 v.cells2 n)
      { v with cells2 := cellsMarked (progOf s).curve2 n v.cells2 } := assessBands_assessedTo .v2 s es v n

theorem assessLimits_dropRevs (s : State) : assessLimits (withVib dropRevs s) = assessedTo s
    (limitEvents .v1 (progOf s).curve1 s.vib.cells1 32 ++ limitEvents .v2 (progOf s).curve2 s.vib.cells2 32)
    (limitsVib s) := by
  have hstart : withVib dropRevs s = assessedTo s [] (dropRevs s.vib) := rfl
  rw [assessLimits, hstart, assessBands_v1, assessBands_v2, List.nil_append, limitsVib, dropRevs]

end Sys2Proof.Machine
end

section
/-! SUPPORT. The coverage assessment and the contamination share (O43). -/
namespace Sys2Proof.Machine

/-! ## The coverage assessment (R93) -/

/-- Marks move no band's coverage. -/
theorem bandCovered_marked {curve1 curve2 : List Nat} {v w : Vib} (p : Programme)
    (hlen1 : v.cells1.length = 32) (hlen2 : v.cells2.length = 32)
    (h1 : w.cells1 = cellsMarked curve1 32 v.cells1) (h2 : w.cells2 = cellsMarked curve2 32 v.cells2) :
    bandCovered p w = bandCovered p v := by
  funext b
  rw [bandCovered, bandCovered, h1, h2, (cellsMarked_levels hlen1.ge b).1, (cellsMarked_levels hlen2.ge b).1]

theorem covered_add_uncovered (p : Programme) (v : Vib) : coveredCount p v + uncoveredCount p v
    = ((List.range 32).filter (fun b => decide (p.lo ≤ b ∧ b ≤ p.hi))).length := by
  have hrequired : requiredBands p = (List.range 32).filter (fun b => decide (p.lo ≤ b ∧ b ≤ p.hi)) := by
    simp only [requiredBands, Bool.decide_and]
  rw [coveredCount, uncoveredCount, ← hrequired, List.length_eq_countP_add_countP (bandCovered p v)]
  simp

theorem uncoveredCount_eq (p : Programme) (v : Vib) : uncoveredCount p v = ((List.range 32).filter (fun b =>
    decide (p.lo ≤ b ∧ b ≤ p.hi ∧ ((v.cells1.getD b cellZero).count < p.nmin
      ∨ (v.cells2.getD b cellZero).count < p.nmin)))).length := by
  rw [uncoveredCount, requiredBands, List.countP_eq_length_filter, List.filter_filter]
  congr 2
  funext b
  rw [Bool.eq_iff_iff]
  simp only [bandCovered, Bool.and_eq_true, Bool.not_eq_true', Bool.and_eq_false_iff, decide_eq_true_iff, decide_eq_false_iff_not]
  omega

/-- NOISE_COVERAGE where coverage fails with no repeat left. -/
def coverageEvents (s : State) (v : Vib) : List DevEvent :=
  if 0 < uncoveredCount (progOf s) v ∧ (progOf s).rmax ≤ v.repeatCount then
    [⟨.noiseCoverage, s.run.seg, uncoveredCount (progOf s) v, (progOf s).nmin⟩] else []

/-- Whether coverage fails with a repeat left. -/
def coverageRepeats (p : Programme) (v : Vib) : Bool := decide (0 < uncoveredCount p v ∧ v.repeatCount < p.rmax)

/-- VIB once coverage is assessed. -/
def coverageVib (p : Programme) (v : Vib) : Vib :=
  if coverageRepeats p v then { v with repeatCount := v.repeatCount + 1, sweepRepeats := bump 255 v.sweepRepeats }
  else segmentDone v

theorem assessCoverage_assessedTo (s : State) (es : List DevEvent) (v : Vib) : assessCoverage (assessedTo s es v)
    = (assessedTo s (es ++ coverageEvents s v) (coverageVib (progOf s) v), coverageRepeats (progOf s) v) := by
  obtain ⟨hvib, hrun, hprog⟩ := assessedTo_frame s es v
  rw [assessCoverage, hvib, hrun, hprog]
  by_cases hcovered : uncoveredCount (progOf s) v = 0
  · rw [if_pos hcovered, coverageEvents, if_neg (by omega), coverageVib, coverageRepeats, decide_eq_false (by omega),
      List.append_nil]
    rfl
  · rw [if_neg hcovered]
    by_cases hleft : v.repeatCount < (progOf s).rmax
    · rw [if_pos hleft, coverageEvents, if_neg (by omega), coverageVib, coverageRepeats, decide_eq_true (by omega),
        List.append_nil]
      rfl
    · rw [if_neg hleft, coverageEvents, if_pos (by omega), coverageVib, coverageRepeats, decide_eq_false (by omega),
        takeDev_assessedTo]
      rfl

/-! ## The contamination share (R94) -/

/-- CONTAMINATED where the pass has more contaminated than kept revolutions, once in the cycle. -/
def shareEvents (s : State) (v : Vib) : List DevEvent :=
  if v.pass.kept < v.pass.contaminated ∧ v.contaminatedMark = false then
    [⟨.contaminated, s.run.seg, v.pass.contaminated, v.pass.kept⟩] else []

/-- VIB once the share is assessed. -/
def shareVib (v : Vib) : Vib :=
  { v with contaminatedMark := v.contaminatedMark || decide (v.pass.kept < v.pass.contaminated) }

theorem shareVib_over {v : Vib} (h : v.pass.kept < v.pass.contaminated) : shareVib v = { v with contaminatedMark := true } := by
  rw [shareVib, decide_eq_true h, Bool.or_true]

theorem shareVib_unmoved {v : Vib} (h : ¬(v.pass.kept < v.pass.contaminated ∧ v.contaminatedMark = false)) :
    shareVib v = v := by
  have hmark : (v.contaminatedMark || decide (v.pass.kept < v.pass.contaminated)) = v.contaminatedMark := by
    cases hm : v.contaminatedMark with
    | true => rfl
    | false => exact decide_eq_false fun hover => h ⟨hover, hm⟩
  rw [shareVib, hmark]

theorem assessShare_assessedTo (s : State) (es : List DevEvent) (v : Vib) :
    assessShare (assessedTo s es v) = assessedTo s (es ++ shareEvents s v) (shareVib v) := by
  obtain ⟨hvib, hrun, -⟩ := assessedTo_frame s es v
  rw [assessShare, hvib, hrun]
  by_cases h : v.pass.kept < v.pass.contaminated ∧ v.contaminatedMark = false
  · rw [if_pos h, withVib_assessedTo, takeDev_assessedTo, shareEvents, if_pos h, shareVib_over h.1]
  · rw [if_neg h, shareEvents, if_neg h, shareVib_unmoved h, List.append_nil]

end Sys2Proof.Machine
end

section
/-! SUPPORT. The worst band, and the assessment as a whole (O43). -/
namespace Sys2Proof.Machine

/-! ## The worst band (R98) -/

/-- A best band so far is the worst of the bands below `n`: the least margin, the lowest band where margins are equal. -/
def worstBelow (cells : List NoiseCell) (curve : List Nat) (n : Nat) : Option (Nat × Int) → Prop
  | none => ∀ d < n, marginOf cells curve d = none
  | some w => w.1 < n ∧ marginOf cells curve w.1 = some w.2
      ∧ ∀ d < n, ∀ m, marginOf cells curve d = some m → w.2 < m ∨ w.2 = m ∧ w.1 ≤ d

theorem worstBelow_keeps {cells : List NoiseCell} {curve : List Nat} {n : Nat} {w : Nat × Int}
    (h : worstBelow cells curve n (some w)) (hn : ∀ m, marginOf cells curve n = some m → w.2 ≤ m) :
    worstBelow cells curve (n + 1) (some w) := by
  obtain ⟨hlt, hm, hleast⟩ := h
  refine ⟨by omega, hm, fun d hd m hmd => ?_⟩
  rcases Nat.lt_succ_iff_lt_or_eq.mp hd with hd | rfl
  · exact hleast d hd m hmd
  · have := hn m hmd
    omega

theorem worstBelow_takes {cells : List NoiseCell} {curve : List Nat} {n : Nat} {m : Int}
    (hn : marginOf cells curve n = some m) (hless : ∀ d < n, ∀ m', marginOf cells curve d = some m' → m < m') :
    worstBelow cells curve (n + 1) (some (n, m)) := by
  refine ⟨Nat.lt_succ_self n, hn, fun d hd m' hmd => ?_⟩
  rcases Nat.lt_succ_iff_lt_or_eq.mp hd with hd | rfl
  · exact .inl (hless d hd m' hmd)
  · exact .inr ⟨Option.some.inj (hn.symm.trans hmd), le_rfl⟩

theorem worstBelow_worse {cells : List NoiseCell} {curve : List Nat} {n : Nat} {best : Option (Nat × Int)}
    (h : worstBelow cells curve n best) : worstBelow cells curve (n + 1) (worse cells curve best n) := by
  unfold worse
  cases hn : marginOf cells curve n with
  | none =>
    cases best with
    | none =>
      intro d hd
      rcases Nat.lt_succ_iff_lt_or_eq.mp hd with hd | rfl
      · exact h d hd
      · exact hn
    | some w => exact worstBelow_keeps h fun m hm => nomatch hn.symm.trans hm
  | some m =>
    cases best with
    | none => exact worstBelow_takes hn fun d hd m' hm => nomatch (h d hd).symm.trans hm
    | some w =>
      dsimp only
      split
      next hless =>
        obtain ⟨-, -, hleast⟩ := h
        refine worstBelow_takes hn fun d hd m' hm => ?_
        have := hleast d hd m' hm
        omega
      next hnot => exact worstBelow_keeps h fun m' hm => Option.some.inj (hn.symm.trans hm) ▸ Int.not_lt.mp hnot

theorem worstBelow_foldl (cells : List NoiseCell) (curve : List Nat) (n : Nat) :
    worstBelow cells curve n ((List.range n).foldl (worse cells curve) none) := by
  induction n with
  | zero => exact fun d hd => absurd hd (Nat.not_lt_zero d)
  | succ n ih =>
    rw [List.range_succ, List.foldl_append]
    exact worstBelow_worse ih

theorem marginOf_tested {cells : List NoiseCell} {curve : List Nat} {b : Nat}
    (h : 1 ≤ (cells.getD b cellZero).count ∧ curve.getD b 0 < 2048) :
    marginOf cells curve b = some ((curve.getD b 0 : Int) - ((cells.getD b cellZero).peak : Int)) := if_pos h

theorem tested_of_marginOf {cells : List NoiseCell} {curve : List Nat} {b : Nat} {m : Int} (h : marginOf cells curve b = some m) :
    (1 ≤ (cells.getD b cellZero).count ∧ curve.getD b 0 < 2048)
      ∧ m = (curve.getD b 0 : Int) - ((cells.getD b cellZero).peak : Int) := by
  unfold marginOf at h
  split at h
  next htested => exact ⟨htested, (Option.some.inj h).symm⟩
  · exact nomatch h

theorem worstNamed_worstOf (cells : List NoiseCell) (curve : List Nat) :
    worstNamed cells curve ((worstOf cells curve).map Prod.fst) (((worstOf cells curve).map Prod.snd).getD 0) := by
  have hworst : worstBelow cells curve 32 (worstOf cells curve) := worstBelow_foldl cells curve 32
  cases hw : worstOf cells curve with
  | none =>
    rw [hw] at hworst
    refine ⟨nofun, fun _ => ⟨rfl, fun d ⟨hd, htested⟩ => ?_⟩⟩
    exact nomatch (hworst d hd).symm.trans (marginOf_tested htested)
  | some w =>
    rw [hw] at hworst
    obtain ⟨hlt, hm, hleast⟩ := hworst
    obtain ⟨htested, hmargin⟩ := tested_of_marginOf hm
    refine ⟨?_, nofun⟩
    rintro b ⟨⟩
    exact ⟨⟨hlt, htested⟩, hmargin, fun d ⟨hd, ht⟩ => hleast d hd _ (marginOf_tested ht)⟩

/-- The worst band is told by the counts and the peaks alone. -/
theorem worstOf_congr {l m : List NoiseCell} {curve : List Nat}
    (h : ∀ b, (l.getD b cellZero).count = (m.getD b cellZero).count ∧ (l.getD b cellZero).peak = (m.getD b cellZero).peak) :
    worstOf l curve = worstOf m curve := by
  have hmargin : marginOf l curve = marginOf m curve := by
    funext b
    rw [marginOf, marginOf, (h b).1, (h b).2]
  have hworse : worse l curve = worse m curve := by
    funext best b
    unfold worse
    rw [hmargin]
  rw [worstOf, worstOf, hworse]

/-! ## The assessment as a whole (R91 to R95, R98) -/

/-- The events of the assessment, in their order. -/
def sweepEvents (s : State) : List DevEvent :=
  limitEvents .v1 (progOf s).curve1 s.vib.cells1 32 ++ limitEvents .v2 (progOf s).curve2 s.vib.cells2 32
    ++ coverageEvents s s.vib ++ shareEvents s s.vib

/-- VIB once the assessment has made its tests. -/
def sweepVib (s : State) : Vib := shareVib (coverageVib (progOf s) (limitsVib s))

/-- Coverage moves the repeats and the listen segments done alone. -/
theorem coverageVib_frame (p : Programme) (v : Vib) :
    (coverageVib p v).pass = v.pass ∧ (coverageVib p v).cycle = v.cycle
      ∧ (coverageVib p v).contaminatedMark = v.contaminatedMark ∧ (coverageVib p v).openRev = v.openRev
      ∧ (coverageVib p v).closedRev = v.closedRev ∧ (coverageVib p v).cells1 = v.cells1
      ∧ (coverageVib p v).cells2 = v.cells2 := by
  unfold coverageVib
  split <;> exact ⟨rfl, rfl, rfl, rfl, rfl, rfl, rfl⟩

theorem sweepVib_kept (s : State) : (sweepVib s).pass = s.vib.pass ∧ (sweepVib s).cycle = s.vib.cycle
    ∧ (sweepVib s).openRev = none ∧ (sweepVib s).closedRev = none := by
  obtain ⟨hpass, hcycle, -, hopen, hclosed, -, -⟩ := coverageVib_frame (progOf s) (limitsVib s)
  exact ⟨hpass, hcycle, hopen, hclosed⟩

theorem sweepVib_mark (s : State) : (sweepVib s).contaminatedMark
    = (s.vib.contaminatedMark || decide (s.vib.pass.kept < s.vib.pass.contaminated)) := by
  obtain ⟨hpass, -, hmark, -⟩ := coverageVib_frame (progOf s) (limitsVib s)
  rw [sweepVib, shareVib, hpass, hmark]
  rfl

theorem sweepVib_cells (s : State) : (sweepVib s).cells1 = cellsMarked (progOf s).curve1 32 s.vib.cells1
    ∧ (sweepVib s).cells2 = cellsMarked (progOf s).curve2 32 s.vib.cells2 := by
  obtain ⟨-, -, -, -, -, hcells1, hcells2⟩ := coverageVib_frame (progOf s) (limitsVib s)
  obtain ⟨hmarked1, hmarked2⟩ := limitsVib_cells s
  exact ⟨hcells1.trans hmarked1, hcells2.trans hmarked2⟩

theorem coverageVib_again {p : Programme} {v : Vib} (h : coverageRepeats p v = true) :
    coverageVib p v = { v with repeatCount := v.repeatCount + 1, sweepRepeats := bump 255 v.sweepRepeats } := if_pos h

theorem coverageVib_done {p : Programme} {v : Vib} (h : coverageRepeats p v = false) : coverageVib p v = segmentDone v :=
  if_neg (ne_true_of_eq_false h)

/-- Besides VIB and DEV the assessment moves the open record alone. -/
theorem noiseHanded_frame (s : State) : (noiseHanded s).run = s.run ∧ (noiseHanded s).lsn = s.lsn
    ∧ (noiseHanded s).sca = s.sca ∧ (noiseHanded s).leak = s.leak
    ∧ (noiseHanded s).store = s.store ∧ (noiseHanded s).peer = s.peer := by
  obtain ⟨v, d, -, heq⟩ := noiseHanded_eq s
  rw [heq]
  exact ⟨rfl, rfl, rfl, rfl, rfl, rfl⟩

section
variable {s : State} (hlen1 : s.vib.cells1.length = 32) (hlen2 : s.vib.cells2.length = 32)
include hlen1 hlen2

theorem uncoveredCount_limitsVib : uncoveredCount (progOf s) (limitsVib s) = uncoveredCount (progOf s) s.vib := by
  obtain ⟨hcells1, hcells2⟩ := limitsVib_cells s
  rw [uncoveredCount, uncoveredCount, bandCovered_marked (progOf s) hlen1 hlen2 hcells1 hcells2]

theorem coverageRepeats_limitsVib : coverageRepeats (progOf s) (limitsVib s) = coverageRepeats (progOf s) s.vib := by
  rw [coverageRepeats, coverageRepeats, uncoveredCount_limitsVib hlen1 hlen2]
  rfl

/-- Each test finds what the ones before it leave alone, so every event is told by the state at the sweep's end. -/
theorem assessCoverage_swept : assessCoverage (assessLimits (withVib dropRevs s)) = (assessedTo s
    (limitEvents .v1 (progOf s).curve1 s.vib.cells1 32 ++ limitEvents .v2 (progOf s).curve2 s.vib.cells2 32
      ++ coverageEvents s s.vib) (coverageVib (progOf s) (limitsVib s)), coverageRepeats (progOf s) s.vib) := by
  have hevents : coverageEvents s (limitsVib s) = coverageEvents s s.vib := by
    rw [coverageEvents, coverageEvents, uncoveredCount_limitsVib hlen1 hlen2]
    rfl
  rw [assessLimits_dropRevs, assessCoverage_assessedTo, hevents, coverageRepeats_limitsVib hlen1 hlen2]

theorem noiseJudged_eq : noiseJudged s = assessedTo s (sweepEvents s) (sweepVib s) := by
  have hevents : shareEvents s (coverageVib (progOf s) (limitsVib s)) = shareEvents s s.vib := by
    obtain ⟨hpass, -, hmark, -⟩ := coverageVib_frame (progOf s) (limitsVib s)
    rw [shareEvents, shareEvents, hpass, hmark]
    rfl
  rw [noiseJudged, assessCoverage_swept hlen1 hlen2, assessShare_assessedTo, hevents]
  rfl

theorem noiseAgain_eq : noiseAgain s = coverageRepeats (progOf s) s.vib := by
  rw [noiseAgain, assessCoverage_swept hlen1 hlen2]

theorem noiseHanded_dev_eq : (noiseHanded s).dev = ((sweepEvents s).foldl (fun u e => takeDev e u) s).dev := by
  rw [noiseHanded_dev, noiseJudged_eq hlen1 hlen2]
  rfl

theorem noiseHanded_vib_eq : (noiseHanded s).vib
    = { sweepVib s with state := .idle, summary := summaryOf (progOf s) (sweepVib s) } := by
  obtain ⟨hvib, -, hprog⟩ := assessedTo_frame s (sweepEvents s) (sweepVib s)
  rw [noiseHanded_vib, noiseJudged_eq hlen1 hlen2, hvib, hprog]

/-- The record holds the summary that VIB holds. -/
theorem noiseHanded_cyc : (noiseHanded s).cyc = { s.cyc with
    record := s.cyc.record.map (fun r => { r with noise := summaryOf (progOf s) (sweepVib s) }) } := by
  obtain ⟨v, d, -, heq⟩ := noiseHanded_eq s
  have hv : v = { sweepVib s with state := .idle, summary := summaryOf (progOf s) (sweepVib s) } := by
    rw [← noiseHanded_vib_eq hlen1 hlen2, heq]
  rw [heq, hv]

theorem sweepVib_again (h : coverageRepeats (progOf s) s.vib = true) : (sweepVib s).repeatCount = s.vib.repeatCount + 1
    ∧ (sweepVib s).sweepRepeats = min (s.vib.sweepRepeats + 1) 255 ∧ (sweepVib s).listenDone = s.vib.listenDone := by
  rw [sweepVib, coverageVib_again ((coverageRepeats_limitsVib hlen1 hlen2).trans h)]
  exact ⟨rfl, rfl, rfl⟩

theorem sweepVib_done (h : coverageRepeats (progOf s) s.vib = false) : (sweepVib s).repeatCount = 0
    ∧ (sweepVib s).sweepRepeats = s.vib.sweepRepeats ∧ (sweepVib s).listenDone = min (s.vib.listenDone + 1) 16 := by
  rw [sweepVib, coverageVib_done ((coverageRepeats_limitsVib hlen1 hlen2).trans h)]
  exact ⟨rfl, rfl, rfl⟩

theorem sweepVib_marked {b : Nat} (hb : b < 32) :
    (sweepVib s).cells1.getD b cellZero = limitMarked (progOf s).curve1 b (s.vib.cells1.getD b cellZero)
      ∧ (sweepVib s).cells2.getD b cellZero = limitMarked (progOf s).curve2 b (s.vib.cells2.getD b cellZero) := by
  rw [(sweepVib_cells s).1, (sweepVib_cells s).2]
  exact ⟨cellsMarked_getD_below hb (by omega), cellsMarked_getD_below hb (by omega)⟩

/-- The summary is told by the levels at the sweep's end: the marks set meanwhile are none of its business. -/
theorem summaryOf_sweepVib : summaryOf (progOf s) (sweepVib s) = { summaryOf (progOf s) s.vib with
    sweepRepeats := (sweepVib s).sweepRepeats, listenDone := (sweepVib s).listenDone } := by
  obtain ⟨hcells1, hcells2⟩ := sweepVib_cells s
  have hcovered : coveredCount (progOf s) (sweepVib s) = coveredCount (progOf s) s.vib := by
    rw [coveredCount, coveredCount, bandCovered_marked (progOf s) hlen1 hlen2 hcells1 hcells2]
  have hworst1 : worstOf (sweepVib s).cells1 (progOf s).curve1 = worstOf s.vib.cells1 (progOf s).curve1 := by
    rw [hcells1, worstOf_congr (cellsMarked_levels hlen1.ge)]
  have hworst2 : worstOf (sweepVib s).cells2 (progOf s).curve2 = worstOf s.vib.cells2 (progOf s).curve2 := by
    rw [hcells2, worstOf_congr (cellsMarked_levels hlen2.ge)]
  rw [summaryOf, hworst1, hworst2, hcovered, (sweepVib_kept s).2.1]
  rfl

end

/-- Settles O43: the events, VIB and the summary that the tests leave, one after the other. A closed revolution that waits for
its conversion is dropped with the open one (assumption 20), and the cycle's repeats saturate at 255 (assumption 51). -/
theorem sweepIsAssessed : Obligations.SweepIsAssessed := by
  intro s hidle hlen1 hlen2
  obtain ⟨hpass, hcycle, hopen, hclosed⟩ := sweepVib_kept s
  refine ⟨noiseHanded s, noiseAgain s, progOf s, _, _, _, assessSweep_eq hidle, rfl, rfl, rfl, rfl, ?_⟩
  rw [← uncoveredCount_eq (progOf s) s.vib, noiseHanded_vib_eq hlen1 hlen2, noiseAgain_eq hlen1 hlen2,
    noiseHanded_cyc hlen1 hlen2, summaryOf_sweepVib hlen1 hlen2]
  exact ⟨noiseHanded_dev_eq hlen1 hlen2, decide_eq_true_iff, sweepVib_again hlen1 hlen2, sweepVib_done hlen1 hlen2,
    sweepVib_mark s, rfl, hopen, hclosed, hpass, hcycle, fun b hb => sweepVib_marked hlen1 hlen2 hb,
    worstNamed_worstOf _ _, worstNamed_worstOf _ _, covered_add_uncovered (progOf s) s.vib, rfl, rfl, rfl, rfl, rfl, rfl,
    noiseHanded_frame s⟩

end Sys2Proof.Machine
end

section
/-! SUPPORT. What a step can do to SCA: every step is a sequence of the moves listed here, and the law of the phase tables is
kept move by move (O59). -/
namespace Sys2Proof.Machine

/-! ## The jobs and CYC leave SCA -/

@[simp] theorem leakExpiry_sca (s : State) : (leakExpiry s).sca = s.sca := by simp [leakExpiry]

@[simp] theorem abortCycle_sca (e : DevEvent) {stop : State → State} (hstop : ∀ u, (stop u).sca = u.sca) (s : State) :
    (abortCycle e stop s).sca = s.sca := by
  simp [abortCycle_eq, aborting, hstop]

@[simp] theorem standAbort_sca (input : Nat) (s : State) : (standAbort input s).sca = s.sca := by
  unfold standAbort
  split <;> simp

@[simp] theorem axleFall_sca (which : AxleInput) (s : State) : (axleFall which s).sca = s.sca := by
  unfold axleFall
  (repeat' split) <;> simp

@[simp] theorem abortTaken_sca (broadcast : Bool) (s : State) : (abortTaken broadcast s).sca = s.sca := by
  unfold abortTaken
  split <;> simp

@[simp] theorem startCycle_sca (programme : Nat) (serial stamp : List Byte) (s : State) :
    (startCycle programme serial stamp s).sca = s.sca := by
  simp [startCycle_eq, startReady]

@[simp] theorem segmentEnd_sca (s : State) : (segmentEnd s).sca = s.sca := by
  rw [segmentEnd_eq]
  split <;> simp [segmentCounted]

@[simp] theorem takeOutcome_sca (again : Bool) (s : State) : (takeOutcome again s).sca = s.sca := by
  unfold takeOutcome
  split <;> simp

@[simp] theorem moveStep_sca (target rate : Nat) (s : State) : (moveStep target rate s).sca = s.sca := by
  unfold moveStep
  dsimp only
  split <;> simp

@[simp] theorem dwellStep_sca (g : Segment) (s : State) : (dwellStep g s).sca = s.sca := by
  unfold dwellStep
  dsimp only
  split <;> simp

@[simp] theorem sweepEnd_sca (s : State) : (sweepEnd s).sca = s.sca := by
  obtain ⟨-, -, hnoise, -⟩ := noiseHanded_frame (lsnSweepEnded (setStage .assessing s))
  unfold sweepEnd
  by_cases hv : (lsnSweepEnded (setStage .assessing s)).vib.state = .idle
  · rw [assessSweep, if_pos hv]
    simp
  · rw [assessSweep_eq hv]
    simp [hnoise]

@[simp] theorem sweepStep_sca (g : Segment) (s : State) : (sweepStep g s).sca = s.sca := by
  unfold sweepStep
  dsimp only
  (repeat' split) <;> simp

@[simp] theorem actStep_sca (s : State) : (actStep s).sca = s.sca := by
  unfold actStep
  (repeat' split) <;> simp

@[simp] theorem activeStep_sca (s : State) : (activeStep s).sca = s.sca := by
  have hended (u : State) : (stepEnded u).sca = u.sca := by simp
  unfold activeStep
  refine (hended _).trans ?_
  split <;> simp

@[simp] theorem rampStep_sca (s : State) : (rampStep s).sca = s.sca := by
  unfold rampStep
  split <;> simp

@[simp] theorem ownAbort_sca (broadcast : Bool) (s : State) : (ownAbort broadcast s).sca = s.sca := by
  unfold ownAbort
  (repeat' split) <;> simp

@[simp] theorem ownStart_sca (body : List Byte) (s : State) : (ownStart body s).sca = s.sca := by
  unfold ownStart
  split <;> simp

@[simp] theorem periodExpiry_sca (a b : Bool) (s : State) : (periodExpiry a b s).sca = s.sca := by
  unfold periodExpiry expiryReaders
  split <;> simp

/-! ## The moves -/

/-- The tables that a reset leaves active: a RESTART the one it finds, any other reset the 32 IDLE entries (R108, R110). -/
inductive ScaReset (c : Sca) : List Nat → Prop
  | restart : ScaReset c c.active
  | hard : ScaReset c idleTable

/-- SCA one ms on (R109). -/
def scaTicked (c : Sca) : Sca :=
  { c with
    torq := tickSlow c.torq
    oilt := tickSlow c.oilt
    prs1 := tickSlow c.prs1
    airt1 := tickSlow c.airt1
    prs2 := tickSlow c.prs2
    airt2 := tickSlow c.airt2 }

theorem slowOf_scaTicked (c : Sca) (ch : Slow) : slowOf (scaTicked c) ch = tickSlow (slowOf c ch) := by cases ch <;> rfl

/-- One move of SCA. -/
inductive ScaMove : Sca → Sca → Prop
  /-- A PHASES accepted (R105). -/
  | loaded (c : Sca) {codes : List Nat} (h : tableKept codes) : ScaMove c { c with pending := codes, pendingFlag := true }
  /-- A wrap that applies the pending table (R106). -/
  | applied (c : Sca) : ScaMove c { c with active := c.pending, pendingFlag := false }
  /-- The pointer at the next phase (R102). -/
  | advanced (c : Sca) (h : c.pointer ≠ 31) : ScaMove c { c with pointer := c.pointer + 1 }
  /-- The pointer back at phase 0 (R102). -/
  | wrapped (c : Sca) : ScaMove c { c with pointer := 0 }
  /-- A conversion started, or none for IDLE (R102). -/
  | converting (c : Sca) : ScaMove c (startConversion c)
  /-- A conversion complete (R103). -/
  | sampled (c : Sca) (ch : Slow) {code : Nat} (h : code ≤ 4095) :
      ScaMove c { setSlow ch ⟨code, true, 0⟩ c with inFlight := none }
  /-- A reset (R111). -/
  | reset (c : Sca) {table : List Nat} (h : ScaReset c table) (rota : Bool) : ScaMove c (scaReset table rota)
  /-- The rota started on the table that the image gives (R108). -/
  | started (c : Sca) {table : List Nat} (h : tableKept table) : ScaMove c { c with active := table, pointer := 0, rota := true }
  /-- One ms (R109). -/
  | ticked (c : Sca) : ScaMove c (scaTicked c)

/-- From one state to the next SCA makes a sequence of moves. -/
abbrev ScaMoves (s t : State) : Prop := Relation.ReflTransGen ScaMove s.sca t.sca

/-! ## The law, move by move -/

theorem tableKept_idleTable : tableKept idleTable := by decide

theorem slowKept_slowReset : slowKept slowReset := by decide

theorem slowKept_tickSlow {x : SlowValue} (h : slowKept x) : slowKept (tickSlow x) := by
  unfold tickSlow
  split
  next hs => exact ⟨h.1, Nat.min_le_right _ _, fun hno => absurd (hs.symm.trans hno) (by decide)⟩
  · exact h

/-- The law of the phase tables, as it speaks of SCA. -/
structure Sca.Lawful (c : Sca) : Prop where
  active : tableKept c.active
  pending : tableKept c.pending
  pointer : c.pointer ≤ 31
  slow : ∀ ch, slowKept (slowOf c ch)

theorem phaseLaw_iff (s : State) : phaseLaw s ↔ s.sca.Lawful := by
  constructor
  · rintro ⟨hactive, hpending, hpointer, hslow⟩
    exact ⟨hactive, hpending, hpointer, fun ch => hslow _ (by cases ch <;> simp [slowOf])⟩
  · rintro ⟨hactive, hpending, hpointer, hslow⟩
    refine ⟨hactive, hpending, hpointer, ?_⟩
    simp only [List.forall_mem_cons]
    exact ⟨hslow .torq, hslow .oilt, hslow .prs1, hslow .airt1, hslow .prs2, hslow .airt2, nofun⟩

theorem setSlow_tables (ch : Slow) (x : SlowValue) (c : Sca) : (setSlow ch x c).active = c.active
    ∧ (setSlow ch x c).pending = c.pending ∧ (setSlow ch x c).pointer = c.pointer := by
  cases ch <;> exact ⟨rfl, rfl, rfl⟩

theorem lawful_setSlow {c : Sca} (h : c.Lawful) (ch : Slow) {x : SlowValue} (hx : slowKept x) :
    (setSlow ch x c).Lawful := by
  obtain ⟨hactive, hpending, hpointer⟩ := setSlow_tables ch x c
  refine ⟨hactive ▸ h.active, hpending ▸ h.pending, hpointer ▸ h.pointer, fun d => ?_⟩
  by_cases hd : d = ch
  · rw [hd, slowOf_setSlow_same]
    exact hx
  · rw [slowOf_setSlow_other x c hd]
    exact h.slow d

theorem lawful_scaReset {table : List Nat} (h : tableKept table) (rota : Bool) : (scaReset table rota).Lawful :=
  ⟨h, tableKept_idleTable, Nat.zero_le _, fun ch => by cases ch <;> exact slowKept_slowReset⟩

theorem lawful_of_move {c d : Sca} (h : ScaMove c d) (hc : c.Lawful) : d.Lawful := by
  obtain ⟨hactive, hpending, hpointer, hslow⟩ := hc
  cases h with
  | loaded hcodes => exact ⟨hactive, hcodes, hpointer, hslow⟩
  | applied => exact ⟨hpending, hpending, hpointer, hslow⟩
  | advanced hn => exact ⟨hactive, hpending, Nat.succ_le_of_lt (Nat.lt_of_le_of_ne hpointer hn), hslow⟩
  | wrapped => exact ⟨hactive, hpending, Nat.zero_le _, hslow⟩
  | converting => exact ⟨hactive, hpending, hpointer, hslow⟩
  | sampled ch hcode =>
    have hkept : slowKept ⟨_, true, 0⟩ := ⟨hcode, Nat.zero_le _, nofun⟩
    obtain ⟨ha, hp, hn, hs⟩ := lawful_setSlow ⟨hactive, hpending, hpointer, hslow⟩ ch hkept
    exact ⟨ha, hp, hn, hs⟩
  | reset htable rota =>
    cases htable with
    | restart => exact lawful_scaReset hactive rota
    | hard => exact lawful_scaReset tableKept_idleTable rota
  | started htable => exact ⟨htable, hpending, Nat.zero_le _, hslow⟩
  | ticked => exact ⟨hactive, hpending, hpointer, fun ch => slowOf_scaTicked c ch ▸ slowKept_tickSlow (hslow ch)⟩

theorem lawful_of_moves {c d : Sca} (h : Relation.ReflTransGen ScaMove c d) (hc : c.Lawful) : d.Lawful := by
  induction h with
  | refl => exact hc
  | tail _ hm ih => exact lawful_of_move hm ih

/-! ## Every operation as moves -/

theorem tableKept_cfgOfImage (number : Nat) (image : List Byte) : tableKept (cfgOfImage number image).station.table := by
  unfold cfgOfImage
  split
  · exact tableKept_clamped (by simp [readStation, fields1])
  · show tableKept builtinTable
    decide

theorem wellFormedBody_phases (body : List Byte) : wellFormedBody codePhases body = (body.length == 32) := by
  simp [wellFormedBody, codePhases, codeAbort, codeRdnew, codeRestart, codeFind, codeItem]

namespace ScaMoves

theorem refl (s : State) : ScaMoves s s := Relation.ReflTransGen.refl

theorem trans {s t u : State} (h : ScaMoves s t) (h' : ScaMoves t u) : ScaMoves s u := Relation.ReflTransGen.trans h h'

theorem move {s t : State} (h : ScaMove s.sca t.sca) : ScaMoves s t := .single h

theorem of_sca {s t : State} (h : t.sca = s.sca) : ScaMoves s t := by rw [ScaMoves, h]

/-! ### The rota (R102 to R108) -/

theorem phaseBoundary (s : State) : ScaMoves s (phaseBoundary s) := by
  have hwrapped : ScaMoves s (withSca (fun c => { c with pointer := 0 }) s) := move (.wrapped s.sca)
  have happlied (u : State) : ScaMoves u (applyPending u) := by
    unfold applyPending
    split
    · exact move (by simpa using ScaMove.applied u.sca)
    · exact refl u
  have hconverting (u : State) : ScaMoves u (withSca startConversion u) := move (.converting u.sca)
  unfold Machine.phaseBoundary
  split
  · split
    · exact (hwrapped.trans (happlied _)).trans (hconverting _)
    next hn =>
      have hadvanced : ScaMoves s (withSca (fun c => { c with pointer := c.pointer + 1 }) s) := move (.advanced s.sca hn)
      exact hadvanced.trans (hconverting _)
  · exact refl s

theorem slowDone {code : Nat} (hcode : code ≤ 4095) (s : State) : ScaMoves s (slowDone code s) := by
  cases hf : s.sca.inFlight with
  | none =>
    rw [slowDone_idle _ hf]
  | some ch =>
    have hwritten : ScaMoves s (slowWritten ch code s) := move (.sampled s.sca ch hcode)
    rw [slowDone_eq _ hf]
    exact hwritten.trans (of_sca (by simp))

/-! ### Resets and the image (R108, R111) -/

theorem takeRestart (s : State) : ScaMoves s (takeRestart s) := by
  have hblocks : ScaMoves s (resetBlocks .restart s.sca.active true s) := move (.reset s.sca .restart true)
  exact hblocks.trans (of_sca (by simp [Machine.takeRestart]))

theorem holdReset (k : HardReset) (s : State) : ScaMoves s (holdReset k s) := by
  unfold Machine.holdReset
  split
  · exact refl s
  · exact move (.reset s.sca .hard false)

theorem imageRead (image : List Byte) (s : State) : ScaMoves s (imageRead image s) := by
  have hstarted : ScaMoves s (startRota (cfgOfImage s.cfg.number image).station.table
      { s with cfg := cfgOfImage s.cfg.number image }) := move (.started s.sca (tableKept_cfgOfImage _ _))
  exact hstarted.trans (of_sca (by simp [Machine.imageRead]))

/-! ### Orders and postings (R105, R180) -/

/-- A PHASES of the right length is answered, and loads its codes where it is accepted (R105). -/
theorem ownPhases {body : List Byte} (hlen : body.length = 32) (s : State) : ScaMoves s (ownPhases body s) := by
  unfold Machine.ownPhases
  split
  · exact of_sca (by simp)
  · split
    next hcodes =>
      have htable : tableKept (body.map BitVec.toNat) := by
        refine ⟨by simpa using hlen, fun code hcode => ?_⟩
        obtain ⟨b, hb, rfl⟩ := List.mem_map.mp hcode
        exact of_decide_eq_true (List.all_eq_true.mp hcodes b hb)
      exact move (.loaded s.sca htable)
    · exact of_sca (by simp)

theorem ownRestart (broadcast : Bool) (s : State) : ScaMoves s (ownRestart broadcast s) := by
  unfold Machine.ownRestart
  split
  · split <;> exact of_sca (by simp)
  · split
    · exact takeRestart s
    · exact of_sca (by simp)

theorem ownOrder {order : Byte} {body : List Byte} (hw : wellFormedBody order body = true) (broadcast : Bool) (s : State) :
    ScaMoves s (ownOrder broadcast order body s) := by
  unfold Machine.ownOrder
  split
  · exact of_sca (by simp)
  split
  · exact of_sca (by simp)
  split
  · exact of_sca (by simp)
  split
  next hphases =>
    rw [hphases, wellFormedBody_phases] at hw
    exact ownPhases (beq_iff_eq.mp hw) s
  split
  · exact of_sca (by simp)
  split
  · exact of_sca (by simp)
  split
  · exact ownRestart _ s
  · exact of_sca (by simp)

theorem takeOrder (dest : Byte) (payload : List Byte) (s : State) : ScaMoves s (takeOrder dest payload s) := by
  unfold Machine.takeOrder
  split
  · split <;> exact of_sca (by simp)
  · unfold judgeOrder
    split
    · exact of_sca (by simp)
    split
    · exact of_sca (by simp)
    split
    · exact of_sca (by simp)
    split
    · split <;> exact of_sca (by simp)
    next hw => exact ownOrder (by simpa using hw) _ s

theorem drain (n : Nat) (s : State) : ScaMoves s (drain n s) := by
  induction n generalizing s with
  | zero => exact refl s
  | succ n ih =>
    have hpop : ScaMoves s (popBuffer s) := of_sca (by simp)
    unfold Machine.drain
    split
    · exact refl s
    · exact (of_sca (t := takeRepeatPosting _ _ (popBuffer s)) (by simp)).trans (ih _)
    · split
      · split
        · exact (hpop.trans (takeOrder _ _ _)).trans (ih _)
        · exact refl s
      · exact (of_sca (t := takeFullPosting _ _ _ (popBuffer s)) (by simp)).trans (ih _)

theorem receive (f : Frame) (own : Bool) (s : State) : ScaMoves s (receive f own s) := by
  unfold Machine.receive
  split
  · split
    · exact of_sca (by simp)
    · exact (of_sca (t := withLif _ s) (by simp)).trans (drain _ _)
  · exact refl s

theorem serveRead (s : State) : ScaMoves s (serveRead s) := by
  cases hd : s.lif.decoder with
  | free => unfold Machine.serveRead; rw [hd]
  | restarting => unfold Machine.serveRead; rw [hd]
  | reading r =>
    obtain ⟨answer, h⟩ := serveRead_reading hd
    have hfreed : ScaMoves s (withLif (fun l => { l with decoder := .free }) (queueReply answer s)) := of_sca (by simp)
    rw [h, readServed]
    split
    · exact hfreed
    · exact (hfreed.trans (of_sca (t := seeInputs _) (by simp))).trans (drain _ _)

theorem frameEnded (s : State) : ScaMoves s (frameEnded s) := by
  unfold Machine.frameEnded
  split
  · split
    · split
      · exact (of_sca (t := seeInputs (setClassifier .waitStart s)) (by simp)).trans (receive _ _ _)
      · exact of_sca (by simp)
    · exact of_sca (by simp)
  · exact refl s

/-- A frame sent: the ACCEPTED of a RESTART brings the reset (R188). -/
theorem sent (s : State) : ScaMoves s (sent s) := by
  unfold Machine.sent
  split
  · split
    · unfold replySent
      split
      · split
        · exact (of_sca (t := seeInputs s) (by simp)).trans (takeRestart _)
        · exact of_sca (by simp)
      · exact of_sca (by simp)
    · exact of_sca (by simp)
    · exact of_sca (by simp)
    · exact of_sca (by simp)
  · exact refl s

/-! ### Every command -/

/-- A command that a running station takes; one held in reset sees the input levels alone. -/
theorem ofReleased {f : State → State} {s t : State} {p : Pins} (h : whenReleased f { s with pins := p } = .next t)
    (hf : ScaMoves { s with pins := p } (f { s with pins := p })) : ScaMoves s t := by
  rcases whenReleased_cases f { s with pins := p } with ⟨-, he⟩ | ⟨-, he⟩
  · obtain rfl := Host.Outcome.next.inj (he.symm.trans h)
    exact of_sca rfl
  · obtain rfl := Host.Outcome.next.inj (he.symm.trans h)
    exact trans (t := f { s with pins := p }) hf (of_sca (by simp))

/-- The same for a meaning that leaves SCA. -/
theorem ofStill {f : State → State} {s t : State} {p : Pins} (h : whenReleased f { s with pins := p } = .next t)
    (hf : ∀ u, (f u).sca = u.sca) : ScaMoves s t := ofReleased h (of_sca (hf _))

theorem exec {c : Instr} {s t : State} (h : exec c s = .next t) : ScaMoves s t := by
  cases c with
  | abort dest body => exact ofReleased (p := s.pins) h (receive _ _ _)
  | find dest body => exact ofReleased (p := s.pins) h (receive _ _ _)
  | item dest body => exact ofReleased (p := s.pins) h (receive _ _ _)
  | phases dest body => exact ofReleased (p := s.pins) h (receive _ _ _)
  | rdnew dest body => exact ofReleased (p := s.pins) h (receive _ _ _)
  | rdseq dest body => exact ofReleased (p := s.pins) h (receive _ _ _)
  | restart straps dest body => exact ofReleased h (receive _ _ _)
  | start lines dest body => exact ofReleased h (receive _ _ _)
  | storeReadServed => exact ofReleased (p := s.pins) h (serveRead _)
  | fullPostingReceived event own source payload => exact ofReleased (p := s.pins) h (receive _ _ _)
  | repeatPostingReceived own station => exact ofReleased (p := s.pins) h (receive _ _ _)
  | frameEnd => exact ofReleased (p := s.pins) h (frameEnded _)
  | pulseError ns => exact ofStill (p := s.pins) h fun u => by simp
  | lineStuck =>
    unfold Machine.exec execLineStuck at h
    exact ofStill (p := s.pins) h fun u => by split <;> simp
  | transmitAttempt => exact ofStill (p := s.pins) h fun u => by simp
  | arbitrationWon => exact ofStill (p := s.pins) h fun u => by simp
  | arbitrationLost => exact ofStill (p := s.pins) h fun u => by simp
  | frameSent => exact ofReleased (p := s.pins) h (sent _)
  | restartTimeout =>
    unfold Machine.exec execRestartTimeout at h
    refine ofReleased (p := s.pins) h ?_
    split
    · exact (of_sca (t := seeInputs s) (by simp)).trans (takeRestart _)
    · exact refl s
  | postingPeriodExpiry a b => exact ofStill (p := s.pins) h (periodExpiry_sca a b)
  | rampStep => exact ofStill (p := s.pins) h rampStep_sca
  | indexPulse us =>
    unfold Machine.exec execIndexPulse at h
    exact ofStill (p := s.pins) h fun u => rfl
  | indexTimeout =>
    unfold Machine.exec execIndexTimeout at h
    exact ofStill (p := s.pins) h fun u => rfl
  | countingPulse =>
    unfold Machine.exec execCountingPulse at h
    exact ofStill (p := s.pins) h fun u => by split <;> rfl
  | conversionComplete code =>
    unfold Machine.exec execConversionComplete at h
    exact ofStill (p := s.pins) h fun u => by split <;> rfl
  | phaseBoundary => exact ofReleased (p := s.pins) h (phaseBoundary _)
  | slowConversionComplete code => exact ofReleased (p := s.pins) h (slowDone (Nat.le_of_lt_succ code.isLt) _)
  | oilHistoryAppend =>
    unfold Machine.exec execOilHistoryAppend at h
    exact ofStill (p := s.pins) h fun u => by split <;> simp
  | deferralLimit => exact ofStill (p := s.pins) h fun u => by simp
  | airWaitLimit c => exact ofStill (p := s.pins) h fun u => by simp
  | fillTimerExpiry c => exact ofStill (p := s.pins) h fun u => by simp
  | stabiliseTimerExpiry c => exact ofStill (p := s.pins) h fun u => by simp
  | measureTimerExpiry c => exact ofStill (p := s.pins) h fun u => by simp
  | ventTimerExpiry c => exact ofStill (p := s.pins) h fun u => by simp
  | swapStepDone verified =>
    unfold Machine.exec execSwapStepDone at h
    exact ofStill (p := s.pins) h fun u => by (repeat' split) <;> simp
  | swapEnd =>
    unfold Machine.exec execSwapEnd at h
    exact ofStill (p := s.pins) h fun u => by (repeat' split) <;> simp
  | driveReadyFall => exact ofStill h fun u => by simp
  | standStopOpen => exact ofStill h (standAbort_sca 1)
  | axleInputFall which => exact ofStill h (axleFall_sca which)
  | supplyWarningRaised => exact ofStill h fun u => by simp
  | supplyWarningCleared =>
    unfold Machine.exec execSupplyWarningCleared at h
    exact ofStill h fun u => by simp
  | reset kind =>
    obtain rfl := Host.Outcome.next.inj h
    exact holdReset kind s
  | resetRelease straps supplyLow =>
    unfold Machine.exec execResetRelease at h
    dsimp only at h
    split at h
    · obtain rfl := Host.Outcome.next.inj h
      exact of_sca (by simp)
    · obtain rfl := Host.Outcome.next.inj h
      exact refl s
  | imageReadDone image =>
    unfold Machine.exec execImageReadDone at h
    refine ofReleased (p := s.pins) h ?_
    split
    · exact imageRead image s
    · exact refl s
  | storeScanDone =>
    unfold Machine.exec execStoreScanDone at h
    exact ofStill (p := s.pins) h fun u => by split <;> simp
  | busIdle => exact ofStill (p := s.pins) h fun u => by simp
  | startPulse ns => exact ofStill (p := s.pins) h fun u => by simp
  | bitPulse ns => exact ofStill (p := s.pins) h fun u => by simp

/-- A whole millisecond counts on the time since each slow channel's conversion; a quarter leaves SCA. -/
theorem tick (s : State) : ScaMoves s (tick s) := by
  unfold Machine.tick
  split
  · exact refl s
  · split
    · exact of_sca rfl
    · exact move (.ticked s.sca)

end ScaMoves

/-- Settles O59: the law of the phase tables, through every move that a step makes of SCA. -/
theorem stepsKeepThePhaseTables : Obligations.StepsKeepThePhaseTables := by
  intro s t hs h
  rw [phaseLaw_iff] at hs ⊢
  have hmoves : ScaMoves s t := by
    rcases step_cases h with ⟨c, rest, -, hc⟩ | rfl
    · exact ScaMoves.exec (s := { s with pending := rest }) hc
    · exact .tick s
  exact lawful_of_moves hmoves hs

end Sys2Proof.Machine
end

section
/-! SUPPORT. A phase boundary by the pointer and the pending flag (O44), and the answers of a PHASES (O17). -/
namespace Sys2Proof.Machine

/-! ## PHASE_BOUNDARY (R102, R106, R107) -/

/-- The pointer at a phase, and the channel of its entry in conversion. -/
def boundaryAt (n : Nat) (s : State) : State :=
  { s with sca := { s.sca with pointer := n, inFlight := slowOfCode (s.sca.active.getD n 0) } }

theorem phaseBoundary_stopped {s : State} (h : s.sca.rota = false) : phaseBoundary s = s := by
  rw [phaseBoundary, if_neg (by simp [h])]

theorem phaseBoundary_rises {s : State} (h : s.sca.rota = true) (hp : s.sca.pointer ≠ 31) :
    phaseBoundary s = boundaryAt (s.sca.pointer + 1) s := by
  rw [phaseBoundary, if_pos h, if_neg hp]
  rfl

/-- LEAK told of the channels that the pending table drops. -/
def leakApplied (s : State) : Leak := (leakDropped (droppedBy s.sca.active s.sca.pending) s).leak

/-- The pending table applied, before the entry is read. -/
def tableApplied (s : State) : State :=
  { s with sca := { s.sca with active := s.sca.pending, pendingFlag := false }, leak := leakApplied s }

theorem phaseBoundary_wraps {s : State} (h : s.sca.rota = true) (hp : s.sca.pointer = 31) (hf : s.sca.pendingFlag = false) :
    phaseBoundary s = boundaryAt 0 s := by
  rw [phaseBoundary, if_pos h, if_pos hp, applyPending, if_neg (by simp [hf])]
  rfl

theorem phaseBoundary_applies {s : State} (h : s.sca.rota = true) (hp : s.sca.pointer = 31) (hf : s.sca.pendingFlag = true) :
    phaseBoundary s = boundaryAt 0 (tableApplied s) := by
  rw [phaseBoundary, if_pos h, if_pos hp, applyPending, if_pos (by simp [hf])]
  rfl

theorem leakApplied_circuit (s : State) (c : CircuitId) : (leakApplied s).circuit c =
    dropWindows (droppedBy s.sca.active s.sca.pending (prsOf c)) (droppedBy s.sca.active s.sca.pending (airtOf c))
      (s.leak.circuit c) := by
  cases c <;> rfl

theorem dropWindows_other {k : Circuit} (prs airt : Bool) (h : k.state ≠ .measure) : dropWindows prs airt k = k := if_neg h

theorem dropWindows_measure {k : Circuit} (prs airt : Bool) (h : k.state = .measure) : dropWindows prs airt k =
    { k with endPrs := if prs then [] else k.endPrs, endAirt := if airt then [] else k.endAirt } := if_pos h

/-- Settles O44: the boundary before the rota, at a phase below 31, and at the wrap without and with the flag. -/
theorem phaseBoundaryServesTheTable : Obligations.PhaseBoundaryServesTheTable := by
  intro s hb
  refine ⟨fun hr => whenReleased_eq hb (phaseBoundary_stopped hr),
    fun hr hp => whenReleased_eq hb (phaseBoundary_rises hr hp),
    fun hr hp hf => whenReleased_eq hb (phaseBoundary_wraps hr hp hf),
    fun hr hp hf => ⟨leakApplied s, whenReleased_eq hb (phaseBoundary_applies hr hp hf), fun c hc => ?_, fun c hc => ?_⟩⟩
  · rw [leakApplied_circuit, dropWindows_other _ _ hc]
  · rw [leakApplied_circuit, dropWindows_measure _ _ hc]
    exact ⟨rfl, rfl, rfl⟩

/-! ## PHASES (R105) -/

theorem ownOrder_phases (broadcast : Bool) (body : List Byte) (s : State) :
    ownOrder broadcast codePhases body s = ownPhases body s := by
  simp [ownOrder, codePhases, codeAbort, codeFind, codeItem]

/-- An addressed PHASES of the right length, taken at once, goes to SCA. -/
theorem receive_phases {dest : Byte} {codes : List Byte} {s : State} (h : takesOrders s) (hd : addressed s dest)
    (hlen : codes.length = 32) : receive (orderFrame dest codePhases codes) false s = ownPhases codes s := by
  rw [receive_owned h hd rfl ((wellFormedBody_phases codes).trans (beq_iff_eq.mpr hlen)), ownOrder_phases]

theorem ownPhases_starting {codes : List Byte} {s : State} (h : s.cyc.station = .starting) :
    ownPhases codes s = queueReply (refusal codePhases .starting) s := if_pos h

theorem ownPhases_bad {codes : List Byte} {s : State} (h : s.cyc.station ≠ .starting) (hc : ∃ x ∈ codes, 6 < x.toNat) :
    ownPhases codes s = queueReply (badOrder codePhases codes) s := by
  obtain ⟨x, hx, h6⟩ := hc
  have hall : ¬ codes.all (fun b => decide (b.toNat ≤ 6)) = true := fun ha =>
    absurd (of_decide_eq_true (List.all_eq_true.mp ha x hx)) (by omega)
  rw [ownPhases, if_neg h, if_neg hall]

theorem ownPhases_loads {codes : List Byte} {s : State} (h : s.cyc.station ≠ .starting) (hc : ∀ x ∈ codes, x.toNat ≤ 6) :
    ownPhases codes s = queueReply (plainReply codePhases .accepted) (loadPhases (codes.map BitVec.toNat) s) := by
  rw [ownPhases, if_neg h, if_pos (List.all_eq_true.mpr fun x hx => decide_eq_true (hc x hx))]

/-- Settles O17: SCA's three answers. -/
theorem phasesLoadsThePendingTable : Obligations.PhasesLoadsThePendingTable := by
  intro dest codes s h hd hlen
  have hexec {t : State} (ht : ownPhases codes s = t) : exec (.phases dest codes) s = .next (leaveIdle t) :=
    whenReleased_eq h.1.1 ((receive_phases h hd hlen).trans ht)
  exact ⟨fun hst => hexec (ownPhases_starting hst), fun hst hc => hexec (ownPhases_bad hst hc),
    fun hst hc => hexec (ownPhases_loads hst hc)⟩

end Sys2Proof.Machine
end

section
/-! SUPPORT. The expiry of the measure timer: the windows judged, or too short to be (O29). -/
namespace Sys2Proof.Machine

/-- A circuit that the computation has judged (R126). -/
def circuitJudged (r : LeakResult) (p : CircuitParams) (k : Circuit) : Circuit :=
  { endWith r.outcome p (takeAverages k) with leakRate := some r.rate, d8 := r.d8 }

/-- A circuit as the expiry of its measure timer leaves it: STARVED, or judged (R126). -/
def measureEnded (p : CircuitParams) (k : Circuit) : Circuit :=
  if smallestWindow k < 8 then endWith .starved p (takeAverages k)
  else circuitJudged (judgeLeak (windowSums k) p) p k

/-- What the expiry tells DEV: SAMPLE_STARVED, or the class that the computation raised (R126). -/
def measureTold (c : CircuitId) (s : State) : State :=
  if smallestWindow (circuitOf s c) < 8 then takeDev ⟨.sampleStarved, circuitNum c, smallestWindow (circuitOf s c), 8⟩ s
  else raiseLeak c (judgeLeak (windowSums (circuitOf s c)) (paramsOf s c)) s

theorem raiseLeak_leak (c : CircuitId) (r : LeakResult) (s : State) : (raiseLeak c r s).leak = s.leak := by simp

theorem measureTold_leak (c : CircuitId) (s : State) : (measureTold c s).leak = s.leak := by
  unfold measureTold
  split <;> simp

section
variable {c : CircuitId} {s : State}

/-- In MEASURE the expiry ends the circuit once DEV has been told. -/
theorem measureExpired_measure (h : (circuitOf s c).state = .measure) :
    measureExpired c s = withCircuit c (measureEnded (paramsOf s c)) (measureTold c s) := by
  have hcircuit := circuitOf_congr (measureTold_leak c s) c
  rw [measureExpired, if_pos h, withCircuit, hcircuit, measureEnded, measureTold]
  split
  · rw [measureStarved, withCircuit, (takeDev_circuits _ s c).1]
  · rw [measureJudged, withCircuit, circuitOf_congr (raiseLeak_leak c _ s), circuitJudged]

theorem circuitOf_measureExpired (h : (circuitOf s c).state = .measure) :
    circuitOf (measureExpired c s) c = measureEnded (paramsOf s c) (circuitOf s c) := by
  rw [measureExpired_measure h, withCircuit_same, circuitOf_congr (measureTold_leak c s)]

theorem circuitOf_measureExpired_other (h : (circuitOf s c).state = .measure) {d : CircuitId} (hd : d ≠ c) :
    circuitOf (measureExpired c s) d = circuitOf s d := by
  rw [measureExpired_measure h, withCircuit_other c d _ _ hd, circuitOf_congr (measureTold_leak c s)]

theorem measureExpired_dev (h : (circuitOf s c).state = .measure) : (measureExpired c s).dev = (measureTold c s).dev := by
  rw [measureExpired_measure h]
  simp

/-- Starved or judged, the circuit vents with the averages of its windows. -/
theorem measureEnded_vents (p : CircuitParams) (k : Circuit) : (measureEnded p k).state = .vent
    ∧ (measureEnded p k).timer = p.ventMs ∧ (measureEnded p k).avgStartPrs = k.startPrs.sum / k.startPrs.length
    ∧ (measureEnded p k).avgStartAirt = k.startAirt.sum / k.startAirt.length
    ∧ (measureEnded p k).avgEndPrs = k.endPrs.sum / k.endPrs.length
    ∧ (measureEnded p k).avgEndAirt = k.endAirt.sum / k.endAirt.length := by
  unfold measureEnded
  split <;> exact ⟨rfl, rfl, rfl, rfl, rfl, rfl⟩

end

/-- The computation hands on the drop that it judges (R136). -/
theorem judgeLeak_d8 (w : WindowSums) (p : CircuitParams) : (judgeLeak w p).d8 = leakDrop8 w := by
  unfold judgeLeak judgeRate judgeRise
  (repeat' split) <;> rfl

theorem circuitJudged_result (r : LeakResult) (p : CircuitParams) (k : Circuit) :
    (circuitJudged r p k).outcome = r.outcome ∧ (circuitJudged r p k).leakRate = some r.rate
    ∧ (circuitJudged r p k).d8 = r.d8 := ⟨rfl, rfl, rfl⟩

/-- Four full windows give the computation's outcome, rate and drop. -/
theorem measureEnded_judged (p : CircuitParams) {k : Circuit} (h : 8 ≤ smallestWindow k) :
    (measureEnded p k).outcome = (judgeLeak (windowSums k) p).outcome
    ∧ (measureEnded p k).leakRate = some (judgeLeak (windowSums k) p).rate
    ∧ (measureEnded p k).d8 = leakDrop8 (windowSums k) := by
  rw [measureEnded, if_neg (Nat.not_lt.mpr h), ← judgeLeak_d8 _ p]
  exact circuitJudged_result _ p k

theorem raiseLeak_none {c : CircuitId} {r : LeakResult} {s : State} (h : r.raised = none) : raiseLeak c r s = s := by
  rw [raiseLeak, h]

theorem raiseLeak_some {c : CircuitId} {r : LeakResult} {s : State} {cls : DevClass} {measured limit : Nat}
    (h : r.raised = some (cls, measured, limit)) :
    raiseLeak c r s = takeDev ⟨cls, circuitNum c, measured, limit⟩ s := by
  rw [raiseLeak, h]

/-- Settles O29: the circuit and DEV as the two ends of a measurement leave them. -/
theorem measureExpiryJudgesTheWindows : Obligations.MeasureExpiryJudgesTheWindows := by
  intro c s hb hst
  refine ⟨_, whenReleased_running hb, ?_⟩
  obtain ⟨hvent, htimer, hstartPrs, hstartAirt, hendPrs, hendAirt⟩ := measureEnded_vents (paramsOf s c) (circuitOf s c)
  have hdev : (leaveIdle (measureExpired c s)).dev = (measureTold c s).dev := by simp [measureExpired_dev hst]
  rw [circuitOf_leaveIdle, circuitOf_measureExpired hst, hdev]
  refine ⟨hvent, htimer, hstartPrs, hstartAirt, hendPrs, hendAirt, fun hshort => ?_, fun hfull => ?_, fun d hd => ?_,
    by simp, by simp⟩
  · rw [measureEnded, if_pos hshort, measureTold, if_pos hshort]
    exact ⟨rfl, fun hrate hd8 => ⟨hrate, hd8⟩, rfl⟩
  · obtain ⟨houtcome, hrate, hd8⟩ := measureEnded_judged (paramsOf s c) hfull
    refine ⟨houtcome, hrate, hd8, fun hnone => ?_, fun cls measured limit hsome => ?_⟩
    · rw [measureTold, if_neg (Nat.not_lt.mpr hfull), raiseLeak_none hnone]
    · rw [measureTold, if_neg (Nat.not_lt.mpr hfull), raiseLeak_some hsome]
  · rw [circuitOf_leaveIdle, circuitOf_measureExpired_other hst hd]

end Sys2Proof.Machine
end

section
/-! SUPPORT. What the law of the circuits and the air postings speaks of, and what LEAK's own operations do to it (O58). -/
namespace Sys2Proof.Machine

/-! ## What the air law speaks of -/

/-- A circuit's state and valves, its claim age, and what it has been judged. -/
structure CircuitAir where
  state : CircuitState
  fill : Bool
  isolate : Bool
  vent : Bool
  claimAge : Nat
  leakRate : Option Nat
  d8 : Int

/-- What the air law reads of a circuit. -/
def Circuit.air (k : Circuit) : CircuitAir := ⟨k.state, k.fillValve, k.isolateValve, k.ventValve, k.claimAge, k.leakRate, k.d8⟩

/-- The part of the state that the air law speaks of: the circuits, what is posted of them, whether the station is STARTING,
and the header limit. -/
structure AirView where
  circuits : CircuitId → CircuitAir
  posted : AirState × AirState × Nat
  starting : Bool
  limit : Nat

/-- LEAK's part of a state. -/
def airView (s : State) : AirView where
  circuits c := (circuitOf s c).air
  posted := (s.peer.posting.air1, s.peer.posting.air2, s.peer.posting.airAge)
  starting := s.cyc.station == .starting
  limit := s.cfg.station.headerLimit

theorem airView_up {s : State} (h : s.cyc.station ≠ .starting) : (airView s).starting = false := by simpa [airView] using h

/-- A circuit in a state, with the state's valves (R113). -/
def CircuitAir.entered (st : CircuitState) (age : Nat) (rate : Option Nat) (d8 : Int) : CircuitAir :=
  ⟨st, (valvesOf st).1, (valvesOf st).2.1, (valvesOf st).2.2, age, rate, d8⟩

/-- A circuit with its state's valves, OFF and open to the vent in STARTING, and without a rate until it has been judged
(R113, R126, R132). -/
structure CircuitAir.Lawful (starting : Bool) (k : CircuitAir) : Prop where
  fill : k.fill = (valvesOf k.state).1
  isolate : k.isolate = (valvesOf k.state).2.1
  vent : k.vent = ((valvesOf k.state).2.2 || starting)
  off : starting = true → k.state = .off
  rate : k.state ≠ .vent → k.state ≠ .done → k.leakRate = none ∧ k.d8 = 0

namespace CircuitAir.Lawful

variable {starting : Bool} {k : CircuitAir}

/-- A circuit that is not OFF is no circuit of a station in STARTING. -/
theorem up (h : k.Lawful starting) (hst : k.state ≠ .off) : starting = false := by
  cases hs : starting with
  | false => rfl
  | true => exact absurd (h.off hs) hst

/-- The claim age is the circuit's own affair. -/
theorem aged (h : k.Lawful starting) (age : Nat) : ({ k with claimAge := age } : CircuitAir).Lawful starting :=
  ⟨h.fill, h.isolate, h.vent, h.off, h.rate⟩

/-- A state entered outside STARTING, with a rate only where the circuit is at its end. -/
theorem entered {st : CircuitState} {age : Nat} {rate : Option Nat} {d8 : Int} (hs : starting = false)
    (hrate : st ≠ .vent → st ≠ .done → rate = none ∧ d8 = 0) : (CircuitAir.entered st age rate d8).Lawful starting :=
  ⟨rfl, rfl, by simp [CircuitAir.entered, hs], fun h => absurd (hs.symm.trans h) nofun, hrate⟩

/-- A circuit that seeks air, fills or is on its way to be judged, in another state. -/
theorem goesOn (h : k.Lawful starting) {st : CircuitState} {age : Nat} (hoff : k.state ≠ .off) (hvent : k.state ≠ .vent)
    (hdone : k.state ≠ .done) : (CircuitAir.entered st age k.leakRate k.d8).Lawful starting :=
  entered (h.up hoff) fun _ _ => h.rate hvent hdone

end CircuitAir.Lawful

/-- What the circuits call for in the posting (R113, R116). -/
def postedOf (k : CircuitId → CircuitAir) : AirState × AirState × Nat :=
  (airOf (k .one).state, airOf (k .two).state,
    max (if seeksAir (k .one).state then (k .one).claimAge else 0) (if seeksAir (k .two).state then (k .two).claimAge else 0))

/-- What a circuit counts among the fills (R117). -/
def fills (st : CircuitState) : Nat := if st = .fill then 1 else 0

/-- The circuits in FILL (R117). -/
def fillsOf (k : CircuitId → CircuitAir) : Nat := fills (k .one).state + fills (k .two).state

/-- Lawful circuits, posted as they are, with no more of them in FILL than the header takes (R113, R116, R118). -/
structure AirView.Lawful (v : AirView) : Prop where
  circuit : ∀ c, (v.circuits c).Lawful v.starting
  posted : v.posted = postedOf v.circuits
  fills : fillsOf v.circuits ≤ v.limit

theorem ownFills_le (s : State) : ownFills s ≤ 2 := by
  unfold ownFills
  split <;> split <;> decide

theorem circuitLawful_iff (st : StationState) (k : Circuit) : k.air.Lawful (st == .starting) ↔
    valvesKept st k ∧ (st = .starting → k.state = .off) ∧ rateKept k := by
  constructor
  · rintro ⟨hfill, hisolate, hvent, hoff, hrate⟩
    exact ⟨⟨hfill, hisolate, hvent⟩, fun h => hoff (by simp [h]), hrate⟩
  · rintro ⟨⟨hfill, hisolate, hvent⟩, hoff, hrate⟩
    exact ⟨hfill, hisolate, hvent, fun h => hoff (by simpa using h), hrate⟩

/-- The air law says that both circuits are lawful, the posting is theirs, and the header is not overdrawn. -/
theorem airLaw_iff (s : State) : airLaw s ↔ (airView s).Lawful := by
  constructor
  · rintro ⟨hv1, hv2, ha1, ha2, hage, hoff, hfills, hr1, hr2⟩
    refine ⟨fun c => ?_, by simp only [airView, ha1, ha2, hage]; rfl, hfills.trans (Nat.min_le_right _ _)⟩
    cases c with
    | one => exact (circuitLawful_iff _ _).mpr ⟨hv1, fun h => (hoff h).1, hr1⟩
    | two => exact (circuitLawful_iff _ _).mpr ⟨hv2, fun h => (hoff h).2, hr2⟩
  · rintro ⟨hcircuit, hposted, hfills⟩
    obtain ⟨hv1, hoff1, hr1⟩ := (circuitLawful_iff _ _).mp (hcircuit .one)
    obtain ⟨hv2, hoff2, hr2⟩ := (circuitLawful_iff _ _).mp (hcircuit .two)
    obtain ⟨ha1, ha2, hage⟩ : s.peer.posting.air1 = _ ∧ s.peer.posting.air2 = _ ∧ s.peer.posting.airAge = _ := by
      simpa [airView, postedOf] using hposted
    exact ⟨hv1, hv2, ha1, ha2, hage, fun h => ⟨hoff1 h, hoff2 h⟩, Nat.le_min.mpr ⟨ownFills_le s, hfills⟩, hr1, hr2⟩

theorem airView_of_circuits {s t : State} (hc : ∀ c, (circuitOf t c).air = (circuitOf s c).air)
    (hp : t.peer.posting = s.peer.posting) (hst : t.cyc.station = s.cyc.station) (hcfg : t.cfg = s.cfg) :
    airView t = airView s := by
  simp only [airView, hc, hp, hst, hcfg]

/-! ## What an operation keeps -/

/-- The air law, in a station that is past STARTING. -/
structure AirView.LawfulUp (v : AirView) : Prop where
  lawful : v.Lawful
  up : v.starting = false

/-- What holds of the circuits and their postings in one state holds of them in the next. -/
def AirKeeps (P : AirView → Prop) (s t : State) : Prop := P (airView s) → P (airView t)

/-- The air law is kept. -/
abbrev AirKept : State → State → Prop := AirKeeps AirView.Lawful

/-- The air law is kept by a station past STARTING. -/
abbrev AirKeptUp : State → State → Prop := AirKeeps AirView.LawfulUp

namespace AirKeeps

variable {P : AirView → Prop} {s t u : State}

theorem refl (s : State) : AirKeeps P s s := id

theorem trans (h : AirKeeps P s t) (h' : AirKeeps P t u) : AirKeeps P s u := fun hs => h' (h hs)

theorem of_view (h : airView t = airView s) : AirKeeps P s t := fun hs => h ▸ hs

/-- An operation with a frame: the circuits, what is posted of them, the station state and the configuration stay. -/
theorem of_frame (h : t.leak = s.leak ∧ t.peer.posting.air1 = s.peer.posting.air1
    ∧ t.peer.posting.air2 = s.peer.posting.air2 ∧ t.peer.posting.airAge = s.peer.posting.airAge
    ∧ t.cyc.station = s.cyc.station ∧ t.cfg.station = s.cfg.station) : AirKeeps P s t := by
  obtain ⟨hleak, h1, h2, hage, hst, hcfg⟩ := h
  refine of_view ?_
  simp only [airView, circuitOf_congr hleak, h1, h2, hage, hst, hcfg]

/-- What precedes has left the circuits and what is posted of them. -/
theorem after (h : AirKeeps P u t) (hu : airView u = airView s) : AirKeeps P s t := (of_view hu).trans h

/-- What follows leaves the circuits and what is posted of them. -/
theorem before (h : AirKeeps P s t) (hu : airView u = airView t) : AirKeeps P s u := h.trans (of_view hu)

/-- What keeps the law in any station state keeps it past STARTING. -/
theorem lift (h : AirKept s t) (hst : t.cyc.station = s.cyc.station) : AirKeptUp s t := fun hs =>
  ⟨h hs.lawful, by simpa [airView, hst] using hs.up⟩

/-- A station past STARTING keeps the law by what such a station keeps. -/
theorem lower (h : AirKeptUp s t) (hst : s.cyc.station ≠ .starting) : AirKept s t := fun hs => (h ⟨hs, airView_up hst⟩).lawful

end AirKeeps

theorem fills_le (before after : CircuitState) : fills after ≤ fills before + 1
    ∧ ((after = .fill → before = .fill) → fills after ≤ fills before) := by
  unfold fills
  grind

/-- One circuit that changes adds no fill but its own (R117). -/
theorem ownFills_withCircuit (c : CircuitId) (f : Circuit → Circuit) (s : State) :
    ownFills (withCircuit c f s) ≤ ownFills s + 1
    ∧ (((f (circuitOf s c)).state = .fill → (circuitOf s c).state = .fill) → ownFills (withCircuit c f s) ≤ ownFills s) := by
  obtain ⟨hone, hsame⟩ := fills_le (circuitOf s c).state (f (circuitOf s c)).state
  cases c with
  | one =>
    have hbefore : ownFills s = fills (circuitOf s .one).state + fills s.leak.c2.state := rfl
    have hafter : ownFills (withCircuit .one f s) = fills (f (circuitOf s .one)).state + fills s.leak.c2.state := rfl
    exact ⟨by omega, fun h => by have := hsame h; omega⟩
  | two =>
    have hbefore : ownFills s = fills s.leak.c1.state + fills (circuitOf s .two).state := rfl
    have hafter : ownFills (withCircuit .two f s) = fills s.leak.c1.state + fills (f (circuitOf s .two)).state := rfl
    exact ⟨by omega, fun h => by have := hsame h; omega⟩

/-- One circuit changed, and what is posted of it: the change keeps the circuit lawful, and admits it to FILL only below the
header limit. -/
theorem airKept_withCircuit {c : CircuitId} {f : Circuit → Circuit} {s : State}
    (hk : (circuitOf s c).air.Lawful (s.cyc.station == .starting) → (f (circuitOf s c)).air.Lawful (s.cyc.station == .starting))
    (hfill : (f (circuitOf s c)).state = .fill → (circuitOf s c).state = .fill ∨ ownFills s < s.cfg.station.headerLimit) :
    AirKept s (withCircuit c f s) := by
  rintro ⟨hcircuit, -, hfills⟩
  refine ⟨fun d => ?_, rfl, ?_⟩
  · by_cases hd : d = c
    · subst hd
      show (circuitOf (withCircuit d f s) d).air.Lawful _
      rw [withCircuit_same]
      exact hk (hcircuit d)
    · show (circuitOf (withCircuit c f s) d).air.Lawful _
      rw [withCircuit_other c d f s hd]
      exact hcircuit d
  · have hbefore : ownFills s ≤ s.cfg.station.headerLimit := hfills
    show ownFills (withCircuit c f s) ≤ s.cfg.station.headerLimit
    obtain ⟨hone, hsame⟩ := ownFills_withCircuit c f s
    by_cases hs : (circuitOf s c).state = .fill
    · exact (hsame fun _ => hs).trans hbefore
    · by_cases ht : (f (circuitOf s c)).state = .fill
      · exact hone.trans ((hfill ht).resolve_left hs)
      · exact (hsame fun h => absurd h ht).trans hbefore

namespace AirKeeps

/-! ## A circuit changed (R113) -/

section
variable {c : CircuitId} {f : Circuit → Circuit} {s : State}

/-- A circuit that keeps its state, its valves and what it has been judged. -/
theorem withSame {age : Nat} (h : (f (circuitOf s c)).air = { (circuitOf s c).air with claimAge := age }) :
    AirKept s (withCircuit c f s) :=
  airKept_withCircuit (fun hk => h ▸ hk.aged age) fun ht => .inl ((congrArg CircuitAir.state h).symm.trans ht)

/-- A circuit under way goes on to another state, to FILL below the header limit alone. -/
theorem withEntered {st : CircuitState} {age : Nat} (hoff : (circuitOf s c).state ≠ .off)
    (hvent : (circuitOf s c).state ≠ .vent) (hdone : (circuitOf s c).state ≠ .done)
    (h : (f (circuitOf s c)).air = .entered st age (circuitOf s c).leakRate (circuitOf s c).d8)
    (hfill : st = .fill → ownFills s < s.cfg.station.headerLimit) : AirKept s (withCircuit c f s) :=
  airKept_withCircuit (fun hk => h ▸ hk.goesOn hoff hvent hdone)
    fun ht => .inr (hfill ((congrArg CircuitAir.state h).symm.trans ht))

/-- A circuit under way reaches its end, judged or not. -/
theorem withEnded {st : CircuitState} {age : Nat} {rate : Option Nat} {d8 : Int} (hst : st = .vent ∨ st = .done)
    (hoff : (circuitOf s c).state ≠ .off) (h : (f (circuitOf s c)).air = .entered st age rate d8) :
    AirKept s (withCircuit c f s) := by
  refine airKept_withCircuit (fun hk => ?_) fun ht => ?_
  · rw [h]
    exact .entered (hk.up hoff) fun hv hd => (hst.elim hv hd).elim
  · have hfill : st = .fill := (congrArg CircuitAir.state h).symm.trans ht
    rcases hst with rfl | rfl <;> cases hfill

end

/-- A deviation told to DEV leaves the circuits and their postings. -/
theorem airView_takeDev (e : DevEvent) (s : State) : airView (takeDev e s) = airView s := by simp [airView, circuitOf]

/-! ## Admission (R115 to R119) -/

theorem intentTest (c : CircuitId) (s : State) : AirKept s (intentTest c s) := by
  unfold Machine.intentTest
  split
  next h =>
    exact withEntered (st := .intent) (by simp [h.1]) (by simp [h.1]) (by simp [h.1]) rfl nofun
  · exact refl s

theorem airSettleExpiry {c : CircuitId} {s : State} (h : (circuitOf s c).state = .intent) :
    AirKept s (airSettleExpiry c s) := by
  unfold Machine.airSettleExpiry
  split
  next hroom =>
    exact withEntered (st := .fill) (by simp [h]) (by simp [h]) (by simp [h]) rfl fun _ => by omega
  · exact withEntered (st := .wait) (by simp [h]) (by simp [h]) (by simp [h]) rfl nofun

theorem airSettleStep (c : CircuitId) (s : State) : AirKept s (airSettleStep c s) := by
  unfold Machine.airSettleStep
  split
  next h =>
    have hcounted : AirKept s (withCircuit c (fun k => { k with settle := k.settle - 1 }) s) := withSame rfl
    dsimp only
    split
    · exact hcounted.trans (airSettleExpiry (by simpa using h))
    · exact hcounted
  · exact refl s

theorem circuitExpiry (c : CircuitId) (s : State) : AirKept s (circuitExpiry c s) := by
  have haged (k : Circuit) : (stepBackoff (ageClaim k)).air = { k.air with claimAge := (ageClaim k).claimAge } := by
    unfold stepBackoff ageClaim
    split <;> split <;> rfl
  have hstepped : AirKept s (Machine.airSettleStep c (withCircuit c (fun k => stepBackoff (ageClaim k)) s)) :=
    trans (withSame (haged _)) (airSettleStep c _)
  unfold Machine.circuitExpiry intentStep
  split
  · exact hstepped.trans (intentTest c _)
  · exact hstepped

/-- LEAK's part of an own posting-period expiry. -/
theorem leakExpiry (s : State) : AirKept s (leakExpiry s) := (circuitExpiry .one s).trans (circuitExpiry .two _)

/-- A circuit armed leaves OFF, in a station past STARTING (R115). -/
theorem armed (c : CircuitId) (enabled : Bool) (s : State) : AirKeptUp s (withCircuit c (armCircuit enabled) s) := by
  intro hs
  refine ⟨airKept_withCircuit (fun hk => ?_) (fun hfill => ?_) hs.lawful, hs.up⟩
  · unfold armCircuit
    split
    next h => exact .entered (st := .wait) hs.up fun _ _ => hk.rate (by simp [Circuit.air, h.2]) (by simp [Circuit.air, h.2])
    · exact hk
  · unfold armCircuit at hfill
    split at hfill
    · cases hfill
    · exact .inl hfill

theorem armLeak (s : State) : AirKeptUp s (armLeak s) := by
  have htest (c : CircuitId) (u : State) : AirKeptUp u (Machine.intentTest c u) := (intentTest c u).lift (by simp)
  unfold Machine.armLeak
  split
  · exact refl s
  · exact (((armed .one _ _).trans (armed .two _ _)).trans ((htest .one _).trans (htest .two _))).after rfl

/-- An accepted START clears both circuits, in a station past STARTING (R115). -/
theorem leakStart (s : State) : AirKeptUp s (leakStart s) := by
  rintro ⟨-, hup⟩
  refine ⟨⟨fun c => ?_, rfl, Nat.zero_le _⟩, hup⟩
  cases c <;> exact .entered (st := .off) hup fun _ _ => ⟨rfl, rfl⟩

/-! ## Fill, stabilise, measure, vent (R121 to R127) -/

theorem floorTest {c : CircuitId} (code : Nat) {s : State} (h : (circuitOf s c).state ≠ .off) :
    AirKept s (floorTest c code s) := by
  unfold Machine.floorTest
  split
  · refine (withEnded (.inl rfl) ?_ rfl).after (airView_takeDev _ s)
    rw [(takeDev_circuits _ s c).1]
    exact h
  · exact refl s

theorem takePrs (c : CircuitId) (code : Nat) (s : State) : AirKept s (takePrs c code s) := by
  unfold Machine.takePrs
  split
  next h =>
    split
    · exact withEntered (st := .stabilise) (by simp [h]) (by simp [h]) (by simp [h]) rfl nofun
    · exact refl s
  next h => exact floorTest code (by simp [h])
  next h => exact trans (withSame rfl) (floorTest code (by simp [windowPrs, h]))
  · exact refl s

theorem takeAirt (c : CircuitId) (code : Nat) (s : State) : AirKept s (takeAirt c code s) := by
  unfold Machine.takeAirt
  split
  · exact withSame rfl
  · exact refl s

theorem fillExpired (c : CircuitId) (s : State) : AirKept s (fillExpired c s) := by
  by_cases h : (circuitOf s c).state = .fill
  · rw [fillExpired_fill h]
    refine (withEnded (.inl rfl) ?_ rfl).after (airView_takeDev _ s)
    rw [(takeDev_circuits _ s c).1, h]
    exact nofun
  · rw [Machine.fillExpired, if_neg h]
    exact refl s

theorem stabiliseExpired (c : CircuitId) (s : State) : AirKept s (stabiliseExpired c s) := by
  unfold Machine.stabiliseExpired
  split
  next h =>
    split
    · exact withSame rfl
    · exact withEntered (st := .measure) (by simp [h]) (by simp [h]) (by simp [h]) rfl nofun
  · exact refl s

theorem measureExpired (c : CircuitId) (s : State) : AirKept s (measureExpired c s) := by
  by_cases h : (circuitOf s c).state = .measure
  · have hended (p : CircuitParams) (k : Circuit) :
        (measureEnded p k).air = .entered .vent 0 (measureEnded p k).leakRate (measureEnded p k).d8 := by
      unfold measureEnded
      split <;> rfl
    have htold : airView (measureTold c s) = airView s := by
      unfold measureTold
      split <;> simp [airView, circuitOf]
    rw [measureExpired_measure h]
    refine (withEnded (.inl rfl) ?_ (hended _ _)).after htold
    rw [circuitOf_congr (measureTold_leak c s), h]
    exact nofun
  · rw [Machine.measureExpired, if_neg h]
    exact refl s

/-- The end windows of dropped channels are no part of it (R107). -/
theorem airView_leakDropped (dropped : Slow → Bool) (s : State) : airView (leakDropped dropped s) = airView s := by
  have hdrop (prs airt : Bool) (k : Circuit) : (dropWindows prs airt k).air = k.air := by
    unfold dropWindows
    split <;> rfl
  exact airView_of_circuits (fun c => by cases c <;> exact hdrop _ _ _) (by simp) (by simp) (by simp)

/-- The air-wait time is no part of it (R120). -/
theorem airView_airWaited (c : CircuitId) (s : State) : airView (airWaited c s) = airView s := by
  refine airView_of_circuits (fun d => ?_) (by simp) (by simp) (by simp)
  unfold airWaited
  split
  · rw [(takeDev_circuits _ _ d).1]
    cases c <;> cases d <;> rfl
  · rfl

/-! ## The abort (R128) -/

theorem airView_writeCircuit (c : CircuitId) (s : State) : airView (writeCircuit c s) = airView s := by
  simp [airView, circuitOf]

/-- An abort takes a circuit under way to VENT, and leaves one that is at its end or on its way to it. -/
theorem abortActive_air (p : CircuitParams) (k : Circuit) : (abortActive p k).air = { k.air with claimAge := k.claimAge }
    ∨ (abortActive p k).air = .entered .vent 0 k.leakRate k.d8 := by
  unfold abortActive
  split
  · exact .inr rfl
  · exact .inr rfl
  · exact .inr rfl
  · exact .inr rfl
  · exact .inr rfl
  · exact .inl rfl
  · exact .inl rfl
  · exact .inl rfl

theorem abortCircuit (c : CircuitId) (s : State) : AirKept s (abortCircuit c s) := by
  unfold Machine.abortCircuit
  split
  · split
    · exact before (withSame rfl) (airView_writeCircuit c _)
    · exact refl s
  next hoff =>
    rcases abortActive_air (paramsOf s c) (circuitOf s c) with h | h
    · exact withSame h
    · exact withEnded (.inl rfl) hoff h

theorem abortLeak (s : State) : AirKept s (abortLeak s) :=
  ((abortCircuit .one s).trans (abortCircuit .two _)).before rfl

end AirKeeps

end Sys2Proof.Machine
end

section
/-! SUPPORT. The air law through STORE and CYC: the end of the start-up, the close of a cycle, the aborts (O58). -/
namespace Sys2Proof.Machine

namespace AirKeeps

/-! ## STORE and CYC past the start-up (R8 to R10, R160) -/

/-- A change of the station state between two that are not STARTING. -/
theorem airView_setStation {st : StationState} {s : State} (hs : s.cyc.station ≠ .starting) (hst : st ≠ .starting) :
    airView (setStation st s) = airView s := by
  simp [airView, circuitOf, hs, hst]

@[simp] theorem airView_commitEnded (s : State) : airView (commitEnded s) = airView s := by
  rcases commitEnded_cases s with ⟨-, h⟩ | ⟨hst, h⟩ <;> rw [h]
  rw [← airView_setStation (s := s) (st := .done) (by simp [hst]) (by simp)]
  rfl

@[simp] theorem airView_failRequest (req : Request) (s : State) : airView (failRequest req s) = airView s := by
  rcases failRequest_cases req s with ⟨-, h⟩ | ⟨-, h⟩ <;> rw [h]
  exact airView_commitEnded s

@[simp] theorem airView_enterFaulted (cause : FaultCause) (s : State) : airView (enterFaulted cause s) = airView s := rfl

/-- STORE and the stand of the start-up sequence are no part of it. -/
theorem withStore (st : Store) (boot : Boot) (s : State) : AirKept s { s with store := st, boot := boot } := of_view rfl

@[simp] theorem airView_beginSwap (req : Request) (s : State) : airView (beginSwap false req s) = airView s := by
  unfold beginSwap
  split
  · simp
  · rfl

@[simp] theorem airView_commitRequest (req : Request) (s : State) : airView (commitRequest req s) = airView s := by
  unfold commitRequest
  split
  · rfl
  · split
    · rfl
    · exact airView_beginSwap req s
  · rfl
  · exact airView_failRequest req s

@[simp] theorem airView_failPending (s : State) : airView (failPending s) = airView s := by
  unfold failPending
  split
  · exact airView_failRequest _ _
  · rfl

@[simp] theorem airView_nextSwap (s : State) : airView (nextSwap s) = airView s := by
  unfold nextSwap
  split
  · split
    · rfl
    · exact airView_beginSwap _ _
  · rfl

@[simp] theorem airView_requestDone (req : Request) (s : State) : airView (requestDone req s) = airView s := by
  unfold requestDone
  split
  · split
    · simp
    · simp
  · exact airView_nextSwap s

@[simp] theorem airView_handOver (kind : CommitKind) (s : State) : airView (handOver kind s) = airView s := by
  unfold handOver
  split
  · exact airView_commitRequest _ s
  · rfl

@[simp] theorem airView_checkpoint (s : State) : airView (checkpoint s) = airView s := by
  unfold checkpoint
  split
  · exact airView_handOver _ _
  · rfl

theorem up_of_inCycle {st : StationState} (h : inCycle st = true) : st ≠ .starting := by
  rintro rfl
  cases h

/-- A cycle that closes is past STARTING. -/
theorem airView_closeCycle {s : State} (h : inCycle s.cyc.station = true) : airView (closeCycle s) = airView s := by
  unfold closeCycle
  rw [airView_handOver, airView_setStation (st := .closing) (by simpa using up_of_inCycle h) nofun]
  simp [airView, circuitOf]

@[simp] theorem airView_jobEnded (s : State) : airView (jobEnded s) = airView s := by
  unfold jobEnded
  split
  next h =>
    split
    · exact airView_closeCycle h
    · exact airView_checkpoint s
  · rfl

@[simp] theorem airView_closeIfAtRest (s : State) : airView (closeIfAtRest s) = airView s := by
  unfold closeIfAtRest
  split
  next h => exact airView_closeCycle (by rw [h.1]; rfl)
  · rfl

@[simp] theorem airView_leaveDone (s : State) : airView (leaveDone s) = airView s := by
  unfold leaveDone
  split
  next h => exact airView_setStation (s := writePosting _ s) (by simp [h]) nofun
  · rfl

/-! ## The end of the start-up (R1, R132, R168, R169) -/

section
variable {s : State} (hst : s.cyc.station = .starting)
include hst

/-- The start-up ends with both circuits OFF and closes their vent valves. -/
theorem startUpEnd : AirKept s (startUpEnd s) := by
  rintro ⟨hcircuit, hposted, hfills⟩
  have hoff (c : CircuitId) : (circuitOf s c).state = .off := (hcircuit c).off (by simp [airView, hst])
  have hup : (airView (Machine.startUpEnd s)).starting = false := by
    show ((if s.cfg.passed then StationState.idle else .unconfigured) == .starting) = false
    split <;> rfl
  have hair (c : CircuitId) : (airView (Machine.startUpEnd s)).circuits c = { (airView s).circuits c with vent := false } := by
    cases c <;> rfl
  refine ⟨fun c => ?_, hposted, hfills⟩
  obtain ⟨hfill, hisolate, -, -, hrate⟩ := hcircuit c
  rw [hup, hair]
  exact ⟨hfill, hisolate, by rw [show ((airView s).circuits c).state = .off from hoff c]; rfl, nofun, hrate⟩

theorem scanEnd : AirKept s (scanEnd s) := by
  unfold Machine.scanEnd
  split
  · exact (startUpEnd (s := Machine.enterFaulted .spent s) hst).after rfl
  · exact (startUpEnd (s := { s with store := _ }) hst).after rfl

end

/-- A recovery's swap begins in STARTING. -/
theorem beginSwap {recovery : Bool} (req : Request) {s : State} (hst : recovery = true → s.cyc.station = .starting) :
    AirKept s (beginSwap recovery req s) := by
  cases recovery with
  | false => exact of_view (airView_beginSwap req s)
  | true =>
    unfold Machine.beginSwap
    split
    · exact (startUpEnd (s := Machine.enterFaulted .worn s) (hst rfl)).after rfl
    · exact of_view rfl

theorem endSwap {w : Swap} {s : State} (hst : w.recovery = true → s.cyc.station = .starting) : AirKept s (endSwap w s) := by
  unfold Machine.endSwap
  dsimp only
  split
  next hr => exact (withStore _ s.boot s).trans (scanEnd (hst hr))
  · exact (withStore _ s.boot s).before (airView_requestDone _ _)

theorem verifyFailure {w : Swap} {s : State} (hst : w.recovery = true → s.cyc.station = .starting) :
    AirKept s (verifyFailure w s) := by
  unfold Machine.verifyFailure
  dsimp only
  split
  next hr => exact (startUpEnd (by simpa using hst hr)).after rfl
  · split
    · exact of_view ((airView_commitEnded _).trans rfl)
    · exact of_view rfl

theorem scanDone {s : State} (hst : s.cyc.station = .starting) : AirKept s (scanDone s) := by
  unfold Machine.scanDone
  dsimp only
  split
  · exact (withStore _ s.boot s).trans (scanEnd hst)
  · split
    · exact of_view rfl
    · exact (withStore _ .recover s).trans (beginSwap _ fun _ => hst)

theorem heldSwap {s : State} (hs : bootLaw s) : AirKept s (heldSwap s) := by
  unfold Machine.heldSwap
  split
  · exact (withStore _ s.boot s).trans (beginSwap (recovery := false) _ nofun)
  next hscan _ => exact (withStore _ s.boot s).trans (beginSwap _ fun _ => hs.1.mp (hs.2.1.mpr hscan))
  · exact refl s

/-! ## Aborts, and the end of a circuit (R12 to R17, R127) -/

theorem ventExpired (c : CircuitId) (s : State) : AirKept s (ventExpired c s) := by
  unfold Machine.ventExpired
  split
  next h =>
    have hdone : AirKept s (withCircuit c enterDone s) := withEnded (st := .done) (.inr rfl) (by simp [h]) rfl
    exact hdone.before ((airView_jobEnded _).trans (airView_writeCircuit c _))
  · exact refl s

theorem airView_abandonSweep (s : State) : airView (abandonSweep s) = airView s := by simp [airView, circuitOf]

/-- An abort cause in TESTING (R13). -/
theorem abortCycle (e : DevEvent) {stop : State → State} {s : State} (hst : s.cyc.station = .testing)
    (hview : ∀ u, airView (stop u) = airView u) (hcyc : ∀ u, (stop u).cyc = u.cyc) : AirKept s (abortCycle e stop s) := by
  have hstopped : airView (Machine.abandonSweep (stop (Machine.takeDev e s))) = airView s := by
    rw [airView_abandonSweep, hview, airView_takeDev]
  have haborted := (abortLeak (Machine.abandonSweep (stop (Machine.takeDev e s)))).after hstopped
  have hstation : (Machine.abortLeak (Machine.abandonSweep (stop (Machine.takeDev e s)))).cyc.station ≠ .starting := by
    simp [hcyc, hst]
  exact haborted.before ((airView_closeIfAtRest _).trans (airView_setStation hstation nofun))

end AirKeeps

end Sys2Proof.Machine
end

section
/-! SUPPORT. The air law through the operations of RUN, which tell LEAK to arm past STARTING alone (O58). -/
namespace Sys2Proof.Machine

namespace AirKeeps

/-! ## Segments entered and ended (R44, R46, R115) -/

theorem checkpoint {P : AirView → Prop} (s : State) : AirKeeps P s (checkpoint s) := of_view (airView_checkpoint s)

theorem tellLeak (s : State) : AirKeptUp s (tellLeak s) := by
  unfold Machine.tellLeak
  split
  · exact (armLeak _).after rfl
  · exact refl s

theorem enterSegment (i : Nat) (s : State) : AirKeptUp s (enterSegment i s) := by
  have htold : AirKeptUp s (Machine.tellLeak (faceDirection (atSegment i s))) :=
    (tellLeak _).after (by simp [airView, circuitOf, atSegment])
  rw [enterSegment_eq]
  exact htold.trans (of_frame (by simp))

theorem segmentEnd (s : State) : AirKeptUp s (segmentEnd s) := by
  have hcounted : AirKeptUp s (segmentCounted s) := of_view rfl
  rw [segmentEnd_eq]
  split
  · exact hcounted.trans (enterSegment _ _)
  · exact hcounted.trans (of_frame (by simp))

theorem takeOutcome (again : Bool) (s : State) : AirKeptUp s (takeOutcome again s) := by
  unfold Machine.takeOutcome
  split
  · exact enterSegment _ s
  · exact segmentEnd s

/-! ## A step in a segment (R45 to R47) -/

theorem moveStep (target rate : Nat) (s : State) : AirKeptUp s (moveStep target rate s) := by
  have hmoved : AirKeptUp s (moveTo target rate (clearTrack s)) := of_frame (by simp)
  unfold Machine.moveStep
  dsimp only
  split
  · exact hmoved.trans (segmentEnd _)
  · exact hmoved

theorem dwellStep (g : Segment) (s : State) : AirKeptUp s (dwellStep g s) := by
  have htracked : AirKeptUp s (trackDwell (withRun (fun r => { r with dwellMs := r.dwellMs + 20 }) s)) := of_frame (by simp)
  unfold Machine.dwellStep
  dsimp only
  split
  · exact htracked.trans (segmentEnd _)
  · exact htracked

/-- A sweep's end: VIB's assessment, the next segment or the present one again, and a checkpoint (R46, R91). -/
theorem sweepEnd (s : State) : AirKeptUp s (sweepEnd s) := by
  have htold : AirKeptUp s (lsnSweepEnded (setStage .assessing s)) := of_frame (by simp)
  have hhanded (u : State) : AirKeptUp u (noiseHanded u) := by
    obtain ⟨v, d, -, h⟩ := noiseHanded_eq u
    exact of_view (by rw [h]; rfl)
  unfold Machine.sweepEnd
  by_cases hv : (lsnSweepEnded (setStage .assessing s)).vib.state = .idle
  · rw [assessSweep, if_pos hv]
    exact htold
  · rw [assessSweep_eq hv]
    exact ((htold.trans (hhanded _)).trans (takeOutcome _ _)).trans (checkpoint _)

theorem sweepStep (g : Segment) (s : State) : AirKeptUp s (sweepStep g s) := by
  have hmoved (target : Nat) : AirKeptUp s (moveTo target g.rate s) := of_frame (by simp)
  unfold Machine.sweepStep
  split
  · dsimp only
    split
    · exact (hmoved _).trans (of_view rfl)
    · exact hmoved _
  · dsimp only
    split
    · exact (hmoved _).trans (sweepEnd _)
    · exact hmoved _
  · exact refl s
  · exact refl s

theorem actStep (s : State) : AirKeptUp s (actStep s) := by
  unfold Machine.actStep
  split
  · exact moveStep _ _ s
  · exact moveStep _ _ s
  · split
    · exact dwellStep _ s
    · exact of_frame (by simp)
  · exact (sweepStep _ _).after rfl

theorem activeStep (s : State) : AirKeptUp s (activeStep s) := by
  have hheld : AirKeptUp s (updateHolds s) := of_frame (by simp)
  have hended (u : State) : AirKeptUp u (stepEnded u) := of_frame (by simp [stepEnded])
  unfold Machine.activeStep
  refine trans ?_ (hended _)
  split
  · exact hheld.trans (actStep _)
  · exact hheld.trans (of_view rfl)

/-! ## STOPPING and COMPLETE (R60) -/

/-- RUN's COMPLETE is told to CYC, which may close the cycle, and arms LEAK if it is still to be. -/
theorem complete (s : State) : AirKeptUp s (complete s) := by
  have hended : AirKeptUp s (jobEnded (runComplete s)) :=
    (of_view (airView_jobEnded _)).after (by simp [runComplete, airView, circuitOf])
  rw [complete_eq]
  refine hended.trans ?_
  unfold armAtComplete
  split
  · exact (armLeak _).after rfl
  · exact refl _

theorem stoppingStep (s : State) : AirKeptUp s (stoppingStep s) := by
  unfold Machine.stoppingStep
  split
  · exact (complete _).after rfl
  · exact of_frame (by simp)

/-- The ramp-step timer runs in a cycle alone: RUN is at rest in STARTING (R42). -/
theorem rampStep {s : State} (hs : restLaw s) : AirKept s (rampStep s) := by
  have hup (h : inSegment s.run.state = true ∨ s.run.state = .stopping) : s.cyc.station ≠ .starting :=
    up_of_inCycle (running_of_restLaw hs h).cycle
  have hbegun : AirKeptUp s (beginStep s) := of_view rfl
  unfold Machine.rampStep
  split
  next h => exact (hbegun.trans (activeStep _)).lower (hup (by simp [h, inSegment]))
  next h => exact (hbegun.trans (activeStep _)).lower (hup (by simp [h, inSegment]))
  next h => exact (hbegun.trans (stoppingStep _)).lower (hup (.inr h))
  · exact refl s
  · exact refl s

/-! ## An accepted START (R4) -/

/-- A station past STARTING stays so in another state that it enters. -/
theorem setStation {st : StationState} (hst : st ≠ .starting) (s : State) : AirKeptUp s (setStation st s) := fun hs =>
  (airView_setStation (by simpa [airView] using hs.up) hst).symm ▸ hs

theorem startCycle (programme : Nat) (serial stamp : List Byte) (s : State) :
    AirKeptUp s (startCycle programme serial stamp s) := by
  have hready : AirKeptUp s (startReady programme serial stamp s) :=
    trans ((leakStart { openCycle programme serial stamp s with dev := devClear }).after rfl) (of_frame (by simp [startReady]))
  have hshown (u : State) : AirKeptUp u (Machine.setStation .testing
      (writePosting (fun p => { p with programme := programme, openSeq := s.store.nextSeq }) u)) :=
    (setStation (st := .testing) nofun _).after rfl
  rw [startCycle_eq]
  exact (hready.trans (enterSegment 0 _)).trans (hshown _)

end AirKeeps

end Sys2Proof.Machine
end

section
/-! SUPPORT. The air law kept by every step (O58). -/
namespace Sys2Proof.Machine

namespace AirKeeps

/-! ## Samples and stand inputs (R12 to R16, R103) -/

theorem slowDone (code : Nat) (s : State) : AirKept s (slowDone code s) := by
  cases hf : s.sca.inFlight with
  | none => rw [slowDone_idle _ hf]; exact refl s
  | some ch =>
    rw [slowDone_eq _ hf]
    refine after (u := slowWritten ch code s) ?_ rfl
    cases ch with
    | torq => exact of_frame (by simp [deliverSample])
    | oilt => exact of_frame (by simp [deliverSample])
    | prs1 => exact takePrs .one code _
    | airt1 => exact takeAirt .one code _
    | prs2 => exact takePrs .two code _
    | airt2 => exact takeAirt .two code _

/-- A wrap that applies a pending table drops windows alone (R106, R107). -/
theorem phaseBoundary (s : State) : AirKept s (phaseBoundary s) := by
  have happlied (u : State) : airView (applyPending u) = airView u := by
    unfold applyPending
    split
    · exact airView_leakDropped _ _
    · rfl
  unfold Machine.phaseBoundary
  split
  · split
    · exact of_view (happlied _)
    · exact of_view rfl
  · exact refl s

theorem standAbort (input : Nat) (s : State) : AirKept s (standAbort input s) := by
  unfold Machine.standAbort
  split
  next h => exact abortCycle _ h (fun u => by simp [airView, circuitOf]) (by simp)
  · exact of_frame (by simp)
  · exact refl s

theorem axleFall (which : AxleInput) (s : State) : AirKept s (axleFall which s) := by
  unfold Machine.axleFall
  split
  · split
    · exact of_view (airView_leaveDone s)
    · exact standAbort _ s
  · exact standAbort _ s

/-! ## Resets and the image (R132, R188, R193) -/

/-- A reset's values: both circuits OFF with their vent valves open, in STARTING. -/
theorem of_reset {s t : State} (hleak : t.leak = leakReset) (hst : t.cyc.station = .starting)
    (h1 : t.peer.posting.air1 = .unclaimed) (h2 : t.peer.posting.air2 = .unclaimed) (hage : t.peer.posting.airAge = 0) :
    AirKept s t := by
  intro _
  have hair (c : CircuitId) : (airView t).circuits c = (circuitClear true).air := by
    show (t.leak.circuit c).air = _
    rw [hleak]
    cases c <;> rfl
  have hclear : (circuitClear true).air.Lawful true := ⟨rfl, rfl, rfl, fun _ => rfl, fun _ _ => ⟨rfl, rfl⟩⟩
  refine ⟨fun c => ?_, ?_, ?_⟩
  · rw [hair, show (airView t).starting = true by simp [airView, hst]]
    exact hclear
  · simp only [postedOf, hair]
    show (t.peer.posting.air1, t.peer.posting.air2, t.peer.posting.airAge) = _
    rw [h1, h2, hage]
    rfl
  · simp only [fillsOf, hair]
    exact Nat.zero_le _

theorem beginStarting (s : State) : AirKept s (beginStarting s) := by
  unfold Machine.beginStarting
  dsimp only
  split <;> exact of_view rfl

theorem takeRestart (s : State) : AirKept s (takeRestart s) := by
  have hblocks : AirKept s (resetBlocks .restart s.sca.active true s) := of_reset rfl rfl rfl rfl rfl
  exact (hblocks.trans (beginStarting _)).trans (withStore _ .scan _)

theorem holdReset (k : HardReset) (s : State) : AirKept s (holdReset k s) := by
  unfold Machine.holdReset
  split
  · exact refl s
  · exact of_reset rfl rfl rfl rfl rfl

theorem releaseReset (straps : BitVec 4) (low : Bool) (s : State) : AirKept s (releaseReset straps low s) :=
  trans ((beginStarting { s with pins := { s.pins with straps := straps, supplyLow := low } }).after rfl)
    (withStore _ .readImage _)

/-- The image is read in STARTING, with no circuit in FILL. -/
theorem imageRead (image : List Byte) {s : State} (hst : s.cyc.station = .starting) : AirKept s (imageRead image s) := by
  rintro ⟨hcircuit, hposted, -⟩
  have hoff (c : CircuitId) : (circuitOf s c).state = .off := (hcircuit c).off (by simp [airView, hst])
  have hleak : (Machine.imageRead image s).leak = s.leak := by simp
  have hfills : ownFills (Machine.imageRead image s) = 0 := by
    simp only [ownFills, hleak]
    rw [show s.leak.c1.state = .off from hoff .one, show s.leak.c2.state = .off from hoff .two]
    rfl
  refine ⟨hcircuit, hposted, ?_⟩
  exact hfills.le.trans (Nat.zero_le _)

/-! ## Orders and postings (R28, R180) -/

theorem queueReply (r : Reply) (s : State) : AirKept s (queueReply r s) := of_view rfl

theorem ownAbort (broadcast : Bool) (s : State) : AirKept s (ownAbort broadcast s) := by
  have htaken (b : Bool) : AirKept s (abortTaken b s) := by
    unfold abortTaken
    split
    next h => exact abortCycle _ h (fun u => by simp [airView, circuitOf]) (by simp)
    · exact refl s
  unfold Machine.ownAbort
  split
  · exact htaken true
  · split
    · exact queueReply _ s
    · exact (htaken false).trans (queueReply _ _)

/-- A START is accepted in IDLE and DONE alone (R3). -/
theorem ownStart (body : List Byte) (s : State) : AirKept s (ownStart body s) := by
  unfold Machine.ownStart
  split
  · exact queueReply _ s
  next h =>
    have hup : s.cyc.station ≠ .starting := by rcases station_of_startRefusal_none h with h | h <;> simp [h]
    exact ((startCycle _ _ _ s).lower hup).trans (queueReply _ _)

theorem ownRestart (broadcast : Bool) (s : State) : AirKept s (ownRestart broadcast s) := by
  unfold Machine.ownRestart
  split
  · split <;> exact of_view rfl
  · split
    · exact takeRestart s
    · exact of_view rfl

theorem ownOrder (broadcast : Bool) (order : Byte) (body : List Byte) (s : State) :
    AirKept s (ownOrder broadcast order body s) := by
  unfold Machine.ownOrder
  split
  · exact ownAbort _ s
  split
  · exact of_frame (by simp)
  split
  · exact queueReply _ s
  split
  · exact of_frame (by simp)
  split
  · exact of_frame (by simp)
  split
  · exact of_frame (by simp)
  split
  · exact ownRestart _ s
  · exact ownStart _ s

theorem takeOrder (dest : Byte) (payload : List Byte) (s : State) : AirKept s (takeOrder dest payload s) := by
  unfold Machine.takeOrder
  split
  · split <;> exact of_view rfl
  · unfold judgeOrder
    split
    · exact of_view rfl
    split
    · exact of_view rfl
    split
    · exact of_view rfl
    split
    · split <;> exact of_view rfl
    · exact ownOrder _ _ _ s

theorem drain (n : Nat) (s : State) : AirKept s (drain n s) := by
  induction n generalizing s with
  | zero => exact refl s
  | succ n ih =>
    have hpop : AirKept s (popBuffer s) := of_view rfl
    unfold Machine.drain
    split
    · exact refl s
    · exact (hpop.trans (of_frame (by simp))).trans (ih _)
    · split
      · split
        · exact (hpop.trans (takeOrder _ _ _)).trans (ih _)
        · exact refl s
      · exact (hpop.trans (of_frame (by simp))).trans (ih _)

theorem receive (f : Frame) (own : Bool) (s : State) : AirKept s (receive f own s) := by
  unfold Machine.receive
  split
  · split
    · exact of_view rfl
    · exact (drain _ _).after rfl
  · exact refl s

theorem serveRead (s : State) : AirKept s (serveRead s) := by
  cases hd : s.lif.decoder with
  | free => unfold Machine.serveRead; rw [hd]; exact refl s
  | restarting => unfold Machine.serveRead; rw [hd]; exact refl s
  | reading r =>
    obtain ⟨answer, h⟩ := serveRead_reading hd
    rw [h, readServed]
    split
    · exact of_view rfl
    · exact (drain _ _).after rfl

theorem frameEnded (s : State) : AirKept s (frameEnded s) := by
  unfold Machine.frameEnded
  split
  · split
    · split
      · exact (receive _ _ _).after rfl
      · exact of_view rfl
    · exact of_view rfl
  · exact refl s

theorem sent (s : State) : AirKept s (sent s) := by
  have hagain (u : State) : AirKept u (chooseAgain u) := of_frame (by simp)
  unfold Machine.sent
  split
  · split
    · unfold replySent
      split
      · split
        · exact (takeRestart _).after rfl
        · exact (hagain _).after rfl
      · exact hagain s
    · exact (hagain _).after rfl
    · exact (hagain _).after rfl
    · exact hagain s
  · exact refl s

/-! ## The own posting-period expiry (R119) -/

theorem periodExpiry (a b : Bool) (s : State) : AirKept s (periodExpiry a b s) := by
  have hdue : AirKept s (clearDuplicate (periodDue s)) := of_frame (by simp)
  have hage (u : State) : AirKept u (agePeers u) := of_view rfl
  have hlsn (u : State) : AirKept u (lsnExpiry u) := of_frame (by simp)
  unfold Machine.periodExpiry expiryReaders
  split
  · exact ((hdue.trans (hage _)).trans (hlsn _)).trans (leakExpiry _)
  · exact ((hdue.trans (leakExpiry _)).trans (hage _)).trans (hlsn _)
  · exact ((hdue.trans (hlsn _)).trans (hage _)).trans (leakExpiry _)
  · exact ((hdue.trans (hlsn _)).trans (leakExpiry _)).trans (hage _)

/-! ## Every command -/

/-- A command that a running station takes; one held in reset sees the input levels alone. -/
theorem ofReleased {f : State → State} {s t : State} {p : Pins} (h : whenReleased f { s with pins := p } = .next t)
    (hf : AirKept { s with pins := p } (f { s with pins := p })) : AirKept s t := by
  rcases whenReleased_cases f { s with pins := p } with ⟨-, he⟩ | ⟨-, he⟩
  · obtain rfl := Host.Outcome.next.inj (he.symm.trans h)
    exact of_view rfl
  · obtain rfl := Host.Outcome.next.inj (he.symm.trans h)
    exact (hf.after rfl).trans (of_frame (by simp))

/-- The same for a meaning that leaves the circuits and what is posted of them. -/
theorem ofStill {f : State → State} {s t : State} {p : Pins} (h : whenReleased f { s with pins := p } = .next t)
    (hf : ∀ u, airView (f u) = airView u) : AirKept s t := ofReleased h (of_view (hf _))

/-- A recovery's swap is in flight in STARTING alone. -/
theorem starting_of_recovery {s : State} {w : Swap} (hs : bootLaw s) (hw : s.store.swap = some w) (hr : w.recovery = true) :
    s.cyc.station = .starting := (store_of_recover hs (recover_of_swap hs hw hr).1).1

theorem exec {c : Instr} {s t : State} (hs : bootLaw s) (hr : restLaw s) (h : exec c s = .next t) : AirKept s t := by
  cases c with
  | abort dest body => exact ofReleased (p := s.pins) h (receive _ _ _)
  | find dest body => exact ofReleased (p := s.pins) h (receive _ _ _)
  | item dest body => exact ofReleased (p := s.pins) h (receive _ _ _)
  | phases dest body => exact ofReleased (p := s.pins) h (receive _ _ _)
  | rdnew dest body => exact ofReleased (p := s.pins) h (receive _ _ _)
  | rdseq dest body => exact ofReleased (p := s.pins) h (receive _ _ _)
  | restart straps dest body => exact ofReleased h (receive _ _ _)
  | start lines dest body => exact ofReleased h (receive _ _ _)
  | storeReadServed => exact ofReleased (p := s.pins) h (serveRead _)
  | fullPostingReceived event own source payload => exact ofReleased (p := s.pins) h (receive _ _ _)
  | repeatPostingReceived own station => exact ofReleased (p := s.pins) h (receive _ _ _)
  | frameEnd => exact ofReleased (p := s.pins) h (frameEnded _)
  | pulseError ns => exact ofReleased (p := s.pins) h (of_frame (by simp))
  | lineStuck =>
    unfold Machine.exec execLineStuck at h
    exact ofStill (p := s.pins) h fun u => by split <;> rfl
  | transmitAttempt => exact ofReleased (p := s.pins) h (of_frame (by simp))
  | arbitrationWon => exact ofStill (p := s.pins) h fun u => by unfold won; (repeat' split) <;> rfl
  | arbitrationLost => exact ofReleased (p := s.pins) h (of_frame (by simp))
  | frameSent => exact ofReleased (p := s.pins) h (sent _)
  | restartTimeout =>
    unfold Machine.exec execRestartTimeout at h
    refine ofReleased (p := s.pins) h ?_
    split
    · exact (takeRestart _).after rfl
    · exact refl s
  | postingPeriodExpiry a b => exact ofReleased (p := s.pins) h (periodExpiry a b _)
  | rampStep => exact ofReleased (p := s.pins) h (rampStep ⟨hr.rest, hr.cycle⟩)
  | indexPulse us =>
    unfold Machine.exec execIndexPulse at h
    exact ofStill (p := s.pins) h fun u => rfl
  | indexTimeout =>
    unfold Machine.exec execIndexTimeout at h
    exact ofStill (p := s.pins) h fun u => rfl
  | countingPulse =>
    unfold Machine.exec execCountingPulse at h
    exact ofStill (p := s.pins) h fun u => by split <;> rfl
  | conversionComplete code =>
    unfold Machine.exec execConversionComplete at h
    exact ofStill (p := s.pins) h fun u => by split <;> rfl
  | phaseBoundary => exact ofReleased (p := s.pins) h (phaseBoundary _)
  | slowConversionComplete code => exact ofReleased (p := s.pins) h (slowDone _ _)
  | oilHistoryAppend =>
    unfold Machine.exec execOilHistoryAppend at h
    refine ofReleased (p := s.pins) h ?_
    split
    · exact of_frame (by simp)
    · exact refl s
  | deferralLimit => exact ofReleased (p := s.pins) h (of_frame (by simp))
  | airWaitLimit c => exact ofStill (p := s.pins) h (airView_airWaited c)
  | fillTimerExpiry c => exact ofReleased (p := s.pins) h (fillExpired c _)
  | stabiliseTimerExpiry c => exact ofReleased (p := s.pins) h (stabiliseExpired c _)
  | measureTimerExpiry c => exact ofReleased (p := s.pins) h (measureExpired c _)
  | ventTimerExpiry c => exact ofReleased (p := s.pins) h (ventExpired c _)
  | swapStepDone verified =>
    unfold Machine.exec execSwapStepDone at h
    refine ofReleased (p := s.pins) h ?_
    split
    next w hw =>
      split
      · split
        · exact of_view rfl
        · exact refl s
      · exact verifyFailure (starting_of_recovery hs hw)
    · exact refl s
  | swapEnd =>
    unfold Machine.exec execSwapEnd at h
    refine ofReleased (p := s.pins) h ?_
    split
    next w hw =>
      split
      · exact endSwap (starting_of_recovery hs hw)
      · exact refl s
    · exact refl s
  | driveReadyFall => exact ofReleased h (of_frame (by simp))
  | standStopOpen => exact ofReleased h (standAbort 1 _)
  | axleInputFall which => exact ofReleased h (axleFall which _)
  | supplyWarningRaised => exact ofStill h fun u => rfl
  | supplyWarningCleared =>
    unfold Machine.exec execSupplyWarningCleared at h
    have hwarned : bootLaw (setWarning false { s with pins := { s.pins with supplyLow := false } }) :=
      bootLaw_setWarning false hs
    exact ofReleased h ((heldSwap hwarned).after rfl)
  | reset kind =>
    obtain rfl := Host.Outcome.next.inj h
    exact holdReset kind s
  | resetRelease straps supplyLow =>
    unfold Machine.exec execResetRelease at h
    dsimp only at h
    split at h
    · obtain rfl := Host.Outcome.next.inj h
      exact (releaseReset straps supplyLow s).trans (of_frame (by simp))
    · obtain rfl := Host.Outcome.next.inj h
      exact refl s
  | imageReadDone image =>
    unfold Machine.exec execImageReadDone at h
    refine ofReleased (p := s.pins) h ?_
    split
    next hb => exact imageRead image (hs.1.mp (by simp [show s.boot = .readImage from hb]))
    · exact refl s
  | storeScanDone =>
    unfold Machine.exec execStoreScanDone at h
    refine ofReleased (p := s.pins) h ?_
    split
    next hb =>
      obtain ⟨-, -, -, hst⟩ := store_of_scan hs hb
      exact scanDone hst
    · exact refl s
  | busIdle => exact ofReleased (p := s.pins) h (of_frame (by simp))
  | startPulse ns => exact ofReleased (p := s.pins) h (of_frame (by simp))
  | bitPulse ns => exact ofReleased (p := s.pins) h (of_frame (by simp))

/-- A quarter of a millisecond moves the circuits' times alone. -/
theorem tick (s : State) : AirKept s (tick s) := by
  unfold Machine.tick
  split
  · exact refl s
  · split
    · exact of_view rfl
    · exact of_view (airView_of_circuits (fun c => by cases c <;> rfl) rfl rfl rfl)

end AirKeeps

/-- Settles O58: the circuits and what is posted of them, through every operation. -/
theorem stepsKeepTheAirLaws : Obligations.StepsKeepTheAirLaws := by
  intro s t hb hspeed hs h
  have hkept : AirKept s t := by
    rcases step_cases h with ⟨c, rest, -, hc⟩ | rfl
    · exact (AirKeeps.exec (s := { s with pending := rest }) hb (restLaw_of_speedLaw hspeed) hc).after rfl
    · exact .tick s
  exact (airLaw_iff t).mpr (hkept ((airLaw_iff s).mp hs))

end Sys2Proof.Machine
end

section
/-! SUPPORT. The leak-rate computation: the ranges of its pressures, and its judgement by the sign of the drop (O30). -/
namespace Sys2Proof.Machine

/-! ## Rounding half up (R133) -/

theorem le_roundHalfUp_iff {a num den : Nat} (hden : 0 < den) : a ≤ roundHalfUp num den ↔ a * den ≤ num + den / 2 :=
  Nat.le_div_iff_mul_le hden

theorem roundHalfUp_le_iff {a num den : Nat} (hden : 0 < den) :
    roundHalfUp num den ≤ a ↔ num + den / 2 < (a + 1) * den := by
  rw [← Nat.lt_succ_iff]
  exact Nat.div_lt_iff_lt_mul hden

/-- An exact quotient is its own rounding. -/
theorem roundHalfUp_mul_right (a : Nat) {den : Nat} (hden : 0 < den) : roundHalfUp (a * den) den = a :=
  le_antisymm ((roundHalfUp_le_iff hden).mpr (by rw [Nat.add_one_mul]; omega))
    ((le_roundHalfUp_iff hden).mpr (Nat.le_add_right _ _))

/-! ## The expected pressure and the drop (R134 to R136) -/

section
variable {w : WindowSums}

theorem absTemp_pos (sum : Nat) : 0 < absTemp sum := Nat.succ_pos _

theorem absPressure8_range {sum : Nat} (h : sum ≤ 32760) : 810600 ≤ absPressure8 sum ∧ absPressure8 sum ≤ 1629600 := by
  unfold absPressure8
  omega

theorem absTemp_range {sum : Nat} (h : sum ≤ 32760) : 40504 ≤ absTemp sum ∧ absTemp sum ≤ 73264 := by
  unfold absTemp
  omega

/-- The ends are reached: the air at atmospheric pressure cools over the whole scale, and at the highest pressure warms over
it. -/
theorem expectedPressure8_range (hprs : w.startPrs ≤ 32760) (hstart : w.startAirt ≤ 32760) (hend : w.endAirt ≤ 32760) :
    448140 ≤ expectedPressure8 w ∧ expectedPressure8 w ≤ 2947635 := by
  obtain ⟨hprsLow, hprsHigh⟩ := absPressure8_range hprs
  obtain ⟨hstartLow, hstartHigh⟩ := absTemp_range hstart
  obtain ⟨hendLow, hendHigh⟩ := absTemp_range hend
  have hlow : 810600 * 40504 ≤ absPressure8 w.startPrs * absTemp w.endAirt := Nat.mul_le_mul hprsLow hendLow
  have hhigh : absPressure8 w.startPrs * absTemp w.endAirt ≤ 1629600 * 73264 := Nat.mul_le_mul hprsHigh hendHigh
  constructor
  · exact (le_roundHalfUp_iff (absTemp_pos _)).mpr (by omega)
  · exact (roundHalfUp_le_iff (absTemp_pos _)).mpr (by omega)

/-- With no change of temperature the air is expected to keep its pressure. -/
theorem expectedPressure8_of_temp_eq (h : w.startAirt = w.endAirt) : expectedPressure8 w = absPressure8 w.startPrs := by
  rw [expectedPressure8, h, roundHalfUp_mul_right _ (absTemp_pos _)]

theorem leakDrop8_range (hstartPrs : w.startPrs ≤ 32760) (hendPrs : w.endPrs ≤ 32760) (hstart : w.startAirt ≤ 32760)
    (hend : w.endAirt ≤ 32760) : -1181460 ≤ leakDrop8 w ∧ leakDrop8 w ≤ 2137035 := by
  have hexpected := expectedPressure8_range hstartPrs hstart hend
  have hmeasured := absPressure8_range hendPrs
  unfold leakDrop8
  omega

theorem absPressure8_eq (sum : Nat) : absPressure8 sum = 25 * sum + 810600 := by rw [absPressure8, Nat.mul_comm]

theorem expectedPressure8_eq (w : WindowSums) : expectedPressure8 w
    = ((25 * w.startPrs + 810600) * (w.endAirt + 40504) + (w.startAirt + 40504) / 2) / (w.startAirt + 40504) := by
  rw [expectedPressure8, absPressure8_eq, absTemp, absTemp, roundHalfUp]

theorem leakDrop8_eq (w : WindowSums) :
    leakDrop8 w = (expectedPressure8 w : Int) - ((25 * w.endPrs + 810600 : Nat) : Int) := by
  rw [leakDrop8, absPressure8_eq]

end

/-! ## The judgement (R137 to R139) -/

section
variable (w : WindowSums) (p : CircuitParams)

/-- The four ends of the computation: a positive drop over the leak limit or within it, and a rise over the tolerance or
within it. -/
theorem judgeLeak_cases :
    (0 < leakDrop8 w ∧ p.leakLimit < leakRateOf (leakDrop8 w).toNat p
      ∧ judgeLeak w p = ⟨leakDrop8 w, leakRateOf (leakDrop8 w).toNat p, .leakHigh,
          some (.leakRate, leakRateOf (leakDrop8 w).toNat p, p.leakLimit)⟩)
    ∨ (0 < leakDrop8 w ∧ leakRateOf (leakDrop8 w).toNat p ≤ p.leakLimit
      ∧ judgeLeak w p = ⟨leakDrop8 w, leakRateOf (leakDrop8 w).toNat p, .passed, none⟩)
    ∨ (leakDrop8 w ≤ 0 ∧ (8 * p.riseTolerance : Int) < -leakDrop8 w
      ∧ judgeLeak w p = ⟨leakDrop8 w, 0, .rise,
          some (.pressureRise, min ((-leakDrop8 w).toNat / 8) 65535, p.riseTolerance)⟩)
    ∨ (leakDrop8 w ≤ 0 ∧ -leakDrop8 w ≤ 8 * p.riseTolerance ∧ judgeLeak w p = ⟨leakDrop8 w, 0, .passed, none⟩) := by
  unfold judgeLeak
  split
  next hdrop =>
    unfold judgeRate
    split
    next hhigh => exact .inl ⟨hdrop, hhigh, rfl⟩
    next hhigh => exact .inr (.inl ⟨hdrop, Nat.not_lt.mp hhigh, rfl⟩)
  next hdrop =>
    unfold judgeRise
    split
    next hrise => exact .inr (.inr (.inl ⟨by omega, by omega, rfl⟩))
    next hrise => exact .inr (.inr (.inr ⟨by omega, by omega, rfl⟩))

theorem leakRateOf_le (d8 : Nat) : leakRateOf d8 p ≤ 65535 := Nat.min_le_right _ _

theorem judgeLeak_rate_of_pos (h : 0 < leakDrop8 w) : (judgeLeak w p).rate = leakRateOf (leakDrop8 w).toNat p := by
  rcases judgeLeak_cases w p with ⟨-, -, hj⟩ | ⟨-, -, hj⟩ | ⟨hdrop, -, -⟩ | ⟨hdrop, -, -⟩
  · rw [hj]
  · rw [hj]
  · exact absurd h (Int.not_lt.mpr hdrop)
  · exact absurd h (Int.not_lt.mpr hdrop)

theorem judgeLeak_rate_of_nonpos (h : leakDrop8 w ≤ 0) : (judgeLeak w p).rate = 0 := by
  rcases judgeLeak_cases w p with ⟨hdrop, -, -⟩ | ⟨hdrop, -, -⟩ | ⟨-, -, hj⟩ | ⟨-, -, hj⟩
  · exact absurd hdrop (Int.not_lt.mpr h)
  · exact absurd hdrop (Int.not_lt.mpr h)
  · rw [hj]
  · rw [hj]

theorem judgeLeak_rate_le : (judgeLeak w p).rate ≤ 65535 := by
  rcases Int.lt_or_le 0 (leakDrop8 w) with hdrop | hdrop
  · rw [judgeLeak_rate_of_pos w p hdrop]
    exact leakRateOf_le p _
  · rw [judgeLeak_rate_of_nonpos w p hdrop]
    exact Nat.zero_le _

theorem judgeLeak_leakHigh_iff :
    (judgeLeak w p).outcome = .leakHigh ↔ 0 < leakDrop8 w ∧ p.leakLimit < (judgeLeak w p).rate := by
  rcases judgeLeak_cases w p with ⟨hdrop, hrate, hj⟩ | ⟨-, hrate, hj⟩ | ⟨-, -, hj⟩ | ⟨-, -, hj⟩
  · simp [hj, hdrop, hrate]
  · simp [hj, hrate]
  · simp [hj]
  · simp [hj]

/-- A rise over the tolerance is a rise: a drop of 0 is over no tolerance. -/
theorem judgeLeak_rise_iff :
    (judgeLeak w p).outcome = .rise ↔ leakDrop8 w < 0 ∧ (8 * p.riseTolerance : Int) < -leakDrop8 w := by
  rcases judgeLeak_cases w p with ⟨hdrop, -, hj⟩ | ⟨hdrop, -, hj⟩ | ⟨-, hrise, hj⟩ | ⟨-, hrise, hj⟩
  · simp [hj, Int.le_of_lt hdrop]
  · simp [hj, Int.le_of_lt hdrop]
  · have hneg : leakDrop8 w < 0 := by omega
    simp [hj, hneg, hrise]
  · simp [hj, hrise]

theorem judgeLeak_raised_none_iff : (judgeLeak w p).raised = none ↔ (judgeLeak w p).outcome = .passed := by
  rcases judgeLeak_cases w p with ⟨-, -, hj⟩ | ⟨-, -, hj⟩ | ⟨-, -, hj⟩ | ⟨-, -, hj⟩ <;> simp [hj]

theorem judgeLeak_raised_of_leakHigh (h : (judgeLeak w p).outcome = .leakHigh) :
    (judgeLeak w p).raised = some (.leakRate, (judgeLeak w p).rate, p.leakLimit) := by
  rcases judgeLeak_cases w p with ⟨-, -, hj⟩ | ⟨-, -, hj⟩ | ⟨-, -, hj⟩ | ⟨-, -, hj⟩ <;> simp [hj] at h ⊢

theorem judgeLeak_raised_of_rise (h : (judgeLeak w p).outcome = .rise) : (judgeLeak w p).raised
    = some (.pressureRise, min ((-leakDrop8 w).toNat / 8) 65535, p.riseTolerance) := by
  rcases judgeLeak_cases w p with ⟨-, -, hj⟩ | ⟨-, -, hj⟩ | ⟨-, -, hj⟩ | ⟨-, -, hj⟩ <;> simp [hj] at h ⊢

end

/-- Settles O30: the ranges and formulas of the pressures, then the judgement by the sign of the drop. -/
theorem leakRateStaysInItsRanges : Obligations.LeakRateStaysInItsRanges := by
  intro w p hstartPrs hendPrs hstart hend
  obtain ⟨hexpectedLow, hexpectedHigh⟩ := expectedPressure8_range hstartPrs hstart hend
  obtain ⟨hdropLow, hdropHigh⟩ := leakDrop8_range hstartPrs hendPrs hstart hend
  exact ⟨hexpectedLow, hexpectedHigh, hdropLow, hdropHigh, absPressure8_eq _, absPressure8_eq _, expectedPressure8_eq w,
    leakDrop8_eq w, expectedPressure8_of_temp_eq, judgeLeak_rate_le w p, judgeLeak_d8 w p, judgeLeak_rate_of_nonpos w p,
    judgeLeak_leakHigh_iff w p, judgeLeak_rise_iff w p, judgeLeak_rate_of_pos w p, judgeLeak_raised_none_iff w p,
    judgeLeak_raised_of_leakHigh w p, judgeLeak_raised_of_rise w p⟩

end Sys2Proof.Machine
end

section
/-! SUPPORT. A deviation event as DEV takes it (O48), and the verdict of a status set (O49). -/
namespace Sys2Proof.Machine

/-! ## A deviation event (R144 to R146) -/

section
variable {e : DevEvent} {s : State}

theorem takeDev_outside (h : inCycle s.cyc.station = false) : takeDev e s = s := if_neg (by simp [h])

theorem takeDev_masked (hin : inCycle s.cyc.station = true) (hm : maskedClass s e.cls = true) :
    takeDev e s = { s with dev := devMasked e.cls s.dev } := by
  rw [takeDev, if_pos hin, if_pos hm]

theorem takeDev_unmasked (hin : inCycle s.cyc.station = true) (hm : maskedClass s e.cls = false) :
    takeDev e s = { s with dev := devUnmasked e (cycleTime s) (severityOf s e.cls) s.dev } := by
  rw [takeDev, if_pos hin, if_neg (by simp [hm])]

end

section
variable {e : DevEvent} {time : Nat} {v : Severity} {d : Dev}

/-- The first unmasked event of a cycle is the first deviation, with its detail. -/
theorem devUnmasked_first (h : d.first = none) : devUnmasked e time v d = { d with
    status := addTo d.status e.cls.num
    count := bump 255 d.count
    first := some e.cls
    detail := ⟨e.place, time, min e.measured 65535, min e.limit 65535⟩
    firstFatal := decide (v = .fatal) } := by
  rw [devUnmasked, h]

/-- Any later one sets the multiple flag. -/
theorem devUnmasked_later {c : DevClass} (h : d.first = some c) : devUnmasked e time v d = { d with
    status := addTo d.status e.cls.num
    count := bump 255 d.count
    multiple := true } := by
  rw [devUnmasked, h]

end

/-- Settles O48, by the station state, the class's mask and whether the cycle has a first deviation. -/
theorem deviationIsTaken : Obligations.DeviationIsTaken := by
  intro e s hmeasured hlimit
  refine ⟨takeDev_outside, takeDev_masked, fun hin hm hnone => ?_, fun first hin hm hsome => ?_⟩
  · rw [takeDev_unmasked hin hm, devUnmasked_first hnone, Nat.min_eq_left hmeasured, Nat.min_eq_left hlimit]
    rfl
  · rw [takeDev_unmasked hin hm, devUnmasked_later hsome]
    rfl

/-! ## The verdict of a status set (R150) -/

theorem mem_allClasses (c : DevClass) : c ∈ allClasses := by cases c <;> decide

theorem exists_class_of_num {i : Nat} (h : i < 16) : ∃ c : DevClass, c.num = i := by
  have hall : ∀ j < 16, ∃ c ∈ allClasses, c.num = j := by decide
  obtain ⟨c, -, hc⟩ := hall i h
  exact ⟨c, hc⟩

/-- A status set is empty where it holds none of the sixteen classes. -/
theorem status_ne_zero_iff {status : Set16} : status ≠ 0 ↔ ∃ c : DevClass, inSet status c.num = true := by
  constructor
  · refine fun h => by_contra fun hnone => h (BitVec.eq_of_getLsbD_eq fun i hi => ?_)
    obtain ⟨c, rfl⟩ := exists_class_of_num hi
    simpa [inSet] using not_exists.mp hnone c
  · rintro ⟨c, hc⟩ rfl
    simp [inSet] at hc

section
variable {severity : List Nat} {status : Set16}

theorem holdsSeverity_iff {v : Severity} : holdsSeverity severity status v = true
    ↔ ∃ c : DevClass, inSet status c.num = true ∧ severityOfCode (severity.getD c.num 0) = v := by
  simp [holdsSeverity, mem_allClasses]

theorem holdsSeverity_eq_false_iff {v : Severity} : holdsSeverity severity status v = false
    ↔ ∀ c : DevClass, inSet status c.num = true → severityOfCode (severity.getD c.num 0) ≠ v := by
  rw [← Bool.not_eq_true, holdsSeverity_iff]
  simp

/-- The four verdicts in the order in which the severities are looked for. -/
theorem verdictOf_iff :
    (verdictOf severity status = .reject ↔ holdsSeverity severity status .fatal = true)
    ∧ (verdictOf severity status = .retest
      ↔ holdsSeverity severity status .retest = true ∧ holdsSeverity severity status .fatal = false)
    ∧ (verdictOf severity status = .passNoted ↔ holdsSeverity severity status .advisory = true
      ∧ holdsSeverity severity status .fatal = false ∧ holdsSeverity severity status .retest = false)
    ∧ (verdictOf severity status = .pass ↔ holdsSeverity severity status .fatal = false
      ∧ holdsSeverity severity status .retest = false ∧ holdsSeverity severity status .advisory = false) := by
  unfold verdictOf
  cases holdsSeverity severity status .fatal with
  | true => simp
  | false =>
    cases holdsSeverity severity status .retest with
    | true => simp
    | false => cases holdsSeverity severity status .advisory <;> simp

/-- A set without FATAL and RETEST classes holds ADVISORY classes alone. -/
theorem all_advisory_iff : (∀ c : DevClass, inSet status c.num = true → severityOfCode (severity.getD c.num 0) = .advisory)
    ↔ holdsSeverity severity status .fatal = false ∧ holdsSeverity severity status .retest = false := by
  have hrest (v : Severity) : v = .advisory ↔ v ≠ .fatal ∧ v ≠ .retest := by cases v <;> simp
  simp only [holdsSeverity_eq_false_iff, hrest, imp_and, forall_and]

/-- Among ADVISORY classes alone, one of them is any class at all. -/
theorem holdsSeverity_advisory_iff (h : ∀ c : DevClass, inSet status c.num = true →
    severityOfCode (severity.getD c.num 0) = .advisory) : holdsSeverity severity status .advisory = true ↔ status ≠ 0 := by
  rw [holdsSeverity_iff, status_ne_zero_iff]
  exact exists_congr fun c => and_iff_left_of_imp (h c)

end

/-- Settles O49: the severities looked for in turn, and the empty set that holds none of them. -/
theorem verdictFollowsTheStatusSet : Obligations.VerdictFollowsTheStatusSet := by
  intro severity status
  obtain ⟨hreject, hretest, hnoted, hpass⟩ := verdictOf_iff (severity := severity) (status := status)
  refine ⟨hreject.trans holdsSeverity_iff, hretest.trans (and_congr holdsSeverity_iff holdsSeverity_eq_false_iff),
    hnoted.trans ?_, hpass.trans ?_⟩
  · rw [← all_advisory_iff]
    exact and_congr_left holdsSeverity_advisory_iff
  · rw [← and_assoc, ← all_advisory_iff]
    constructor
    · rintro ⟨hadvisory, hnone⟩
      by_contra hst
      exact absurd ((holdsSeverity_advisory_iff hadvisory).mpr hst) (by simp [hnone])
    · rintro rfl
      have hempty (c : DevClass) : ¬ inSet 0 c.num = true := fun hc => status_ne_zero_iff.mpr ⟨c, hc⟩ rfl
      exact ⟨fun c hc => absurd hc (hempty c), holdsSeverity_eq_false_iff.mpr fun c hc => absurd hc (hempty c)⟩

end Sys2Proof.Machine
end

section
/-! SUPPORT. The law of the deviation sets: what an operation keeps of it, DEV's events, and the operations of LEAK, VIB, STORE
and CYC (O54). -/
namespace Sys2Proof.Machine

/-! ## A class added to a set -/

theorem inSet_addTo {s : Set16} {i j : Nat} (hi : i < 16) :
    inSet (addTo s i) j = true ↔ inSet s j = true ∨ i = j := by
  simp only [inSet, addTo, BitVec.getLsbD_or, BitVec.getLsbD_twoPow, Bool.or_eq_true, Bool.and_eq_true, decide_eq_true_eq, hi,
    true_and]

theorem num_lt_16 (c : DevClass) : c.num < 16 := by cases c <;> decide

theorem addTo_ne_zero (s : Set16) (c : DevClass) : addTo s c.num ≠ 0 :=
  status_ne_zero_iff.mpr ⟨c, (inSet_addTo (num_lt_16 c)).mpr (.inr rfl)⟩

/-- DEV cleared, whatever is masked (R148, R154). -/
theorem deviationLaw_of_clear {s : State} (h : s.dev = devClear) : deviationLaw s := by
  have hempty (n : Nat) : inSet devClear.status n = false ∧ inSet devClear.maskedSeen n = false := by simp [devClear, inSet]
  rw [deviationLaw, h]
  refine ⟨by decide, nofun, nofun, fun c _ hin => ?_, fun c _ hin => ?_, fun _ => rfl⟩
  · exact absurd hin (by simp [hempty])
  · exact absurd hin (by simp [hempty])

/-! ## What an operation keeps -/

/-- The law of the deviation sets is kept. -/
def DevKept (s t : State) : Prop := deviationLaw s → deviationLaw t

namespace DevKept

theorem refl (s : State) : DevKept s s := id

theorem trans {s t u : State} (h : DevKept s t) (h' : DevKept t u) : DevKept s u := fun hs => h' (h hs)

section
variable {s t : State}

/-- DEV and the mask stay, and the station does not go back to STARTING. -/
theorem of_same (h : t.dev = s.dev ∧ t.cfg.station = s.cfg.station)
    (hst : t.cyc.station = .starting → s.cyc.station = .starting) : DevKept s t := by
  obtain ⟨hdev, hcfg⟩ := h
  rintro ⟨hfirst, hmember, hmultiple, hstatus, hseen, hclear⟩
  have hmask : maskedClass t = maskedClass s := by funext c; rw [maskedClass, maskedClass, hcfg]
  rw [← hdev] at hfirst hmember hmultiple hstatus hseen hclear
  rw [← hmask] at hstatus hseen
  exact ⟨hfirst, hmember, hmultiple, hstatus, hseen, fun h => hclear (hst h)⟩

theorem of_frame (h : t.dev = s.dev ∧ t.cfg.station = s.cfg.station ∧ t.cyc.station = s.cyc.station) : DevKept s t :=
  of_same ⟨h.1, h.2.1⟩ h.2.2.symm.trans

/-- What the air law reads of a state tells whether the station is STARTING. -/
theorem of_airView (h : t.dev = s.dev ∧ t.cfg.station = s.cfg.station) (hair : airView t = airView s) : DevKept s t := by
  have hst : (t.cyc.station == .starting) = (s.cyc.station == .starting) := congrArg AirView.starting hair
  refine of_same h fun ht => ?_
  rw [ht] at hst
  exact beq_iff_eq.mp hst.symm

theorem of_clear (h : t.dev = devClear) : DevKept s t := fun _ => deviationLaw_of_clear h

end

/-! ## DEV's events (R144 to R146) -/

/-- An event of a masked class is one more of them seen. -/
theorem masked {c : DevClass} {s : State} (hin : inCycle s.cyc.station = true) (hm : maskedClass s c = true) :
    DevKept s { s with dev := devMasked c s.dev } := by
  rintro ⟨hfirst, hmember, hmultiple, hstatus, hseen, -⟩
  refine ⟨hfirst, hmember, hmultiple, hstatus, fun d hd hin' => ?_, fun hst => absurd hst (AirKeeps.up_of_inCycle hin)⟩
  rcases (inSet_addTo (num_lt_16 c)).mp hin' with h | h
  · exact hseen d hd h
  · exact (congrArg (inSet s.cfg.station.mask) h).symm.trans hm

/-- The status set with an unmasked class added: no masked class has come in, and the pointer names one of its members. -/
theorem unmasked {e : DevEvent} {time : Nat} {v : Severity} {s : State} (hin : inCycle s.cyc.station = true)
    (hm : maskedClass s e.cls = false) : DevKept s { s with dev := devUnmasked e time v s.dev } := by
  rintro ⟨-, hmember, -, hstatus, hseen, -⟩
  have hadded : ∀ c ∈ allClasses, inSet (addTo s.dev.status e.cls.num) c.num = true → maskedClass s c = false := by
    intro c hc hin'
    rcases (inSet_addTo (num_lt_16 _)).mp hin' with h | h
    · exact hstatus c hc h
    · exact (congrArg (inSet s.cfg.station.mask) h).symm.trans hm
  have hup : s.cyc.station ≠ .starting := AirKeeps.up_of_inCycle hin
  have hsome := addTo_ne_zero s.dev.status e.cls
  cases hfirst : s.dev.first with
  | none =>
    rw [devUnmasked_first hfirst]
    refine ⟨by simpa using hsome, fun c hc => ?_, fun _ => rfl, hadded, hseen, fun hst => absurd hst hup⟩
    obtain rfl := Option.some.inj hc
    exact (inSet_addTo (num_lt_16 _)).mpr (.inr rfl)
  | some first =>
    rw [devUnmasked_later hfirst]
    refine ⟨by simpa [hfirst] using hsome, fun c hc => ?_, fun _ => by simp [hfirst], hadded, hseen,
      fun hst => absurd hst hup⟩
    exact (inSet_addTo (num_lt_16 _)).mpr (.inl (hmember c hc))

theorem takeDev (e : DevEvent) (s : State) : DevKept s (takeDev e s) := by
  cases hin : inCycle s.cyc.station with
  | false =>
    rw [takeDev_outside hin]
    exact refl s
  | true =>
    cases hm : maskedClass s e.cls with
    | true =>
      rw [takeDev_masked hin hm]
      exact masked hin hm
    | false =>
      rw [takeDev_unmasked hin hm]
      exact unmasked hin hm

/-! ## LEAK (R120 to R126) -/

theorem withCircuit (c : CircuitId) (f : Circuit → Circuit) (s : State) : DevKept s (withCircuit c f s) :=
  of_frame (by simp)

theorem floorTest (c : CircuitId) (code : Nat) (s : State) : DevKept s (floorTest c code s) := by
  unfold Machine.floorTest
  split
  · exact (takeDev _ s).trans (withCircuit c _ _)
  · exact refl s

theorem takePrs (c : CircuitId) (code : Nat) (s : State) : DevKept s (takePrs c code s) := by
  unfold Machine.takePrs
  split
  · split
    · exact withCircuit c _ s
    · exact refl s
  · exact floorTest c code s
  · exact (withCircuit c _ s).trans (floorTest c code _)
  · exact refl s

theorem fillExpired (c : CircuitId) (s : State) : DevKept s (fillExpired c s) := by
  unfold Machine.fillExpired
  split
  · exact (takeDev _ s).trans (withCircuit c _ _)
  · exact refl s

theorem raiseLeak (c : CircuitId) (r : LeakResult) (s : State) : DevKept s (raiseLeak c r s) := by
  unfold Machine.raiseLeak
  split
  · exact takeDev _ s
  · exact refl s

theorem measureTold (c : CircuitId) (s : State) : DevKept s (measureTold c s) := by
  unfold Machine.measureTold
  split
  · exact takeDev _ s
  · exact raiseLeak c _ s

theorem measureExpired (c : CircuitId) (s : State) : DevKept s (measureExpired c s) := by
  by_cases h : (circuitOf s c).state = .measure
  · rw [measureExpired_measure h]
    exact (measureTold c s).trans (withCircuit c _ _)
  · rw [Machine.measureExpired, if_neg h]
    exact refl s

theorem airWaited (c : CircuitId) (s : State) : DevKept s (airWaited c s) := by
  have hmarked (k : Leak) : DevKept s { s with leak := k } := of_frame ⟨rfl, rfl, rfl⟩
  unfold Machine.airWaited
  split
  · exact (hmarked _).trans (takeDev _ { s with leak := _ })
  · exact refl s

/-! ## VIB's assessment (R91 to R95) -/

theorem withVib (f : Vib → Vib) (s : State) : DevKept s (withVib f s) := of_frame ⟨rfl, rfl, rfl⟩

theorem assessCell (ch : FastChannel) (s : State) (b : Nat) : DevKept s (assessCell ch s b) := by
  unfold Machine.assessCell
  dsimp only
  split
  · exact (withVib _ s).trans (takeDev _ _)
  · exact refl s

theorem assessCells (ch : FastChannel) (bands : List Nat) (s : State) :
    DevKept s (bands.foldl (Machine.assessCell ch) s) := by
  induction bands generalizing s with
  | nil => exact refl s
  | cons b bands ih => exact (assessCell ch s b).trans (ih _)

theorem assessCoverage (s : State) : DevKept s (assessCoverage s).1 := by
  unfold Machine.assessCoverage
  split
  · exact withVib _ s
  · split
    · exact withVib _ s
    · exact (takeDev _ s).trans (withVib _ _)

theorem assessShare (s : State) : DevKept s (assessShare s) := by
  unfold Machine.assessShare
  split
  · exact (withVib _ s).trans (takeDev _ _)
  · exact refl s

/-- What the assessment hands on to CYC and RUN. -/
theorem noiseHanded (s : State) : DevKept s (noiseHanded s) := by
  have hcells : DevKept s (assessLimits (Machine.withVib dropRevs s)) :=
    ((withVib dropRevs s).trans (assessCells .v1 _ _)).trans (assessCells .v2 _ _)
  have hjudged : DevKept s (noiseJudged s) := (hcells.trans (assessCoverage _)).trans (assessShare _)
  exact hjudged.trans (of_frame (t := Machine.noiseHanded s) (by simp [Machine.noiseHanded]))

/-! ## STORE and CYC (R8 to R17, R160 to R169) -/

/-- A station state entered that is not STARTING. -/
theorem setStation {st : StationState} (hst : st ≠ .starting) (s : State) : DevKept s (setStation st s) :=
  of_same (by simp) fun h => absurd h hst

theorem checkpoint (s : State) : DevKept s (checkpoint s) := of_airView (by simp) (by simp)

theorem jobEnded (s : State) : DevKept s (jobEnded s) := of_airView (by simp) (by simp)

theorem closeIfAtRest (s : State) : DevKept s (closeIfAtRest s) := of_airView (by simp) (by simp)

theorem leaveDone (s : State) : DevKept s (leaveDone s) := of_airView (by simp) (by simp)

theorem ventExpired (c : CircuitId) (s : State) : DevKept s (ventExpired c s) := by
  have hwritten (u : State) : DevKept u (writeCircuit c u) := of_frame (by simp)
  unfold Machine.ventExpired
  split
  · exact ((withCircuit c _ s).trans (hwritten _)).trans (jobEnded _)
  · exact refl s

/-- An abort cause in TESTING (R13). -/
theorem abortCycle (e : DevEvent) {stop : State → State} (hstop : ∀ u, DevKept u (stop u)) (s : State) :
    DevKept s (abortCycle e stop s) := by
  have hleft (u : State) : DevKept u (abortLeak (abandonSweep u)) := of_frame (by simp)
  exact ((((takeDev e s).trans (hstop _)).trans (hleft _)).trans (setStation (by decide) _)).trans (closeIfAtRest _)

end DevKept

end Sys2Proof.Machine
end

section
/-! SUPPORT. The law of the deviation sets through the end of the start-up, the operations of RUN, a START and the resets
(O54). -/
namespace Sys2Proof.Machine

namespace DevKept

/-! ## The end of the start-up (R1, R160 to R169) -/

/-- STORE and the stand of the start-up sequence are no part of it. -/
theorem withStore (st : Store) (boot : Boot) (s : State) : DevKept s { s with store := st, boot := boot } :=
  of_frame ⟨rfl, rfl, rfl⟩

theorem enterFaulted (cause : FaultCause) (s : State) : DevKept s (enterFaulted cause s) := of_frame ⟨rfl, rfl, rfl⟩

/-- The start-up ends in IDLE or UNCONFIGURED. -/
theorem startUpEnd (s : State) : DevKept s (startUpEnd s) := by
  have hup : (Machine.startUpEnd s).cyc.station ≠ .starting := by
    show (if s.cfg.passed then StationState.idle else .unconfigured) ≠ .starting
    split <;> decide
  exact of_same (by simp) fun h => absurd h hup

theorem scanEnd (s : State) : DevKept s (scanEnd s) := by
  unfold Machine.scanEnd
  split
  · exact (enterFaulted .spent s).trans (startUpEnd _)
  · exact (withStore _ s.boot s).trans (startUpEnd _)

theorem beginSwap (recovery : Bool) (req : Request) (s : State) : DevKept s (beginSwap recovery req s) := by
  cases recovery with
  | false => exact of_airView (by simp) (AirKeeps.airView_beginSwap req s)
  | true =>
    unfold Machine.beginSwap
    split
    · exact (enterFaulted .worn s).trans (startUpEnd _)
    · exact withStore _ s.boot s

theorem endSwap (w : Swap) (s : State) : DevKept s (endSwap w s) := by
  have hdone (req : Request) (u : State) : DevKept u (requestDone req u) := of_airView (by simp) (by simp)
  unfold Machine.endSwap
  dsimp only
  split
  · exact (withStore _ s.boot s).trans (scanEnd _)
  · exact (withStore _ s.boot s).trans (hdone _ _)

theorem verifyFailure (w : Swap) (s : State) : DevKept s (verifyFailure w s) := by
  have hfaulted (st : Store) : DevKept s (Machine.enterFaulted .verify { cutSwap w s with store := st }) :=
    of_frame ⟨rfl, rfl, rfl⟩
  have hended (u : State) : DevKept u (commitEnded u) := of_airView (by simp) (by simp)
  unfold Machine.verifyFailure
  dsimp only
  split
  · exact (hfaulted _).trans (startUpEnd _)
  · split
    · exact (hfaulted _).trans (hended _)
    · exact hfaulted _

theorem scanDone (s : State) : DevKept s (scanDone s) := by
  unfold Machine.scanDone
  dsimp only
  split
  · exact (withStore _ s.boot s).trans (scanEnd _)
  · split
    · exact withStore _ .recover s
    · exact (withStore _ .recover s).trans (beginSwap true _ _)

theorem heldSwap (s : State) : DevKept s (heldSwap s) := by
  unfold Machine.heldSwap
  split
  · exact (withStore _ s.boot s).trans (beginSwap false _ _)
  · exact (withStore _ s.boot s).trans (beginSwap true _ _)
  · exact refl s

/-! ## RUN's deviations (R52, R56 to R59) -/

theorem withRun (f : Run → Run) (s : State) : DevKept s (withRun f s) := of_frame ⟨rfl, rfl, rfl⟩

theorem withRun_withRun (f g : Run → Run) (s : State) : DevKept s (Machine.withRun g (Machine.withRun f s)) :=
  of_frame ⟨rfl, rfl, rfl⟩

theorem toStopping (why : EndReason) (s : State) : DevKept s (toStopping why s) := of_frame (by simp)

theorem setSpeed (rpm : Nat) (s : State) : DevKept s (setSpeed rpm s) := of_frame (by simp)

theorem runDeviation (c : DevClass) (measured limit : Nat) (s : State) : DevKept s (runDeviation c measured limit s) := by
  unfold Machine.runDeviation
  dsimp only
  split
  · exact (takeDev _ s).trans (toStopping _ _)
  · exact takeDev _ s

theorem trackDwell (s : State) : DevKept s (trackDwell s) := by
  unfold Machine.trackDwell
  dsimp only
  split
  · split
    · exact (withRun_withRun _ _ s).trans (runDeviation _ _ _ _)
    · exact withRun _ s
  · exact withRun _ s

theorem countPower (s : State) : DevKept s (countPower s) := by
  unfold Machine.countPower
  dsimp only
  split
  · split
    · exact (withRun_withRun _ _ s).trans (runDeviation _ _ _ _)
    · exact withRun _ s
  · exact refl s

theorem takeTorq (code : Nat) (s : State) : DevKept s (takeTorq code s) := by
  unfold Machine.takeTorq
  dsimp only
  split
  · split
    · exact ((withRun_withRun _ _ s).trans (withRun _ _)).trans (runDeviation _ _ _ _)
    · exact withRun_withRun _ _ s
  · exact withRun _ s

theorem takeOilt (code : Nat) (s : State) : DevKept s (takeOilt code s) := by
  unfold Machine.takeOilt
  dsimp only
  split
  · split
    · exact ((withRun_withRun _ _ s).trans (withRun _ _)).trans (runDeviation _ _ _ _)
    · exact withRun_withRun _ _ s
  · exact withRun _ s

theorem appendOil (s : State) : DevKept s (appendOil s) := by
  have hjudged (u : State) : DevKept u (judgeOilRise u) := by
    unfold judgeOilRise
    split
    · split
      · exact (withRun _ u).trans (runDeviation _ _ _ _)
      · exact refl u
    · exact refl u
  unfold Machine.appendOil
  split
  · exact (withRun _ s).trans (hjudged _)
  · exact refl s

theorem driveLost (s : State) : DevKept s (driveLost s) := by
  have htold : DevKept s (driveLossTold s) := (withRun _ s).trans (takeDev _ _)
  cases hin : inSegment s.run.state with
  | false =>
    rw [driveLost_other hin]
    exact refl s
  | true =>
    rw [driveLost_segment hin]
    split
    · exact htold
    · exact (htold.trans (setSpeed 0 _)).trans (toStopping _ _)

/-! ## A ramp step (R45 to R47, R60) -/

theorem enterSegment (i : Nat) (s : State) : DevKept s (enterSegment i s) := of_frame (by simp)

theorem segmentEnd (s : State) : DevKept s (segmentEnd s) := by
  rw [segmentEnd_eq]
  split
  · exact (withRun _ s).trans (enterSegment _ _)
  · exact (withRun _ s).trans (toStopping _ _)

theorem takeOutcome (again : Bool) (s : State) : DevKept s (takeOutcome again s) := by
  unfold Machine.takeOutcome
  split
  · exact enterSegment _ s
  · exact segmentEnd s

theorem moveTo (target rate : Nat) (s : State) : DevKept s (moveTo target rate s) := of_frame (by simp)

theorem moveStep (target rate : Nat) (s : State) : DevKept s (moveStep target rate s) := by
  have hmoved : DevKept s (Machine.moveTo target rate (clearTrack s)) := (withRun _ s).trans (moveTo _ _ _)
  unfold Machine.moveStep
  dsimp only
  split
  · exact hmoved.trans (segmentEnd _)
  · exact hmoved

theorem dwellStep (g : Segment) (s : State) : DevKept s (dwellStep g s) := by
  unfold Machine.dwellStep
  dsimp only
  split
  · exact ((withRun _ s).trans (trackDwell _)).trans (segmentEnd _)
  · exact (withRun _ s).trans (trackDwell _)

/-- A sweep's end: VIB's assessment, the next segment or the present one again, and a checkpoint (R46, R91). -/
theorem sweepEnd (s : State) : DevKept s (sweepEnd s) := by
  have htold : DevKept s (lsnSweepEnded (setStage .assessing s)) := of_frame (by simp)
  unfold Machine.sweepEnd
  by_cases hv : (lsnSweepEnded (setStage .assessing s)).vib.state = .idle
  · rw [assessSweep, if_pos hv]
    exact htold
  · rw [assessSweep_eq hv]
    exact ((htold.trans (noiseHanded _)).trans (takeOutcome _ _)).trans (checkpoint _)

theorem sweepStep (g : Segment) (s : State) : DevKept s (sweepStep g s) := by
  unfold Machine.sweepStep
  dsimp only
  split
  · split
    · exact (moveTo _ _ s).trans (withRun _ _)
    · exact moveTo _ _ s
  · split
    · exact (moveTo _ _ s).trans (sweepEnd _)
    · exact moveTo _ _ s
  · exact refl s
  · exact refl s

theorem actStep (s : State) : DevKept s (actStep s) := by
  unfold Machine.actStep
  split
  · exact moveStep _ _ s
  · exact moveStep _ _ s
  · split
    · exact dwellStep _ s
    · exact (withRun _ s).trans (moveTo _ _ _)
  · exact (withRun _ s).trans (sweepStep _ _)

theorem stepEnded (s : State) : DevKept s (stepEnded s) :=
  (countPower s).trans (of_frame (t := Machine.stepEnded s) (by simp [Machine.stepEnded]))

theorem activeStep (s : State) : DevKept s (activeStep s) := by
  have hheld : DevKept s (updateHolds s) := of_frame (by simp)
  unfold Machine.activeStep
  refine trans ?_ (stepEnded _)
  split
  · exact hheld.trans (actStep _)
  · exact hheld.trans (withRun _ _)

/-- RUN's COMPLETE is told to CYC, which may close the cycle, and arms LEAK if it is still to be. -/
theorem complete (s : State) : DevKept s (complete s) := by
  have hcomplete : DevKept s (runComplete s) := of_frame (by simp [runComplete])
  rw [complete_eq]
  exact (hcomplete.trans (jobEnded _)).trans (of_frame (by simp))

theorem rampStep (s : State) : DevKept s (rampStep s) := by
  have hbegun : DevKept s (beginStep s) := withRun _ s
  have hstopping (u : State) : DevKept u (stoppingStep u) := by
    unfold stoppingStep
    split
    · exact (withRun _ u).trans (complete _)
    · exact (withRun _ u).trans (setSpeed _ _)
  unfold Machine.rampStep
  split
  · exact hbegun.trans (activeStep _)
  · exact hbegun.trans (activeStep _)
  · exact hbegun.trans (hstopping _)
  · exact refl s
  · exact refl s

/-! ## An accepted START, the stand inputs and the samples (R4, R12 to R16, R103) -/

/-- A START clears DEV before RUN's start request can raise anything (R148). -/
theorem startCycle (programme : Nat) (serial stamp : List Byte) (s : State) :
    DevKept s (startCycle programme serial stamp s) := by
  have hready : DevKept s (startReady programme serial stamp s) := trans (of_clear rfl) (appendOil _)
  have hshown (u : State) (f : Posting → Posting) : DevKept u (writePosting f u) := of_frame ⟨rfl, rfl, rfl⟩
  rw [startCycle_eq]
  exact ((hready.trans (enterSegment 0 _)).trans (hshown _ _)).trans (setStation (by decide) _)

theorem stopAtOnce (s : State) : DevKept s (stopAtOnce s) := of_frame (by simp)

theorem standAbort (input : Nat) (s : State) : DevKept s (standAbort input s) := by
  unfold Machine.standAbort
  split
  · exact abortCycle _ stopAtOnce s
  · exact (takeDev _ s).trans (stopAtOnce _)
  · exact refl s

theorem axleFall (which : AxleInput) (s : State) : DevKept s (axleFall which s) := by
  unfold Machine.axleFall
  split
  · split
    · exact leaveDone s
    · exact standAbort _ s
  · exact standAbort _ s

theorem slowDone (code : Nat) (s : State) : DevKept s (slowDone code s) := by
  have htaken (c : CircuitId) (u : State) : DevKept u (takeAirt c code u) := of_frame (by simp)
  cases hf : s.sca.inFlight with
  | none => rw [slowDone_idle _ hf]; exact refl s
  | some ch =>
    have hwritten : DevKept s (slowWritten ch code s) := of_frame ⟨rfl, rfl, rfl⟩
    rw [slowDone_eq _ hf]
    refine hwritten.trans ?_
    cases ch with
    | torq => exact takeTorq code _
    | oilt => exact takeOilt code _
    | prs1 => exact takePrs .one code _
    | airt1 => exact htaken .one _
    | prs2 => exact takePrs .two code _
    | airt2 => exact htaken .two _

/-! ## Resets and the image (R154, R188, R192 to R196) -/

theorem takeRestart (s : State) : DevKept s (takeRestart s) := by
  have hbegun (u : State) : (beginStarting u).dev = u.dev := by simp
  exact of_clear ((hbegun (resetBlocks .restart s.sca.active true s)).trans rfl)

theorem holdReset (k : HardReset) (s : State) : DevKept s (holdReset k s) := by
  unfold Machine.holdReset
  split
  · exact refl s
  · exact of_clear rfl

theorem releaseReset (straps : BitVec 4) (low : Bool) (s : State) : DevKept s (releaseReset straps low s) := by
  have hcfg (u : State) : (beginStarting u).cfg.station = u.cfg.station := by
    unfold beginStarting
    dsimp only
    split <;> rfl
  exact of_frame ⟨by simp, hcfg _, by simp⟩

/-- The image is read in STARTING, where DEV is clear: a new mask finds nothing (R154, R195). -/
theorem imageRead (image : List Byte) {s : State} (hst : s.cyc.station = .starting) : DevKept s (imageRead image s) := by
  intro hs
  have hdev : (Machine.imageRead image s).dev = s.dev := by simp
  obtain ⟨-, -, -, -, -, hclear⟩ := hs
  exact deviationLaw_of_clear (hdev.trans (hclear hst))

end DevKept

end Sys2Proof.Machine
end

section
/-! SUPPORT. The law of the deviation sets kept by every step (O54). -/
namespace Sys2Proof.Machine

namespace DevKept

/-! ## Orders and postings (R28, R180) -/

theorem withLif (f : Lif → Lif) (s : State) : DevKept s (withLif f s) := of_frame ⟨rfl, rfl, rfl⟩

theorem queueReply (r : Reply) (s : State) : DevKept s (queueReply r s) := withLif _ s

theorem seeInputs (s : State) : DevKept s (seeInputs s) := of_frame (by simp)

theorem ownAbort (broadcast : Bool) (s : State) : DevKept s (ownAbort broadcast s) := by
  have hstop (u : State) : DevKept u (stopForAbort u) := of_frame (by simp)
  have htaken (b : Bool) : DevKept s (abortTaken b s) := by
    unfold abortTaken
    split
    · exact abortCycle _ hstop s
    · exact refl s
  unfold Machine.ownAbort
  split
  · exact htaken true
  · split
    · exact queueReply _ s
    · exact (htaken false).trans (queueReply _ _)

theorem ownStart (body : List Byte) (s : State) : DevKept s (ownStart body s) := by
  unfold Machine.ownStart
  split
  · exact queueReply _ s
  · exact (startCycle _ _ _ s).trans (queueReply _ _)

theorem ownRestart (broadcast : Bool) (s : State) : DevKept s (ownRestart broadcast s) := by
  unfold Machine.ownRestart
  split
  · split <;> exact of_frame (by simp)
  · split
    · exact takeRestart s
    · exact of_frame (by simp)

theorem ownOrder (broadcast : Bool) (order : Byte) (body : List Byte) (s : State) :
    DevKept s (ownOrder broadcast order body s) := by
  unfold Machine.ownOrder
  split
  · exact ownAbort _ s
  split
  · exact of_frame (by simp)
  split
  · exact queueReply _ s
  split
  · exact of_frame (by simp)
  split
  · exact of_frame (by simp)
  split
  · exact of_frame (by simp)
  split
  · exact ownRestart _ s
  · exact ownStart _ s

theorem takeOrder (dest : Byte) (payload : List Byte) (s : State) : DevKept s (takeOrder dest payload s) := by
  unfold Machine.takeOrder
  split
  · split <;> exact of_frame (by simp)
  · unfold judgeOrder
    split
    · exact of_frame (by simp)
    split
    · exact of_frame (by simp)
    split
    · exact of_frame (by simp)
    split
    · split <;> exact of_frame (by simp)
    · exact ownOrder _ _ _ s

theorem drain (n : Nat) (s : State) : DevKept s (drain n s) := by
  induction n generalizing s with
  | zero => exact refl s
  | succ n ih =>
    have hpop : DevKept s (popBuffer s) := withLif _ s
    unfold Machine.drain
    split
    · exact refl s
    · exact (hpop.trans (of_frame (by simp))).trans (ih _)
    · split
      · split
        · exact (hpop.trans (takeOrder _ _ _)).trans (ih _)
        · exact refl s
      · exact (hpop.trans (of_frame (by simp))).trans (ih _)

theorem receive (f : Frame) (own : Bool) (s : State) : DevKept s (receive f own s) := by
  unfold Machine.receive
  split
  · split
    · exact of_frame (by simp)
    · exact (withLif _ s).trans (drain _ _)
  · exact refl s

theorem serveRead (s : State) : DevKept s (serveRead s) := by
  cases hd : s.lif.decoder with
  | free => unfold Machine.serveRead; rw [hd]; exact refl s
  | restarting => unfold Machine.serveRead; rw [hd]; exact refl s
  | reading r =>
    obtain ⟨answer, h⟩ := serveRead_reading hd
    have hfreed := (queueReply answer s).trans (withLif (fun l => { l with decoder := .free }) _)
    rw [h, readServed]
    split
    · exact hfreed
    · exact (hfreed.trans (seeInputs _)).trans (drain _ _)

theorem frameEnded (s : State) : DevKept s (frameEnded s) := by
  have hended : DevKept s (Machine.seeInputs (setClassifier .waitStart s)) := of_frame (by simp)
  unfold Machine.frameEnded
  split
  · split
    · split
      · exact hended.trans (receive _ _ _)
      · exact of_frame (by simp)
    · exact of_frame (by simp)
  · exact refl s

/-- A frame sent: the ACCEPTED of a RESTART brings the reset (R188). -/
theorem sent (s : State) : DevKept s (sent s) := by
  unfold Machine.sent
  split
  · split
    · unfold replySent
      split
      · split
        · exact (seeInputs s).trans (takeRestart _)
        · exact of_frame (by simp)
      · exact of_frame (by simp)
    · exact of_frame (by simp)
    · exact of_frame (by simp)
    · exact of_frame (by simp)
  · exact refl s

/-- The readers of an expiry raise nothing, in whatever order they follow (R23). -/
theorem periodExpiry (a b : Bool) (s : State) : DevKept s (periodExpiry a b s) := by
  refine of_frame ?_
  unfold Machine.periodExpiry expiryReaders
  split <;> simp [leakExpiry]

/-! ## Every command -/

/-- A command that a running station takes; one held in reset sees the input levels alone. -/
theorem ofReleased {f : State → State} {s t : State} {p : Pins} (h : whenReleased f { s with pins := p } = .next t)
    (hf : DevKept { s with pins := p } (f { s with pins := p })) : DevKept s t := by
  have hseen : DevKept s { s with pins := p } := of_frame ⟨rfl, rfl, rfl⟩
  rcases whenReleased_cases f { s with pins := p } with ⟨-, he⟩ | ⟨-, he⟩
  · obtain rfl := Host.Outcome.next.inj (he.symm.trans h)
    exact hseen
  · obtain rfl := Host.Outcome.next.inj (he.symm.trans h)
    exact (hseen.trans hf).trans (of_frame (by simp))

theorem exec {c : Instr} {s t : State} (hs : bootLaw s) (h : exec c s = .next t) : DevKept s t := by
  cases c with
  | abort dest body => exact ofReleased (p := s.pins) h (receive _ _ _)
  | find dest body => exact ofReleased (p := s.pins) h (receive _ _ _)
  | item dest body => exact ofReleased (p := s.pins) h (receive _ _ _)
  | phases dest body => exact ofReleased (p := s.pins) h (receive _ _ _)
  | rdnew dest body => exact ofReleased (p := s.pins) h (receive _ _ _)
  | rdseq dest body => exact ofReleased (p := s.pins) h (receive _ _ _)
  | restart straps dest body => exact ofReleased h (receive _ _ _)
  | start lines dest body => exact ofReleased h (receive _ _ _)
  | storeReadServed => exact ofReleased (p := s.pins) h (serveRead _)
  | fullPostingReceived event own source payload => exact ofReleased (p := s.pins) h (receive _ _ _)
  | repeatPostingReceived own station => exact ofReleased (p := s.pins) h (receive _ _ _)
  | frameEnd => exact ofReleased (p := s.pins) h (frameEnded _)
  | pulseError ns => exact ofReleased (p := s.pins) h (of_frame (by simp))
  | lineStuck =>
    unfold Machine.exec execLineStuck at h
    exact ofReleased (p := s.pins) h (of_frame (by split <;> simp))
  | transmitAttempt => exact ofReleased (p := s.pins) h (of_frame (by simp))
  | arbitrationWon => exact ofReleased (p := s.pins) h (of_frame (by simp))
  | arbitrationLost => exact ofReleased (p := s.pins) h (of_frame (by simp))
  | frameSent => exact ofReleased (p := s.pins) h (sent _)
  | restartTimeout =>
    unfold Machine.exec execRestartTimeout at h
    refine ofReleased (p := s.pins) h ?_
    split
    · exact (seeInputs _).trans (takeRestart _)
    · exact refl s
  | postingPeriodExpiry a b => exact ofReleased (p := s.pins) h (periodExpiry a b _)
  | rampStep => exact ofReleased (p := s.pins) h (rampStep _)
  | indexPulse us =>
    unfold Machine.exec execIndexPulse at h
    exact ofReleased (p := s.pins) h (of_frame ⟨rfl, rfl, rfl⟩)
  | indexTimeout =>
    unfold Machine.exec execIndexTimeout at h
    exact ofReleased (p := s.pins) h (of_frame ⟨rfl, rfl, rfl⟩)
  | countingPulse =>
    unfold Machine.exec execCountingPulse at h
    exact ofReleased (p := s.pins) h (of_frame (by split <;> exact ⟨rfl, rfl, rfl⟩))
  | conversionComplete code =>
    unfold Machine.exec execConversionComplete at h
    exact ofReleased (p := s.pins) h (of_frame (by split <;> exact ⟨rfl, rfl, rfl⟩))
  | phaseBoundary => exact ofReleased (p := s.pins) h (of_frame (by simp))
  | slowConversionComplete code => exact ofReleased (p := s.pins) h (slowDone _ _)
  | oilHistoryAppend =>
    unfold Machine.exec execOilHistoryAppend at h
    refine ofReleased (p := s.pins) h ?_
    split
    · exact appendOil _
    · exact refl s
  | deferralLimit => exact ofReleased (p := s.pins) h (of_frame (by simp))
  | airWaitLimit c => exact ofReleased (p := s.pins) h (airWaited c _)
  | fillTimerExpiry c => exact ofReleased (p := s.pins) h (fillExpired c _)
  | stabiliseTimerExpiry c => exact ofReleased (p := s.pins) h (of_frame (by simp))
  | measureTimerExpiry c => exact ofReleased (p := s.pins) h (measureExpired c _)
  | ventTimerExpiry c => exact ofReleased (p := s.pins) h (ventExpired c _)
  | swapStepDone verified =>
    unfold Machine.exec execSwapStepDone at h
    refine ofReleased (p := s.pins) h ?_
    split
    · split
      · split
        · exact withStore _ s.boot s
        · exact refl s
      · exact verifyFailure _ _
    · exact refl s
  | swapEnd =>
    unfold Machine.exec execSwapEnd at h
    refine ofReleased (p := s.pins) h ?_
    split
    · split
      · exact endSwap _ _
      · exact refl s
    · exact refl s
  | driveReadyFall => exact ofReleased h (driveLost _)
  | standStopOpen => exact ofReleased h (standAbort 1 _)
  | axleInputFall which => exact ofReleased h (axleFall which _)
  | supplyWarningRaised => exact ofReleased h (of_frame (by simp))
  | supplyWarningCleared =>
    unfold Machine.exec execSupplyWarningCleared at h
    have hwarning (u : State) : DevKept u (setWarning false u) := of_frame (by simp)
    exact ofReleased h ((hwarning _).trans (heldSwap _))
  | reset kind =>
    obtain rfl := Host.Outcome.next.inj h
    exact holdReset kind s
  | resetRelease straps supplyLow =>
    unfold Machine.exec execResetRelease at h
    dsimp only at h
    split at h
    · obtain rfl := Host.Outcome.next.inj h
      exact (releaseReset straps supplyLow s).trans (of_frame (by simp))
    · obtain rfl := Host.Outcome.next.inj h
      exact refl s
  | imageReadDone image =>
    unfold Machine.exec execImageReadDone at h
    refine ofReleased (p := s.pins) h ?_
    split
    next hb =>
      obtain ⟨hstation, -⟩ := hs
      exact imageRead image (hstation.mp (by simp [show s.boot = .readImage from hb]))
    · exact refl s
  | storeScanDone =>
    unfold Machine.exec execStoreScanDone at h
    refine ofReleased (p := s.pins) h ?_
    split
    · exact scanDone _
    · exact refl s
  | busIdle => exact ofReleased (p := s.pins) h (of_frame (by simp))
  | startPulse ns => exact ofReleased (p := s.pins) h (of_frame (by simp))
  | bitPulse ns => exact ofReleased (p := s.pins) h (of_frame (by simp))

theorem tick (s : State) : DevKept s (tick s) := by
  unfold Machine.tick
  split
  · exact refl s
  · split <;> exact of_frame ⟨rfl, rfl, rfl⟩

end DevKept

/-- Settles O54: DEV's law through every operation; a mask is loaded in STARTING alone, where DEV is clear. -/
theorem stepsKeepTheDeviationSets : Obligations.StepsKeepTheDeviationSets := by
  intro s t hb hs h
  rcases step_cases h with ⟨c, rest, -, hc⟩ | rfl
  · exact DevKept.exec (s := { s with pending := rest }) hb hc hs
  · exact DevKept.tick s hs

end Sys2Proof.Machine
end

section
/-! SUPPORT. What a step can do to the flash (O52): only a swap's steps and its end program it, and a swap that is cut off. -/
namespace Sys2Proof.Machine

/-! ## The flash form, move by move (R155) -/

theorem flashLaw_of_flash {s t : State} (h : t.store.flash = s.store.flash) (hs : flashLaw s) : flashLaw t := by
  rwa [flashLaw, h]

theorem flash_of_view {s t : State} (h : coreView t = coreView s) : t.store.flash = s.store.flash :=
  congrArg (fun v => v.store.flash) h

/-- A START opens a record and takes a sequence; STORE's flash it leaves (R4). -/
theorem startCycle_flash (programme : Nat) (serial stamp : List Byte) (s : State) :
    (startCycle programme serial stamp s).store.flash = s.store.flash :=
  (flash_of_view (coreView_startCycle programme serial stamp s)).trans (by simp [showCycle])

theorem flashLaw_cutSwap (w : Swap) {s : State} (hs : flashLaw s) : flashLaw (cutSwap w s) := cutStepFlash_wf _ _ _ hs

theorem flashLaw_cutInFlight {s : State} (hs : flashLaw s) : flashLaw (cutInFlight s) := by
  cases hw : s.store.swap with
  | none => rwa [cutInFlight_none hw]
  | some w =>
    rw [cutInFlight_some hw]
    exact flashLaw_cutSwap w hs

/-- A reset leaves what a swap cut off in flight leaves (R166). -/
theorem flashLaw_resetBlocks (k : ResetCause) (table : List Nat) (rota : Bool) {s : State} (hs : flashLaw s) :
    flashLaw (resetBlocks k table rota s) := flashLaw_cutInFlight hs

theorem flashLaw_holdReset (k : HardReset) {s : State} (hs : flashLaw s) : flashLaw (holdReset k s) := by
  unfold holdReset
  split
  · exact hs
  · exact flashLaw_resetBlocks (hardCause k) idleTable false hs

theorem flashLaw_takeRestart {s : State} (hs : flashLaw s) : flashLaw (takeRestart s) :=
  flashLaw_of_flash (s := resetBlocks .restart s.sca.active true s) (by simp [takeRestart]) (flashLaw_resetBlocks _ _ _ hs)

theorem flashLaw_verifyFailure (w : Swap) {s : State} (hs : flashLaw s) : flashLaw (verifyFailure w s) :=
  flashLaw_of_flash (congrArg Store.flash (verifyFailure_store w s)) (flashLaw_cutSwap w hs)

theorem flashLaw_endSwap (w : Swap) {s : State} (hs : flashLaw s) : flashLaw (endSwap w s) := by
  rw [flashLaw, (endSwap_pages w s).2]
  exact writeBytes_wf _ _ hs

theorem flashLaw_of_move {s t : State} (h : CoreMove s t) (hs : flashLaw s) : flashLaw t := by
  cases h with
  | still h => exact flashLaw_of_flash (flash_of_view h) hs
  | record f _ => exact hs
  | commit req => exact flashLaw_of_flash (by simp) hs
  | close v _ _ => exact flashLaw_of_flash (by simp) hs
  | abort _ => exact flashLaw_of_flash (by simp) hs
  | leave _ => exact flashLaw_of_flash (by simp) hs
  | start programme serial stamp _ => exact flashLaw_of_flash (startCycle_flash programme serial stamp s) hs
  | warn => exact flashLaw_of_flash (by simp) hs
  | unwarn => exact flashLaw_of_flash (by simp) hs
  | swapStep w _ => exact swapStepFlash_wf w _ hs
  | swapEnd w _ => exact flashLaw_endSwap w hs
  | verifyFail w _ => exact flashLaw_verifyFailure w hs
  | scan _ => exact flashLaw_of_flash (scanKept_scanDone s).flash hs
  | image bytes _ => exact flashLaw_of_flash (by simp) hs
  | hold k => exact flashLaw_holdReset k hs
  | release straps low _ => exact flashLaw_of_flash (by simp) hs
  | restart => exact flashLaw_takeRestart hs

theorem flashLaw_of_moves {s t : State} (h : CoreMoves s t) (hs : flashLaw s) : flashLaw t := by
  induction h with
  | refl => exact hs
  | tail _ hm ih => exact flashLaw_of_move hm ih

/-- Settles O52: every step is a sequence of moves, each of which keeps the form of the flash. -/
theorem stepsKeepTheFlashForm : Obligations.StepsKeepTheFlashForm := by
  intro s t hs h
  exact flashLaw_of_moves (step_moves h) hs

end Sys2Proof.Machine
end

section
/-! SUPPORT. The record reads: how STORE takes them, and what a served read answers (O20). -/
namespace Sys2Proof.Machine

/-! ## Taken (R165, R180, R183, R186, R187) -/

theorem ownOrder_find (broadcast : Bool) (body : List Byte) (s : State) :
    ownOrder broadcast codeFind body s = ownRead codeFind (.serial (body.drop 1)) s := by
  simp [ownOrder, codeFind, codeAbort]

theorem ownOrder_rdnew (broadcast : Bool) (body : List Byte) (s : State) :
    ownOrder broadcast codeRdnew body s = ownRead codeRdnew .newest s := by
  simp [ownOrder, codeRdnew, codeAbort, codeFind, codeItem, codePhases]

theorem ownOrder_rdseq (broadcast : Bool) (body : List Byte) (s : State) :
    ownOrder broadcast codeRdseq body s = ownRead codeRdseq (.seq (field body 0 4)) s := by
  simp [ownOrder, codeRdseq, codeAbort, codeFind, codeItem, codePhases, codeRdnew]

/-- A serial of 1 to 20 serial characters behind its length has FIND's form (R183). -/
theorem wellFormedBody_find {serial : List Byte} (hlo : 1 ≤ serial.length) (hhi : serial.length ≤ 20)
    (hchars : ∀ b ∈ serial, 0x20 ≤ b.toNat ∧ b.toNat ≤ 0x7E) :
    wellFormedBody codeFind (BitVec.ofNat 8 serial.length :: serial) = true := by
  have hlen : field (BitVec.ofNat 8 serial.length :: serial) 0 1 = serial.length :=
    (field_one (by simp)).trans (toNat_byte (by omega))
  have hall : serial.all serialChar = true := List.all_eq_true.mpr fun b hb => by
    obtain ⟨h20, h7E⟩ := hchars b hb
    simp [serialChar, h20, h7E]
  have hform : serialForm serial.length serial = true := by simp [serialForm, hlo, hhi, hall]
  simp [wellFormedBody, hlen, hform, codeFind, codeAbort, codeRdnew, codeRestart]

theorem wellFormedBody_rdseq {seq : List Byte} (h : seq.length = 4) : wellFormedBody codeRdseq seq = true := by
  simp [wellFormedBody, h, codeRdseq, codeFind, codeAbort, codeRdnew, codeRestart, codeItem, codePhases]

/-- A read that STORE takes or refuses by the station state (R165). -/
theorem whenReleased_read {c : State → State} {order : Byte} {r : StoreRead} {s : State} (hb : s.boot ≠ .held)
    (hc : c s = ownRead order r s) :
    (s.cyc.station = .starting → whenReleased c s = .next (answered (refusal order .starting) s))
      ∧ (s.cyc.station ≠ .starting →
        whenReleased c s = .next (leaveIdle { s with lif := { s.lif with decoder := .reading r } })) :=
  ⟨fun h => whenReleased_answered hb (by rw [hc, ownRead, if_pos h]),
    fun h => whenReleased_eq hb (by rw [hc, ownRead, if_neg h]; rfl)⟩

/-! ## The newest of a list of records (R171) -/

/-- Folding over later records ends at one of them, or at the one begun with, and at the highest sequence of all. -/
theorem foldl_laterRecord_some (l : List (Nat × List Byte)) (b : Nat × List Byte) :
    ∃ x, l.foldl laterRecord (some b) = some x ∧ x ∈ b :: l ∧ ∀ y ∈ b :: l, y.1 ≤ x.1 := by
  induction l generalizing b with
  | nil => exact ⟨b, rfl, List.mem_cons_self, by simp⟩
  | cons y l ih =>
    rw [List.foldl_cons, laterRecord]
    split
    next hlt =>
      obtain ⟨x, hx, hmem, hmax⟩ := ih y
      have hy := hmax y List.mem_cons_self
      refine ⟨x, hx, List.mem_cons_of_mem _ hmem, List.forall_mem_cons.mpr ⟨by omega, hmax⟩⟩
    next hle =>
      obtain ⟨x, hx, hmem, hmax⟩ := ih b
      obtain ⟨hb, hl⟩ := List.forall_mem_cons.mp hmax
      refine ⟨x, hx, ?_, List.forall_mem_cons.mpr ⟨hb, List.forall_mem_cons.mpr ⟨by omega, hl⟩⟩⟩
      exact (List.mem_cons.mp hmem).elim (fun e => e ▸ List.mem_cons_self) fun h => by simp [h]

theorem newestOf_some {l : List (Nat × List Byte)} (h : l ≠ []) :
    ∃ x, newestOf l = some x ∧ x ∈ l ∧ ∀ y ∈ l, y.1 ≤ x.1 := by
  obtain ⟨b, l, rfl⟩ := List.exists_cons_of_ne_nil h
  exact foldl_laterRecord_some l b

/-! ## Answered (R165, R170 to R172) -/

/-- The answer that a served read queues. -/
def readReply (st : Store) (r : StoreRead) : Reply :=
  ⟨match r with
    | .seq _ => codeRdseq
    | .newest => codeRdnew
    | .serial _ => codeFind, (readAnswer st r).1, none, 0, (readAnswer st r).2⟩

theorem serveRead_eq {r : StoreRead} {s : State} (h : s.lif.decoder = .reading r) :
    serveRead s = readServed (readReply s.store r) s := by
  unfold serveRead
  rw [h]
  rfl

theorem readAnswer_seq {st : Store} {q : Nat} (h0 : q ≠ 0) (hq : q < 2 ^ 32 - 1) :
    readAnswer st (.seq q) = match slotNow st ((q - 1) % 84) with
      | .valid q' rec => if q' = q then (.data, rec) else (.notHeld, [])
      | .damaged => (.damaged, [])
      | .empty => (.notHeld, []) := by
  have hspent : ¬ (q = 0 ∨ spentSeq ≤ q) := by unfold spentSeq; omega
  rw [readAnswer, if_neg hspent]
  rfl

theorem readAnswer_seq_out {st : Store} {q : Nat} (h : q = 0 ∨ 2 ^ 32 - 1 ≤ q) : readAnswer st (.seq q) = (.notHeld, []) :=
  if_pos h

/-- The answer of a read that looks for the newest of the valid records, or of those with a serial. -/
def newestAnswer (l : List (Nat × List Byte)) : ReplyOutcome × List Byte :=
  match newestOf l with
  | some r => (.data, r.2)
  | none => (.notHeld, [])

theorem newestAnswer_some {l : List (Nat × List Byte)} (h : l ≠ []) :
    ∃ x ∈ l, newestAnswer l = (.data, x.2) ∧ ∀ y ∈ l, y.1 ≤ x.1 := by
  obtain ⟨x, hx, hmem, hmax⟩ := newestOf_some h
  exact ⟨x, hmem, by rw [newestAnswer, hx], hmax⟩

theorem servedBy_seq (st : Store) (q : Nat) : servedBy st (.seq q) (readReply st (.seq q)) := by
  refine ⟨rfl, rfl, rfl, fun hout => ?_, fun h0 hq => ⟨fun rec hs => ?_, fun q' rec hs hne => ?_, fun hs => ?_, fun hs => ?_⟩⟩
  · rw [readReply, readAnswer_seq_out hout]
    exact ⟨rfl, rfl⟩
  all_goals rw [readReply, readAnswer_seq h0 hq, hs]
  · simp
  · simp [hne]
  · exact ⟨rfl, rfl⟩
  · exact ⟨rfl, rfl⟩

theorem servedBy_newest (st : Store) : servedBy st .newest (readReply st .newest) := by
  have hread : readAnswer st .newest = newestAnswer (validRecords st) := rfl
  refine ⟨rfl, rfl, rfl, fun hnil => ?_, fun hne => ?_⟩
  · rw [readReply, hread, hnil]
    exact ⟨rfl, rfl⟩
  · obtain ⟨x, hmem, hx, hmax⟩ := newestAnswer_some hne
    rw [readReply, hread, hx]
    exact ⟨rfl, x.1, hmem, hmax⟩

theorem servedBy_serial (st : Store) (chars : List Byte) :
    servedBy st (.serial chars) (readReply st (.serial chars)) := by
  have hread : readAnswer st (.serial chars)
      = newestAnswer ((validRecords st).filter fun r => recordSerial r.2 == chars) := rfl
  have hmem (x : Nat × List Byte) : x ∈ (validRecords st).filter (fun r => recordSerial r.2 == chars)
      ↔ x ∈ validRecords st ∧ recordSerial x.2 = chars := by rw [List.mem_filter, beq_iff_eq]
  refine ⟨rfl, rfl, rfl, fun hnone => ?_, fun ⟨y, hy, hchars⟩ => ?_⟩
  · have hnil : (validRecords st).filter (fun r => recordSerial r.2 == chars) = [] :=
      List.eq_nil_iff_forall_not_mem.mpr fun x hx => hnone x ((hmem x).mp hx).1 ((hmem x).mp hx).2
    rw [readReply, hread, hnil]
    exact ⟨rfl, rfl⟩
  · obtain ⟨x, hin, hx, hmax⟩ := newestAnswer_some (List.ne_nil_of_mem ((hmem y).mpr ⟨hy, hchars⟩))
    obtain ⟨hvalid, hserial⟩ := (hmem x).mp hin
    rw [readReply, hread, hx]
    exact ⟨rfl, x.1, hvalid, hserial, fun z hz hzs => hmax z ((hmem z).mpr ⟨hz, hzs⟩)⟩

theorem servedBy_readReply (st : Store) (r : StoreRead) : servedBy st r (readReply st r) := by
  cases r with
  | seq q => exact servedBy_seq st q
  | newest => exact servedBy_newest st
  | serial chars => exact servedBy_serial st chars

/-! ## Served (R165, R179, R180) -/

/-- The answer queued and the decoder freed, before what waited behind the read is taken. -/
def readAnswered (answer : Reply) (s : State) : State :=
  { s with lif := { s.lif with decoder := .free, replies := s.lif.replies ++ [answer] } }

theorem readServed_eq (answer : Reply) (s : State) : readServed answer s =
    if s.lif.buffer = [] then readAnswered answer s
    else drain s.lif.buffer.length (seeInputs (readAnswered answer s)) := rfl

theorem readServed_alone (answer : Reply) {s : State} (h : s.lif.buffer = []) :
    readServed answer s = queueReply answer { s with lif := { s.lif with decoder := .free } } := if_pos h

/-- The one frame in the buffer leaves it empty. -/
theorem popBuffer_seeInputs {f : RxFrame} {s : State} (h : s.lif.buffer = [f]) :
    popBuffer (seeInputs s) = seeInputs { s with lif := { s.lif with buffer := [] } } := by
  simp only [popBuffer, seeInputs, withLif, withPins, h, List.tail_cons]

/-- An order that waited behind the read is judged, on the input levels as they stand (R3, R180). -/
theorem readServed_waiting (answer : Reply) {dest order : Byte} {body : List Byte} {own : Bool} {s : State}
    (h : s.lif.buffer = [⟨.full kindOrder 0 dest (order :: body), own⟩]) :
    readServed answer s = judgeOrder (dest == destAll) order body (seeInputs
      { s with lif := { s.lif with buffer := [], decoder := .free, replies := s.lif.replies ++ [answer] } }) := by
  have hanswered : (readAnswered answer s).lif.buffer = [⟨.full kindOrder 0 dest (order :: body), own⟩] := h
  have hdrain := drain_order (s := seeInputs (readAnswered answer s)) hanswered rfl
  rw [popBuffer_seeInputs hanswered] at hdrain
  rw [readServed_eq, h, if_neg (List.cons_ne_nil _ _), List.length_singleton, hdrain]
  rfl

/-- Settles O20: the three reads as STORE takes them, and the read in hand served. -/
theorem readsAreTakenAndServed : Obligations.ReadsAreTakenAndServed := by
  refine ⟨fun dest s h hd => ?_, fun r s hb hr => ?_⟩
  · obtain ⟨hrefused, htaken⟩ := whenReleased_read h.1.1
      ((receive_owned (dest := dest) h hd rfl rfl).trans (ownOrder_rdnew false [] s))
    refine ⟨fun seq hlen => ?_, hrefused, htaken, fun serial hlo hhi hchars => ?_⟩
    · have hseq : field seq 0 4 = fromBe seq := by rw [field, List.drop_zero, List.take_of_length_le hlen.le]
      exact whenReleased_read h.1.1 (by rw [receive_owned h hd rfl (wellFormedBody_rdseq hlen), ownOrder_rdseq, hseq])
    · exact whenReleased_read h.1.1
        ((receive_owned h hd rfl (wellFormedBody_find hlo hhi hchars)).trans (ownOrder_find false _ s))
  · refine ⟨readReply s.store r, servedBy_readReply _ _, fun hbuf => ?_, fun dest order body own hbuf => ?_⟩
    · exact whenReleased_eq hb ((serveRead_eq hr).trans (readServed_alone _ hbuf))
    · exact whenReleased_eq hb ((serveRead_eq hr).trans (readServed_waiting _ hbuf))

end Sys2Proof.Machine
end

section
/-! SUPPORT. A record closed by its CRC word, padded and read back from its slot (O35). -/
namespace Sys2Proof.Machine

/-! ## A record in its slot (R156, R157) -/

theorem testBit_presenceOf (r : OpenRecord) : (presenceOf r).testBit 0 = r.hasNoise ∧ (presenceOf r).testBit 1 = r.has1
    ∧ (presenceOf r).testBit 2 = r.has2 := by
  unfold presenceOf
  cases r.hasNoise <;> cases r.has1 <;> cases r.has2 <;> decide

theorem presenceOf_le (r : OpenRecord) : presenceOf r ≤ 7 := by
  unfold presenceOf
  cases r.hasNoise <;> cases r.has1 <;> cases r.has2 <;> decide

theorem recordLength_presenceOf (r : OpenRecord) : recordLength (presenceOf r)
    = 80 + (if r.hasNoise then 16 else 0) + (if r.has1 then 24 else 0) + (if r.has2 then 24 else 0) := by
  obtain ⟨hnoise, h1, h2⟩ := testBit_presenceOf r
  rw [recordLength, hnoise, h1, h2]

theorem Verdict.code_le (v : Verdict) : v.code ≤ 6 := by cases v <;> decide

@[simp] theorem length_crcBytes (l : List Byte) : (crcBytes l).length = 2 := length_be 2 _

theorem length_closeRecord (image : List Byte) : (closeRecord image).length = image.length + 4 := by
  simp [closeRecord]

/-- A field inside the front part of a list is that part's. -/
theorem field_append {l : List Byte} (l' : List Byte) {off k : Nat} (h : off + k ≤ l.length) :
    field (l ++ l') off k = field l off k := by
  rw [field, field, List.drop_append_of_le_length (by omega), List.take_append_of_le_length]
  rw [List.length_drop]
  omega

/-- The word of a sequence in range is not erased. -/
theorem be_four_ne_erased {seq : Nat} (h : seq < 2 ^ 32 - 1) : be 4 seq ≠ [0xFF, 0xFF, 0xFF, 0xFF] := fun he => by
  have hread : seq % 256 ^ 4 = 2 ^ 32 - 1 := (fromBe_be 4 seq).symm.trans (congrArg fromBe he)
  omega

/-- What R156's tests read of bytes that begin with a record's image: the first word, and the fields tested. -/
structure imageHeader (bytes : List Byte) (r : OpenRecord) : Prop where
  word : bytes.take 4 = be 4 r.seq
  seq : field bytes 0 4 = r.seq
  state : field bytes 4 1 = if r.final then 2 else 1
  verdict : field bytes 5 1 = r.verdict.code
  presence : field bytes 8 1 = presenceOf r

theorem imageHeader_append {r : OpenRecord} (tail : List Byte) (hseq : r.seq < 2 ^ 32 - 1) :
    imageHeader (recordImage r ++ tail) r := by
  have hlen : 76 ≤ (recordImage r).length := by rw [length_recordImage]; omega
  have hone {off n : Nat} (ho : off < 9) (hb : byteAt (recordImage r) off = BitVec.ofNat 8 n) (hn : n < 256) :
      field (recordImage r ++ tail) off 1 = n := by
    rw [field_append _ (by omega), field_one (by omega), hb, toNat_byte hn]
  obtain ⟨h0, h4, h5, -, -, h8, -⟩ := recordImage_fields r
  have hverdict := r.verdict.code_le
  have hpresence := presenceOf_le r
  refine ⟨?_, ?_, hone (by omega) ?_ (by split <;> omega), hone (by omega) h5 (by omega), hone (by omega) h8 (by omega)⟩
  · rw [recordImage_eq, List.append_assoc, List.take_left' (length_be 4 _)]
  · rw [field_append _ (by omega), h0, Nat.mod_eq_of_lt (by omega)]
  · rw [h4]
    split <;> rfl

/-- A slot that begins with a closed record of its sequence is valid, whatever pads it: the image puts its fields where R156
reads them, and its presence set puts the CRC word where the record's length looks for it. -/
theorem slotCond_closed {r : OpenRecord} (pad : List Byte) (hlo : 1 ≤ r.seq) (hseq : r.seq < 2 ^ 32 - 1)
    (hlen : (recordImage r).length + 4 = recordLength (presenceOf r)) :
    slotCond (slotOf r.seq) (closeRecord (recordImage r) ++ pad) = .valid r.seq (closeRecord (recordImage r)) := by
  have hsplit : closeRecord (recordImage r) ++ pad = recordImage r ++ (crcBytes (recordImage r) ++ (be 2 0 ++ pad)) := by
    simp [closeRecord]
  have hheader := imageHeader_append (crcBytes (recordImage r) ++ (be 2 0 ++ pad)) hseq
  rw [← hsplit] at hheader
  obtain ⟨hword, hfield, hstate, hverdict, hpresence⟩ := hheader
  have himage : recordLength (presenceOf r) - 4 = (recordImage r).length := by omega
  have hrecord : slotRecord (closeRecord (recordImage r) ++ pad) = closeRecord (recordImage r) := by
    rw [slotRecord, hpresence, List.take_left' ((length_closeRecord _).trans hlen)]
  have hcrc : crcBytes ((closeRecord (recordImage r) ++ pad).take (recordImage r).length)
      = ((closeRecord (recordImage r) ++ pad).drop (recordImage r).length).take 2 := by
    rw [hsplit, List.take_left, List.drop_left, List.take_left' (length_crcBytes _)]
  have hsound : recordSound (slotOf r.seq) (closeRecord (recordImage r) ++ pad) = true := by
    have h7 := presenceOf_le r
    have h6 := r.verdict.code_le
    have hspent : r.seq < spentSeq := hseq
    rw [recordSound, hpresence, hstate, hverdict, hfield, himage, hcrc]
    cases r.final <;> simp [h7, h6, hlo, hspent]
  rw [slotCond, hword, if_neg (be_four_ne_erased hseq), if_pos hsound, hfield, hrecord]

/-- Settles O35: the sections that the presence set names make the record's length, and a closed record is sound. -/
theorem storedRecordIsValid : Obligations.StoredRecordIsValid := by
  intro r hlo hseq hserial hstamp
  have hlen : (recordImage r).length + 4 = recordLength (presenceOf r) := by
    rw [length_recordImage, recordLength_presenceOf]
    omega
  exact ⟨(length_closeRecord _).trans hlen, (recordLength_bounds _).2, slotCond_closed _ hlo hseq hlen⟩

end Sys2Proof.Machine
end

section
/-! SUPPORT. An order's command before its owner sees it (O16), and a RESTART with its reset (O18). -/
namespace Sys2Proof.Machine

/-! ## An order's command (R179, assumption 3) -/

@[simp] theorem withInputs_lif (c : Instr) (s : State) : (withInputs c s).lif = s.lif := by cases c <;> rfl
@[simp] theorem withInputs_cfg (c : Instr) (s : State) : (withInputs c s).cfg = s.cfg := by cases c <;> rfl
@[simp] theorem withInputs_boot (c : Instr) (s : State) : (withInputs c s).boot = s.boot := by cases c <;> rfl

/-- An order's command is the receipt of its frame, on the input levels that it carries. -/
theorem exec_of_orderOf {c : Instr} {order dest : Byte} {body : List Byte} (s : State)
    (h : orderOf c = some (order, dest, body)) :
    exec c s = whenReleased (receive (orderFrame dest order body) false) (withInputs c s) := by
  cases c <;> cases h <;> rfl

theorem namesOrder_of_orderOf {c : Instr} {order dest : Byte} {body : List Byte} (h : orderOf c = some (order, dest, body)) :
    namesOrder order = true := by
  cases c <;> cases h <;> rfl

/-! ## Routed (R179) -/

theorem isRouted_orderFrame (number : Nat) (dest order : Byte) (body : List Byte) :
    isRouted number (orderFrame dest order body) = true ↔ dest.toNat = number ∨ dest = destAll := by
  have hkind : ((kindOrder == kindPeriodic || kindOrder == kindEvent) : Bool) = false := rfl
  simp [isRouted, orderFrame, isPosting, isOrder, hkind]

theorem receive_other {f : Frame} {own : Bool} {s : State} (h : ¬ isRouted s.cfg.number f = true) : receive f own s = s :=
  if_neg h

theorem receive_overrun {f : Frame} {own : Bool} {s : State} (h : isRouted s.cfg.number f = true)
    (hfull : 2 ≤ s.lif.buffer.length) :
    receive f own s = withCounters (fun k => { k with overruns := bump 65535 k.overruns }) s := by
  rw [receive, if_pos h, if_pos hfull]

/-- An order alone in the buffer stays there behind a busy decoder. -/
theorem drain_order_busy {src dst : Byte} {p : List Byte} {own : Bool} {s : State}
    (hb : s.lif.buffer = [⟨.full kindOrder src dst p, own⟩]) (hd : s.lif.decoder ≠ .free) : drain 1 s = s := by
  unfold drain
  simp [hb, hd]

theorem receive_order_busy {dest order : Byte} {body : List Byte} {own : Bool} {s : State}
    (h : isRouted s.cfg.number (orderFrame dest order body) = true) (hb : s.lif.buffer = []) (hd : s.lif.decoder ≠ .free) :
    receive (orderFrame dest order body) own s
      = withLif (fun l => { l with buffer := [⟨orderFrame dest order body, own⟩] }) s := by
  rw [receive, if_pos h, if_neg (by simp [hb])]
  simp only [withLif, hb, List.nil_append, List.length_singleton]
  exact drain_order_busy rfl hd

/-! ## Judged (R180) -/

theorem dropsOrder_iff (broadcast : Bool) (order : Byte) (s : State) : dropsOrder broadcast order s = true
    ↔ 4 ≤ s.lif.replies.length ∧ (broadcast = true → order ≠ codeAbort ∧ order ≠ codeRestart) := by
  cases broadcast <;> simp [dropsOrder, mayBroadcast]

theorem judgeOrder_drops {broadcast : Bool} {order : Byte} {body : List Byte} {s : State}
    (h : dropsOrder broadcast order s = true) : judgeOrder broadcast order body s
      = withCounters (fun k => { k with repliesDropped := bump 65535 k.repliesDropped }) s := if_pos h

/-- An order that finds room is BAD_ORDER where it may not be broadcast, or comes addressed in a wrong form. -/
theorem judgeOrder_bad {broadcast : Bool} {order : Byte} {body : List Byte} {s : State} (hroom : s.lif.replies.length < 4)
    (hn : namesOrder order = true)
    (h : broadcast = false ∧ wellFormedBody order body = false ∨ broadcast = true ∧ mayBroadcast order = false) :
    judgeOrder broadcast order body s = queueReply (badOrder order body) s := by
  have hdrop : ¬ dropsOrder broadcast order s = true := fun hd => by
    obtain ⟨hfull, -⟩ := (dropsOrder_iff _ _ _).mp hd
    omega
  rw [judgeOrder, if_neg hdrop, if_neg (by simp [hn])]
  rcases h with ⟨rfl, hw⟩ | ⟨rfl, hm⟩
  · simp [hw]
  · simp [hm]

/-- Settles O16, clause by clause in R179's and R180's order. -/
theorem orderIsRoutedAndJudged : Obligations.OrderIsRoutedAndJudged := by
  intro c order dest body s hc hb
  have hexec {t : State} (ht : receive (orderFrame dest order body) false (withInputs c s) = t) :
      exec c s = .next (leaveIdle t) := by
    rw [exec_of_orderOf s hc]
    exact whenReleased_eq (by simpa using hb) ht
  have hroute (hd : addressed s dest ∨ dest = destAll) :
      isRouted (withInputs c s).cfg.number (orderFrame dest order body) = true := by
    rw [isRouted_orderFrame, withInputs_cfg]
    exact hd.imp_left And.left
  have hheard (h : orderHeard s) (hd : addressed s dest ∨ dest = destAll) :
      receive (orderFrame dest order body) false (withInputs c s)
        = judgeOrder (dest == destAll) order body (withInputs c s) := by
    refine receive_order ?_ ?_
    · simpa [orderHeard] using h
    · simpa [addressed] using hd
  refine ⟨fun hne hall => hexec (receive_other ?_), fun hd hfull => hexec (receive_overrun (hroute hd) ?_),
    fun hd hempty hbusy => hexec (receive_order_busy (hroute hd) ?_ ?_), fun h hfull hd => hexec ?_, fun h hd => hexec ?_⟩
  · simp [isRouted_orderFrame, hne, hall]
  · simpa using hfull
  · simpa using hempty
  · simpa using hbusy
  · rw [hheard h (hd.imp_right And.left)]
    refine judgeOrder_drops ((dropsOrder_iff _ _ _).mpr ⟨by simpa using hfull, fun hall => ?_⟩)
    exact hd.elim (fun hd => absurd (beq_iff_eq.mp hall) hd.2) And.right
  · rw [hheard h.1 (hd.imp And.left And.left)]
    refine judgeOrder_bad (by simpa using h.2) (namesOrder_of_orderOf hc) ?_
    rcases hd with ⟨⟨-, hone⟩, hform⟩ | ⟨hall, hcast⟩
    · exact .inl ⟨by simpa using hone, hform⟩
    · exact .inr ⟨by simpa using hall, by simpa [mayBroadcast] using hcast⟩

/-! ## RESTART answered (R188) -/

theorem exec_restart {straps : BitVec 4} {dest : Byte} {body : List Byte} {s t : State} (hb : s.boot ≠ .held)
    (h : receive (orderFrame dest codeRestart body) false (withPins (setStraps straps) s) = t) :
    exec (.restart straps dest body) s = .next (leaveIdle t) :=
  whenReleased_eq (s := withPins (setStraps straps) s) hb h

theorem receive_restart {dest : Byte} {s : State} (h : takesOrders s) (hd : addressed s dest) :
    receive (orderFrame dest codeRestart []) false s = ownRestart false s := by
  rw [receive_owned h hd rfl rfl]
  rfl

/-- A broadcast RESTART goes to the reset logic, a full reply queue or not (R180). -/
theorem receive_broadcast_restart {s : State} (h : orderHeard s) :
    receive (orderFrame destAll codeRestart []) false s = ownRestart true s := by
  have hdrop : ¬ dropsOrder true codeRestart s = true := by simp [dropsOrder_iff]
  rw [receive_order h (.inr rfl), judgeOrder, beq_self_eq_true, if_neg hdrop]
  rfl

theorem ownRestart_starting {s : State} (broadcast : Bool) (h : s.cyc.station = .starting) :
    ownRestart broadcast s = if broadcast then s else queueReply (refusal codeRestart .starting) s := if_pos h

theorem ownRestart_taken {s : State} (broadcast : Bool) (h : s.cyc.station ≠ .starting) :
    ownRestart broadcast s = if broadcast then takeRestart s else withLif (fun l => { l with
      replies := l.replies ++ [plainReply codeRestart .accepted]
      decoder := .restarting
      restartLeft := some 100 }) s := if_neg h

/-- The ACCEPTED of the RESTART in waiting, once sent, brings the reset. -/
theorem sent_restart {rest : List Reply} {s : State} (hst : s.lif.tx.state = .sending) (hc : s.lif.tx.choice = some .reply)
    (hd : s.lif.decoder = .restarting) (hr : s.lif.replies = plainReply codeRestart .accepted :: rest) :
    sent s = takeRestart (seeInputs s) := by
  have hreply : isRestartReply s (plainReply codeRestart .accepted) = true := by simp [isRestartReply, plainReply, hd]
  rw [sent, if_pos hst, hc]
  dsimp only
  rw [replySent, hr]
  exact if_pos hreply

/-! ## The reset of a RESTART (R108, R188, R192, R195, R197) -/

/-- A RESTART enters STARTING as a release does, on the straps and the supply as they stand, and goes on at the scan. -/
theorem takeRestart_eq_release (s : State) : takeRestart s = { releaseReset s.pins.straps s.pins.supplyLow
    (resetBlocks .restart s.sca.active true s) with boot := .scan } := by
  have hpins : (resetBlocks .restart s.sca.active true s).pins = s.pins := by simp
  rw [← hpins]
  rfl

/-- Settles O18: the answer, the two moments at which the reset is taken, and what the reset leaves. -/
theorem restartIsAnsweredAndTaken : Obligations.RestartIsAnsweredAndTaken := by
  refine ⟨fun straps dest s h hd => ?_, fun straps s h => ?_, fun s hb hleft => ?_, fun s rest hb hst hc hd hr => ?_,
    fun s hswap => ?_⟩
  · have hown := receive_restart (s := withPins (setStraps straps) s) h hd
    exact ⟨fun hst => exec_restart h.1.1 (hown.trans (ownRestart_starting false hst)),
      fun hst => exec_restart h.1.1 (hown.trans (ownRestart_taken false hst))⟩
  · have hown := receive_broadcast_restart (s := withPins (setStraps straps) s) h
    exact ⟨fun hst => exec_restart h.1 (hown.trans (ownRestart_starting true hst)),
      fun hst => exec_restart h.1 (hown.trans (ownRestart_taken true hst))⟩
  · exact whenReleased_eq hb (if_pos hleft)
  · exact whenReleased_eq hb (sent_restart hst hc hd hr)
  · rw [takeRestart_eq_release, releaseReset_eq, resetBlocks, cutInFlight_none hswap]
    exact ⟨rfl, rfl, rfl, rfl, rfl, rfl, rfl, rfl, rfl, rfl, rfl, rfl, rfl⟩

end Sys2Proof.Machine
end

section
/-! SUPPORT. A frame taken bit by bit by the receive classifier: a byte from its bits, a frame from its bytes (O33). -/
namespace Sys2Proof.Machine

/-! ## A byte from its bits (R174, R176) -/

/-- A byte's bits spell the byte. -/
theorem bitsNat_byteBits (x : Byte) : bitsNat (byteBits x) = x.toNat := by
  have hx : x.toNat < 256 := x.isLt
  simp only [bitsNat, byteBits, List.map_cons, List.map_nil, List.foldl_cons, List.foldl_nil, BitVec.getLsbD,
    Nat.toNat_testBit]
  omega

theorem addBit_part {b : Bool} {p : RxProgress} (h : p.bits.length < 7) : addBit b p = { p with bits := p.bits ++ [b] } :=
  if_neg (by omega)

/-- The eighth bit completes the byte that the bits spell. -/
theorem addBit_byte {b : Bool} {byte : Byte} {p : RxProgress} (h : p.bits.length = 7)
    (hbyte : byteBits byte = p.bits ++ [b]) : addBit b p = { p with bytes := p.bytes ++ [byte], bits := [] } := by
  rw [addBit, if_pos h, ← hbyte, bitsNat_byteBits, BitVec.ofNat_toNat, BitVec.setWidth_eq]

/-- Fewer than eight bits from a byte's border are kept as a part byte. -/
theorem foldl_addBit_part (bits : List Bool) (p : RxProgress) (h : p.bits.length + bits.length ≤ 7) :
    bits.foldl (fun q b => addBit b q) p = { p with bits := p.bits ++ bits } := by
  induction bits generalizing p with
  | nil => simp
  | cons b bits ih =>
    rw [List.length_cons] at h
    rw [List.foldl_cons, addBit_part (by omega), ih _ (by simp; omega)]
    simp

/-- Seven bits and the eighth, from a byte's border, add their byte. -/
theorem foldl_addBit_eight {byte : Byte} {part : List Bool} {b : Bool} (hlen : part.length = 7)
    (hbyte : byteBits byte = part ++ [b]) (r own : Bool) (bytes : List Byte) :
    (byteBits byte).foldl (fun q b => addBit b q) ⟨r, bytes, [], own⟩ = ⟨r, bytes ++ [byte], [], own⟩ := by
  rw [hbyte, List.foldl_append, foldl_addBit_part part _ (by simp [hlen])]
  exact addBit_byte hlen hbyte

theorem foldl_addBit_byte (x : Byte) (r own : Bool) (bytes : List Byte) :
    (byteBits x).foldl (fun q b => addBit b q) ⟨r, bytes, [], own⟩ = ⟨r, bytes ++ [x], [], own⟩ :=
  foldl_addBit_eight (part := (byteBits x).take 7) (b := x.getLsbD 0) rfl rfl r own bytes

theorem foldl_addBit_bytes (l : List Byte) (r own : Bool) (bytes : List Byte) :
    (l.flatMap byteBits).foldl (fun q b => addBit b q) ⟨r, bytes, [], own⟩ = ⟨r, bytes ++ l, [], own⟩ := by
  induction l generalizing bytes with
  | nil => simp
  | cons x l ih => rw [List.flatMap_cons, List.foldl_append, foldl_addBit_byte, ih, List.append_assoc, List.singleton_append]

/-! ## A frame from its bytes (R176, R177) -/

/-- An opened classifier holds a frame's bytes once it has taken their bits. -/
theorem foldl_addBit_frame (f : Frame) (r : Bool) :
    ((frameBytes f).flatMap byteBits).foldl (fun q b => addBit b q) (openFrame r) = ⟨r, frameBytes f, [], false⟩ :=
  foldl_addBit_bytes _ _ _ _

theorem length_fullBody (kind source dest : Byte) (payload : List Byte) :
    (fullBody kind source dest payload).length = 4 + payload.length := by
  rw [fullBody]
  simp only [List.length_cons]
  omega

theorem length_fullBytes (kind source dest : Byte) (payload : List Byte) :
    (frameBytes (.full kind source dest payload)).length = 6 + payload.length := by
  rw [frameBytes, List.length_append, length_fullBody, length_crcBytes]
  omega

theorem isComplete_full {kind source dest : Byte} {payload : List Byte} (own : Bool) (h : payload.length ≤ 160) :
    isComplete ⟨false, frameBytes (.full kind source dest payload), [], own⟩ = true := by
  have hlen : (byteAt (frameBytes (.full kind source dest payload)) 3).toNat = payload.length := toNat_byte (by omega)
  have hfour : ¬ 6 + payload.length < 4 := by omega
  simp [isComplete, expectedBytes, length_fullBytes, hlen, hfour]

theorem isComplete_short (n : Byte) (own : Bool) : isComplete ⟨true, frameBytes (.short n), [], own⟩ = true := rfl

/-- A full frame's CRC bytes are those of the bytes before them, so it is judged the frame sent. -/
theorem frameOf_full (kind source dest : Byte) (payload : List Byte) (bits : List Bool) (own : Bool) :
    frameOf ⟨false, frameBytes (.full kind source dest payload), bits, own⟩ = some (.full kind source dest payload) := by
  have hcut : (frameBytes (.full kind source dest payload)).length - 2 = (fullBody kind source dest payload).length := by
    rw [length_fullBytes, length_fullBody]
    omega
  simp only [frameOf, hcut]
  rw [frameBytes, List.take_left, List.drop_left, if_pos rfl]
  rfl

theorem frameOf_short (n : Byte) (bits : List Bool) (own : Bool) :
    frameOf ⟨true, frameBytes (.short n), bits, own⟩ = some (.short n) := by
  simp [frameOf, frameBytes, byteAt]

/-- Settles O33: the classifier comes to hold the frame's bytes, and judges them. -/
theorem frameIsReceivedAsSent : Obligations.FrameIsReceivedAsSent :=
  ⟨fun kind source dest payload h =>
      ⟨_, foldl_addBit_frame _ _, isComplete_full false h, frameOf_full kind source dest payload _ _⟩,
    fun n => ⟨_, foldl_addBit_frame _ _, isComplete_short n false, frameOf_short n _ _⟩⟩

end Sys2Proof.Machine
end

section
/-! SUPPORT. The receive classifier by pulse class and stand, and the gap that ends a frame (O31). -/
namespace Sys2Proof.Machine

/-! ## R175's table of widths -/

theorem classify_startFull {ns : Nat} (hlo : 10000 ≤ ns) (hhi : ns < 15000) : classify ns = .startFull := by
  unfold classify
  grind

theorem classify_startRepeat {ns : Nat} (hlo : 5000 ≤ ns) (hhi : ns < 8000) : classify ns = .startRepeat := by
  unfold classify
  grind

theorem classify_bit {ns : Nat} {bit : Bool}
    (h : bit = false ∧ 500 ≤ ns ∧ ns < 1500 ∨ bit = true ∧ 1500 ≤ ns ∧ ns < 3000) : classify ns = .bit bit := by
  unfold classify
  grind

theorem classify_someBit {ns : Nat} (hlo : 500 ≤ ns) (hhi : ns < 3000) : ∃ bit, classify ns = .bit bit := by
  by_cases h : ns < 1500
  · exact ⟨false, classify_bit (.inl ⟨rfl, hlo, h⟩)⟩
  · exact ⟨true, classify_bit (.inr ⟨rfl, by omega, hhi⟩)⟩

theorem classify_error {ns : Nat}
    (h : ns < 500 ∨ 3000 ≤ ns ∧ ns < 5000 ∨ 8000 ≤ ns ∧ ns < 10000 ∨ 15000 ≤ ns) : classify ns = .error := by
  unfold classify
  grind

/-! ## A pulse (R175, R176) -/

theorem takePulse_startFull {s : State} (h : s.lif.classifier = .waitStart) :
    takePulse .startFull s = setClassifier (.inFrame (openFrame false)) (setBusIdle false s) := by
  simp [takePulse, classifyPulse, h]

theorem takePulse_startRepeat {s : State} (h : s.lif.classifier = .waitStart) :
    takePulse .startRepeat s = setClassifier (.inFrame (openFrame true)) (setBusIdle false s) := by
  simp [takePulse, classifyPulse, h]

theorem takePulse_bit {p : RxProgress} {s : State} (bit : Bool) (h : s.lif.classifier = .inFrame p) :
    takePulse (.bit bit) s = bitTaken bit p (setBusIdle false s) := by
  simp [takePulse, classifyPulse, h]

/-- Inside a frame every pulse but a bit is an error (R175). -/
theorem takePulse_inFrame_wrong {c : PulseClass} {p : RxProgress} {s : State} (h : s.lif.classifier = .inFrame p)
    (hc : ∀ b, c ≠ .bit b) : takePulse c s = pulseError (setBusIdle false s) := by
  cases c with
  | bit b => exact absurd rfl (hc b)
  | startFull => simp [takePulse, classifyPulse, h]
  | startRepeat => simp [takePulse, classifyPulse, h]
  | error => simp [takePulse, classifyPulse, h]

/-- Where a start is due every other pulse is an error (R175). -/
theorem takePulse_waitStart_wrong {c : PulseClass} {s : State} (h : s.lif.classifier = .waitStart)
    (hfull : c ≠ .startFull) (hrepeat : c ≠ .startRepeat) : takePulse c s = pulseError (setBusIdle false s) := by
  cases c with
  | bit b => simp [takePulse, classifyPulse, h]
  | startFull => exact absurd rfl hfull
  | startRepeat => exact absurd rfl hrepeat
  | error => simp [takePulse, classifyPulse, h]

/-- The three commands that bring a pulse have it taken by its width. -/
theorem exec_pulse {c : Instr} {ns : Nat} {s t : State} (hb : s.boot ≠ .held)
    (hc : c = .startPulse ns ∨ c = .bitPulse ns ∨ c = .pulseError ns) (ht : takePulse (classify ns) s = t) :
    exec c s = .next (leaveIdle t) := by
  rcases hc with rfl | rfl | rfl <;> exact whenReleased_eq hb ht

/-! ## A bit inside a frame (R176) -/

theorem bitTaken_complete {b : Bool} {p : RxProgress} {s : State} (h : isComplete p = true) :
    bitTaken b p s = lengthError s := if_pos h

theorem bitTaken_added {b : Bool} {p q : RxProgress} {s : State} (hc : isComplete p = false) (hq : addBit b p = q)
    (hl : tooLong q = false) : bitTaken b p s = setClassifier (.inFrame q) s := by
  simp [bitTaken, hc, hq, hl]

theorem bitTaken_tooLong {b : Bool} {p q : RxProgress} {s : State} (hc : isComplete p = false) (hq : addBit b p = q)
    (hl : tooLong q = true) : bitTaken b p s = lengthError s := by
  simp [bitTaken, hc, hq, hl]

/-- A full frame's length byte above 160 is too long as soon as it is complete. -/
theorem tooLong_lengthByte {p : RxProgress} {byte : Byte} (bits : List Bool) (hr : p.isRepeat = false)
    (hlen : p.bytes.length = 3) (hbyte : 160 < byte.toNat) :
    tooLong { p with bytes := p.bytes ++ [byte], bits := bits } = true := by
  have hat : byteAt (p.bytes ++ [byte]) 3 = byte := by simp [byteAt, ← hlen]
  simp [tooLong, hr, hlen, hat, hbyte]

/-! ## A gap (R174, R176) -/

theorem frameEnded_incomplete {p : RxProgress} {s : State} (h : s.lif.classifier = .inFrame p) (hc : isComplete p = false) :
    frameEnded s = lengthError s := by
  simp [frameEnded, h, hc]

theorem frameEnded_damaged {p : RxProgress} {s : State} (h : s.lif.classifier = .inFrame p) (hc : isComplete p = true)
    (hf : frameOf p = none) : frameEnded s = crcError s := by
  simp [frameEnded, h, hc, hf]

theorem frameEnded_sound {p : RxProgress} {f : Frame} {s : State} (h : s.lif.classifier = .inFrame p)
    (hc : isComplete p = true) (hf : frameOf p = some f) :
    frameEnded s = receive f p.own (seeInputs (setClassifier .waitStart s)) := by
  simp [frameEnded, h, hc, hf]

theorem busIdle_waitIdle {quiet : Bool} {s : State} (h : s.lif.classifier = .waitIdle quiet) :
    busIdle s = setClassifier .waitStart (setBusIdle true s) := by rw [busIdle, h]

theorem busIdle_running {s : State} (h : s.lif.classifier = .waitStart ∨ ∃ p, s.lif.classifier = .inFrame p) :
    busIdle s = setBusIdle true s := by
  rcases h with h | ⟨p, h⟩ <;> rw [busIdle, h]

theorem exec_lineStuck {s : State} (hb : s.boot ≠ .held) (h : s.lif.classifier ≠ .stopped) :
    exec .lineStuck s = .next (leaveIdle
      (withCounters (fun k => { k with lineStuck := bump 65535 k.lineStuck }) (setBusIdle false s))) := by
  rw [exec, execLineStuck, whenReleased_running hb, if_neg h]

/-- Settles O31: each pulse by its width and the classifier's stand, then the gaps and the stuck line. -/
theorem classifierTakesPulsesAndGaps : Obligations.ClassifierTakesPulsesAndGaps := by
  intro s hb
  refine ⟨fun h ns hlo hhi => ?_, fun h ns hlo hhi => ?_, fun p bit ns h hc hns => ?_, fun p ns h hc hlo hhi => ?_,
    fun ns hns c hc => exec_pulse hb hc ?_, fun quiet h => whenReleased_eq hb (busIdle_waitIdle h),
    fun h => whenReleased_eq hb (busIdle_running h), exec_lineStuck hb,
    fun p h => ⟨fun hc => ?_, fun hc hf => ?_, fun f hc hf => ?_⟩⟩
  · refine exec_pulse hb (.inl rfl) ?_
    rw [classify_startFull hlo hhi]
    exact takePulse_startFull h
  · refine exec_pulse hb (.inl rfl) ?_
    rw [classify_startRepeat hlo hhi]
    exact takePulse_startRepeat h
  · have hbit {t : State} (ht : bitTaken bit p (setBusIdle false s) = t) : exec (.bitPulse ns) s = .next (leaveIdle t) :=
      exec_pulse hb (.inr (.inl rfl)) (by rw [classify_bit hns, takePulse_bit bit h, ht])
    exact ⟨fun hpart hl => hbit (bitTaken_added hc (addBit_part hpart) hl),
      fun byte heighth hbyte => ⟨fun hl => hbit (bitTaken_added hc (addBit_byte heighth hbyte) hl),
        fun hr hlen h160 => hbit (bitTaken_tooLong hc (addBit_byte heighth hbyte) (tooLong_lengthByte [] hr hlen h160))⟩⟩
  · obtain ⟨bit, hbit⟩ := classify_someBit hlo hhi
    refine exec_pulse hb (.inr (.inl rfl)) ?_
    rw [hbit, takePulse_bit bit h]
    exact bitTaken_complete hc
  · rcases hns with ⟨p, h, hns⟩ | ⟨h, hlo, hhi⟩ | ⟨h, hns⟩
    · refine takePulse_inFrame_wrong h fun b => ?_
      rcases hns with ⟨hlo, hhi⟩ | ⟨hlo, hhi⟩
      · simp [classify_startRepeat hlo hhi]
      · simp [classify_startFull hlo hhi]
    · obtain ⟨bit, hbit⟩ := classify_someBit hlo hhi
      exact takePulse_waitStart_wrong h (by simp [hbit]) (by simp [hbit])
    · rw [classify_error hns]
      rcases h with ⟨p, h⟩ | h
      · exact takePulse_inFrame_wrong h (by simp)
      · exact takePulse_waitStart_wrong h (by simp) (by simp)
  · exact whenReleased_eq hb (frameEnded_incomplete h hc)
  · exact whenReleased_eq hb (frameEnded_damaged h hc hf)
  · exact whenReleased_eq hb (frameEnded_sound h hc hf)

end Sys2Proof.Machine
end

section
/-! SUPPORT. What each command does to the queue of the commands behind it: no operation of a meaning touches it (O3). -/
namespace Sys2Proof.Machine

/-! ## The noise check and the run-in -/

theorem noiseHanded_pending (s : State) : (noiseHanded s).pending = s.pending := by
  obtain ⟨v, d, -, h⟩ := noiseHanded_eq s
  rw [h]

@[simp] theorem enterSegment_pending (i : Nat) (s : State) : (enterSegment i s).pending = s.pending := by
  simp [enterSegment]

@[simp] theorem segmentEnd_pending (s : State) : (segmentEnd s).pending = s.pending := by
  rw [segmentEnd_eq]
  split <;> simp [segmentCounted]

@[simp] theorem takeOutcome_pending (again : Bool) (s : State) : (takeOutcome again s).pending = s.pending := by
  unfold takeOutcome
  split <;> simp

@[simp] theorem moveStep_pending (target rate : Nat) (s : State) : (moveStep target rate s).pending = s.pending := by
  unfold moveStep
  dsimp only
  split <;> simp

@[simp] theorem dwellStep_pending (g : Segment) (s : State) : (dwellStep g s).pending = s.pending := by
  unfold dwellStep
  dsimp only
  split <;> simp

@[simp] theorem sweepEnd_pending (s : State) : (sweepEnd s).pending = s.pending := by
  unfold sweepEnd
  by_cases hv : (lsnSweepEnded (setStage .assessing s)).vib.state = .idle
  · rw [assessSweep, if_pos hv]
    simp
  · rw [assessSweep_eq hv]
    simp [noiseHanded_pending]

@[simp] theorem sweepStep_pending (g : Segment) (s : State) : (sweepStep g s).pending = s.pending := by
  unfold sweepStep
  dsimp only
  split
  · split <;> simp
  · split <;> simp
  · rfl
  · rfl

@[simp] theorem actStep_pending (s : State) : (actStep s).pending = s.pending := by
  unfold actStep
  split
  · simp
  · simp
  · split <;> simp
  · simp

@[simp] theorem activeStep_pending (s : State) : (activeStep s).pending = s.pending := by
  unfold activeStep
  dsimp only
  split <;> simp

@[simp] theorem rampStep_pending (s : State) : (rampStep s).pending = s.pending := by
  unfold rampStep
  split <;> simp

/-! ## The cycle and the posting period -/

@[simp] theorem startCycle_pending (programme : Nat) (serial stamp : List Byte) (s : State) :
    (startCycle programme serial stamp s).pending = s.pending := by
  rw [startCycle_eq]
  simp [startReady]

theorem abortCycle_pending (e : DevEvent) {stop : State → State} (hstop : ∀ u, (stop u).pending = u.pending) (s : State) :
    (abortCycle e stop s).pending = s.pending := by
  simp [abortCycle, hstop]

@[simp] theorem abortTaken_pending (broadcast : Bool) (s : State) : (abortTaken broadcast s).pending = s.pending := by
  unfold abortTaken
  split
  · exact abortCycle_pending _ (by simp) s
  · rfl

@[simp] theorem standAbort_pending (input : Nat) (s : State) : (standAbort input s).pending = s.pending := by
  unfold standAbort
  split
  · exact abortCycle_pending _ (by simp) s
  · simp
  · rfl

@[simp] theorem axleFall_pending (which : AxleInput) (s : State) : (axleFall which s).pending = s.pending := by
  unfold axleFall
  split
  · split <;> simp
  · simp

@[simp] theorem periodExpiry_pending (a b : Bool) (s : State) : (periodExpiry a b s).pending = s.pending := by
  cases a <;> cases b <;> simp [periodExpiry, expiryReaders, leakExpiry]

/-! ## The line interface -/

@[simp] theorem ownAbort_pending (broadcast : Bool) (s : State) : (ownAbort broadcast s).pending = s.pending := by
  unfold ownAbort
  split
  · simp
  · split <;> simp

@[simp] theorem ownStart_pending (body : List Byte) (s : State) : (ownStart body s).pending = s.pending := by
  unfold ownStart
  split <;> simp

@[simp] theorem ownOrder_pending (broadcast : Bool) (order : Byte) (body : List Byte) (s : State) :
    (ownOrder broadcast order body s).pending = s.pending := by
  unfold ownOrder
  (repeat' split) <;> simp

@[simp] theorem judgeOrder_pending (broadcast : Bool) (order : Byte) (body : List Byte) (s : State) :
    (judgeOrder broadcast order body s).pending = s.pending := by
  unfold judgeOrder
  (repeat' split) <;> simp

@[simp] theorem takeOrder_pending (dest : Byte) (payload : List Byte) (s : State) :
    (takeOrder dest payload s).pending = s.pending := by
  unfold takeOrder
  split
  · split <;> simp
  · simp

@[simp] theorem drain_pending (n : Nat) (s : State) : (drain n s).pending = s.pending := by
  induction n generalizing s with
  | zero => rfl
  | succ n ih =>
    unfold drain
    (repeat' split) <;> simp [ih]

@[simp] theorem receive_pending (f : Frame) (own : Bool) (s : State) : (receive f own s).pending = s.pending := by
  unfold receive
  split
  · split <;> simp
  · rfl

@[simp] theorem serveRead_pending (s : State) : (serveRead s).pending = s.pending := by
  cases hd : s.lif.decoder with
  | free => unfold serveRead; rw [hd]
  | restarting => unfold serveRead; rw [hd]
  | reading r =>
    obtain ⟨answer, h⟩ := serveRead_reading hd
    rw [h, readServed]
    split <;> simp

@[simp] theorem frameEnded_pending (s : State) : (frameEnded s).pending = s.pending := by
  unfold frameEnded
  (repeat' split) <;> simp

/-! ## Every command by its kind -/

/-- A command taken by a running station alone: `whenReleased` runs its meaning on the input levels that it shows, and the
meaning leaves the queue as it is. -/
def takenWhenReleased (c : Instr) : Prop :=
  ∃ (f : State → State) (p : State → Pins),
    (∀ s, exec c s = whenReleased f { s with pins := p s }) ∧ ∀ s, (f s).pending = s.pending

/-- Every command but the two of the reset logic is one that a running station alone takes: the commands whose meaning tests
the state first, those that write RUN and VIB at once, and those whose meaning has a frame of its own. -/
theorem instr_cases (c : Instr) :
    (∃ k, c = .reset k) ∨ (∃ straps low, c = .resetRelease straps low) ∨ takenWhenReleased c := by
  cases c with
  | reset k => exact .inl ⟨k, rfl⟩
  | resetRelease straps low => exact .inr (.inl ⟨straps, low, rfl⟩)
  | lineStuck | restartTimeout | countingPulse | conversionComplete | oilHistoryAppend | swapStepDone | swapEnd
  | imageReadDone | storeScanDone =>
    refine .inr (.inr ⟨_, _, fun s => by unfold exec; exact rfl, fun s => ?_⟩)
    (repeat' split) <;> simp
  | indexPulse | indexTimeout => exact .inr (.inr ⟨_, _, fun s => by unfold exec; exact rfl, fun s => by rfl⟩)
  | _ => exact .inr (.inr ⟨_, _, fun s => by unfold exec; exact rfl, fun s => by simp⟩)

theorem holdReset_held {k : HardReset} {s : State} (h : s.boot = .held) : holdReset k s = s := if_pos h

end Sys2Proof.Machine
end

section
/-! SUPPORT. The commands that wait, and a station held in reset (O1, O3, O4). -/
namespace Sys2Proof.Machine

/-- Settles O4: only the two commands of the reset logic get past a reset, and a further RESET only prolongs it. -/
theorem heldStationTakesNothing : Obligations.HeldStationTakesNothing := by
  intro c s hb hc
  rcases instr_cases c with ⟨k, rfl⟩ | ⟨straps, low, rfl⟩ | htaken
  · exact ⟨_, congrArg Host.Outcome.next (holdReset_held hb), rfl⟩
  · exact absurd rfl (hc straps low)
  · obtain ⟨f, p, hexec, -⟩ := htaken
    exact ⟨_, (hexec s).trans (whenReleased_held hb), rfl⟩

/-- A command that a running station takes completes on every state, with the queue as it was. -/
theorem takenWhenReleased.completes {c : Instr} (h : takenWhenReleased c) (s : State) :
    ∃ t, exec c s = .next t ∧ t.pending = s.pending := by
  obtain ⟨f, p, hexec, hqueue⟩ := h
  rcases whenReleased_cases f { s with pins := p s } with ⟨-, hnext⟩ | ⟨-, hnext⟩
  · exact ⟨_, (hexec s).trans hnext, rfl⟩
  · exact ⟨_, (hexec s).trans hnext, by simp [hqueue]⟩

/-- Settles O3: by the kind of the command, each meaning leaving the queue to the commands behind it. -/
theorem everyCommandCompletes : Obligations.EveryCommandCompletes := by
  intro c s
  rcases instr_cases c with ⟨k, rfl⟩ | ⟨straps, low, rfl⟩ | htaken
  · exact ⟨holdReset k s, rfl, by simp⟩
  · by_cases hb : s.boot = .held
    · exact ⟨_, if_pos hb, by simp⟩
    · exact ⟨s, if_neg hb, rfl⟩
  · exact htaken.completes s

/-- Settles O1: a queue with a command in front is the first case of a step. -/
theorem stepRunsFront : Obligations.StepRunsFront := by
  intro c rest s hq
  rw [step, hq]

end Sys2Proof.Machine
end
